-- ==== Sys2Proof/Word.lean ====
section
/-!
DEFINITION. Word.lean: the plainest data of the PM6464 model: a byte, a byte string and a stroke stamp.
-/

namespace Sys2Proof

/-- One byte. -/
abbrev Byte := BitVec 8

/-- A byte string, first byte first. -/
abbrev Bytes := List Byte

/-- A stroke stamp of R5: boot count and stroke number; stamps compare by boot count first. -/
structure Stamp where
  boot : Nat
  stroke : Nat
  deriving DecidableEq, Repr

/-- The zero stamp. -/
def Stamp.zero : Stamp := ⟨0, 0⟩

end Sys2Proof
end

