-- ==== Sys2Proof/Syntax.lean ====
section
/-!
DEFINITION. Syntax.lean: the commands of the block (spec/opcode_table.json) and the operand types they take. An operand is
a value the step takes from outside the model: a level measured, bytes received, a written value, a choice the spec
leaves to the surroundings.
-/

namespace Sys2Proof

/-- How a Ledger requester is reached (R100, R120-R122, R441). -/
inductive Via where
  | none
  | ring (page ring pos gen addr cap : Nat)
  | can (ctrl fmt : Nat)
  | ridge (node : Nat)
  | relay (prot : Nat)
  deriving DecidableEq, Repr

/-- A Ledger requester: class of the Ledger (0 global, 1 tenant, 2 CAN, 3 Ridgeline, 4 firmware) and index. -/
structure Requester where
  cls : Nat
  idx : Nat
  via : Via
  tag : Nat
  deriving DecidableEq, Repr

/-- A copy of a Ridgeline frame as it ran over a forward input: bytes from header to CRC, code violations in it, ended by EOF
without ABORT, its SOF in CK_SYS cycles from the start of its slot. -/
structure RidgeRx where
  frame : Bytes
  violations : Nat
  ended : Bool
  sof : Int
  deriving DecidableEq, Repr

/-- The commands of the block, one per row of spec/opcode_table.json, with the values each takes from outside. -/
inductive Instr where
  /-- STROKE_BOUNDARY (R44). -/
  | strokeBoundary (ref : Nat) (ilim : Bool)
  /-- GATHER_CLOSE (R34). -/
  | gatherClose (padA padB : Bool) (corrected : Nat) (bad : List Nat) (sram : Bool)
  /-- UNIT_RE_RUN (R41). -/
  | unitReRun
  /-- WORK_DEADLINE (R41). -/
  | workDeadline (vhold : Nat) (service : Bool) (finish : Nat) (gate : Bool)
  /-- CLOCK_CHECK_WINDOW (R33). -/
  | clockCheckWindow (count : Nat)
  /-- POWER_ON_RESET (R78). -/
  | powerOnReset (pages : Nat)
  /-- AO_RELEASE (R76). -/
  | aoRelease (cascId bootOpt : Nat) (factory : Bool)
  /-- FIRST_STROKE (R76). -/
  | firstStroke (vhold : Nat)
  /-- VHOLD_TIMEOUT (R77). -/
  | vholdTimeout (vhold : Nat)
  /-- CK_AO_CRYSTAL_STABLE (R76). -/
  | ckAoCrystalStable
  /-- BLOTTER_ESTIMATE (R96). -/
  | blotterEstimate (uf : Nat)
  /-- VDD3_BROWN_OUT (R71). -/
  | vdd3BrownOut (cut : Option Nat)
  /-- REGULATOR_FAILURE (R78). -/
  | regulatorFailure (cut : Option Nat)
  /-- AO_BROWN_OUT (R78). -/
  | aoBrownOut
  /-- RESET_N (R79). -/
  | resetN
  /-- BROWN_OUT_WARNING (R95). -/
  | brownOutWarning
  /-- BROWN_OUT_WARNING_END (R95). -/
  | brownOutWarningEnd
  /-- VLF_UNDERVOLTAGE (R97). -/
  | vlfUndervoltage (bank : Nat)
  /-- VLF_OVERVOLTAGE (R97). -/
  | vlfOvervoltage (bank : Nat)
  /-- VLF_RELEASE (R97). -/
  | vlfRelease (bank : Nat)
  /-- DOMAIN_ENABLE (R74). -/
  | domainEnable (r : Requester) (v : Bytes)
  /-- DOMAIN_READY (R74). -/
  | domainReady (n : Nat) (pass : Bool)
  /-- SUBSYSTEM_RESET (R86). -/
  | subsystemReset (r : Requester) (v : Bytes)
  /-- WATCHDOG (R81). -/
  | watchdog
  /-- CORE_FAULT (R80). -/
  | coreFault (tagged : Bool)
  /-- CORE_RESET (R83). -/
  | coreReset
  /-- GUY_LATCH_UPSET (R88). -/
  | guyLatchUpset (fld copy : Nat)
  /-- FEED_LATCH_OFF_CLEAR (R89). -/
  | feedLatchOffClear
  /-- STANDBY_REQUEST (R91). -/
  | standbyRequest (r : Requester) (v : Bytes)
  /-- STANDBY_IDLE (R91). -/
  | standbyIdle
  /-- WAKE (R93). -/
  | wake (source : Nat)
  /-- STRAP_CHANGE (R65). -/
  | strapChange (levels : Nat)
  /-- EXTEST (R64). -/
  | extest
  /-- SAMPLE_PRELOAD (R64). -/
  | samplePreload (cells sampled : Nat)
  /-- SELF_TEST_RUN (R64). -/
  | selfTestRun
  /-- SELF_TEST_RESULT (R64). -/
  | selfTestResult
  /-- BYPASS (R64). -/
  | bypass
  /-- SELF_TEST_DONE (R64). -/
  | selfTestDone (results : Nat)
  /-- LEDGER_TRANSACTION (R107). -/
  | ledgerTransaction
  /-- TRANSACTION_DEFERRED (R109). -/
  | transactionDeferred
  /-- SEGMENT_REASSEMBLY_TIMEOUT (R121). -/
  | segmentReassemblyTimeout (src : Nat)
  /-- READ_SINGLE_LANE (R130). -/
  | readSingleLane (cmd : Bytes)
  /-- READ_QUAD (R130). -/
  | readQuad (cmd : Bytes)
  /-- WRITE_SINGLE_LANE (R130). -/
  | writeSingleLane (cmd data : Bytes)
  /-- WRITE_QUAD (R130). -/
  | writeQuad (cmd data : Bytes)
  /-- PROBE (R130). -/
  | probe (cmd : Bytes)
  /-- REGISTER_WRITE (R132). -/
  | registerWrite (page off v : Nat)
  /-- IRQ_CAUSE_CLEAR (R148). -/
  | irqCauseClear (page v : Nat)
  /-- RING_IRQ_STATUS_CLEAR (R148). -/
  | ringIrqStatusClear (page w v : Nat)
  /-- TENANT_VIOLATED_CLEAR (R134). -/
  | tenantViolatedClear (w v : Nat)
  /-- TENANT_RESET (R150). -/
  | tenantReset (v : Nat)
  /-- TENANT_RESET_COMPLETE (R150). -/
  | tenantResetComplete (t : Nat)
  /-- TENANT_ENABLE (R153). -/
  | tenantEnable (r : Requester) (v : Bytes)
  /-- CORE_RESET_REQUEST (R151). -/
  | coreResetRequest (v : Nat)
  /-- RING_ENABLE (R140). -/
  | ringEnable (page v : Nat)
  /-- RING_DISABLE (R140). -/
  | ringDisable (page v : Nat)
  /-- RING_DRAINED (R140). -/
  | ringDrained (page ring : Nat)
  /-- HOST_IDX_WRITE (R141). -/
  | hostIdxWrite (page ring v : Nat)
  /-- GRANULE_OWNER_CHANGE (R147). -/
  | granuleOwnerChange (r : Requester) (n : Nat) (v : Bytes)
  /-- RING_QUOTA (R152). -/
  | ringQuota (r : Requester) (quotas : List (Nat × Nat))
  /-- REGRANT_MOVED (R152). -/
  | regrantMoved
  /-- QP_GO (R199). -/
  | qpGo (page v : Nat)
  /-- BOOT_LOAD_WINDOW_CLOSE (R477). -/
  | bootLoadWindowClose
  /-- SCRUB_VISIT (R171). -/
  | scrubVisit (weak : List Nat)
  /-- SCRUB_REWRITE (R172). -/
  | scrubRewrite (still : List Nat)
  /-- PAGE_RETIREMENT (R172). -/
  | pageRetirement (bad : Nat)
  /-- CBC_ENCRYPT (R184). -/
  | cbcEncrypt (lane : Nat)
  /-- CBC_DECRYPT (R184). -/
  | cbcDecrypt (lane : Nat)
  /-- CTR (R185). -/
  | ctr (lane : Nat)
  /-- GCM_ENCRYPT (R185). -/
  | gcmEncrypt (lane : Nat)
  /-- GCM_DECRYPT_AND_VERIFY (R206). -/
  | gcmDecryptAndVerify (lane : Nat)
  /-- CCM_ENCRYPT (R185). -/
  | ccmEncrypt (lane : Nat)
  /-- CCM_DECRYPT_AND_VERIFY (R206). -/
  | ccmDecryptAndVerify (lane : Nat)
  /-- CMAC_GENERATE (R184). -/
  | cmacGenerate (lane : Nat)
  /-- CMAC_VERIFY (R206). -/
  | cmacVerify (lane : Nat)
  /-- KEY_DERIVATION (R186). -/
  | keyDerivation (lane : Nat)
  /-- QUILL_COMPLETION (R198). -/
  | quillCompletion (lane : Nat)
  /-- PARITY_FAULT (R204). -/
  | parityFault (lane : Nat)
  /-- ENTROPY_FAULT (R203). -/
  | entropyFault
  /-- DRBG_RESEED (R202). -/
  | drbgReseed
  /-- KEY_LOAD (R191). -/
  | keyLoad (r : Requester) (v : Bytes)
  /-- KEY_LOAD_PROTECTED (R191). -/
  | keyLoadProtected (r : Requester) (v : Bytes)
  /-- KEY_ERASE (R193). -/
  | keyErase (r : Requester) (v : Bytes)
  /-- KEY_INSTALL (R192). -/
  | keyInstall
  /-- KEY_SETTLED (R192). -/
  | keySettled (pos : Nat)
  /-- LF_ACTIVITY_START (R219). -/
  | lfActivityStart
  /-- LF_BURST_END (R224). -/
  | lfBurstEnd (current : Nat) (phase : Int) (under detuned : Bool)
  /-- LF_DRIVER_FAULT (R223). -/
  | lfDriverFault (ch kind : Nat)
  /-- THERMAL_RELEASE (R223). -/
  | thermalRelease (ch : Nat)
  /-- REGULATORY_WINDOW (R212). -/
  | regulatoryWindow
  /-- LF_CARRIER_CHANGE (R210). -/
  | lfCarrierChange
  /-- LF_CHANNEL_CLEAR (R223). -/
  | lfChannelClear (r : Requester) (n : Nat) (v : Bytes)
  /-- CRADLE_UPLINK (R222). -/
  | cradleUplink (rx : Bytes) (current : Nat) (phase : Int)
  /-- CRADLE_UPLINK_TIMEOUT (R222). -/
  | cradleUplinkTimeout (current : Nat) (phase : Int)
  /-- HANDLE_SCAN (R225). -/
  | handleScan (m0 m1 m2 m3 : Nat)
  /-- HS_STUCK (R226). -/
  | hsStuck (ch : Nat)
  /-- RADIO_WAKE (R238). -/
  | radioWake (radio : Nat)
  /-- RADIO_ACTIVITY_START (R238). -/
  | radioActivityStart (gnt : Bool)
  /-- RADIO_ACTIVITY_END (R252). -/
  | radioActivityEnd (radio kind quality : Nat) (stamps : Bytes) (fp rx : Int)
  /-- PACKET_RECEIVED (R234). -/
  | packetReceived (rx : Bytes) (rssi off : Int)
  /-- RADIO_SLEEP (R237). -/
  | radioSleep (radio : Nat)
  /-- CALIBRATION (R242). -/
  | calibration (n : Nat) (temp : Int)
  /-- CAL_STALE (R242). -/
  | calStale (n : Nat)
  /-- SNIFF_WINDOW (R248). -/
  | sniffWindow (gnt : Bool)
  /-- COEX_GNT_LOST (R251). -/
  | coexGntLost
  /-- POLL_START (R259). -/
  | pollStart
  /-- START_REQUEST (R259). -/
  | startRequest (r : Requester) (v : Bytes)
  /-- WAKE_LISTEN_END (R259). -/
  | wakeListenEnd
  /-- RESPONSE_GATHERED (R267). -/
  | responseGathered
  /-- DECISION (R274). -/
  | decision
  /-- LOCKOUT_WINDOW_CLOSE (R280). -/
  | lockoutWindowClose
  /-- LOCKOUT_SECOND_SERVED (R281). -/
  | lockoutSecondServed
  /-- LOCKOUT_CLEAR (R282). -/
  | lockoutClear (r : Requester) (v : Bytes)
  /-- HELD_TELEGRAM_EXPIRY (R258). -/
  | heldTelegramExpiry (slot : Nat)
  /-- LEARN_RECORD (R300). -/
  | learnRecord (r : Requester) (n : Nat) (v : Bytes)
  /-- LEARN_RECORD_CLEAR (R300). -/
  | learnRecordClear (r : Requester) (v : Bytes)
  /-- LEARN_START (R301). -/
  | learnStart (r : Requester) (v : Bytes)
  /-- LEARN_STAGE (R302). -/
  | learnStage
  /-- LEARN_VERIFY (R302). -/
  | learnVerify
  /-- LEARN_PHASE_COMMIT (R302). -/
  | learnPhaseCommit
  /-- LEARN_SCRUB (R302). -/
  | learnScrub
  /-- LEARN_DONE (R302). -/
  | learnDone
  /-- LEARN_SLAVE_TIMEOUT (R302). -/
  | learnSlaveTimeout (n : Nat)
  /-- LEARN_HOLD_TIMEOUT (R302). -/
  | learnHoldTimeout
  /-- CS_AUTH (R293). -/
  | csAuth (r : Requester) (v : Bytes)
  /-- CS_TOKEN_AUTH (R294). -/
  | csTokenAuth (r : Requester) (v : Bytes)
  /-- AUTHENTICATION (R295). -/
  | authentication
  /-- PROPOSAL_EXPIRY (R295). -/
  | proposalExpiry (num : Nat)
  /-- PROTECTION_SEAL (R290). -/
  | protectionSeal (r : Requester) (v : Bytes)
  /-- DEBUG_UNLOCK (R298). -/
  | debugUnlock (r : Requester) (v : Bytes)
  /-- DEBUG_UNLOCK_EXPIRY (R298). -/
  | debugUnlockExpiry
  /-- COMMISSION_START (R307). -/
  | commissionStart (r : Requester) (v : Bytes)
  /-- FEED_ENABLE (R320). -/
  | feedEnable
  /-- FEED_START_DELAY (R320). -/
  | feedStartDelay
  /-- SWITCHING_BEGINS (R319). -/
  | switchingBegins (track : Nat)
  /-- RAMP_COMPLETE (R320). -/
  | rampComplete
  /-- PG_DELAY (R325). -/
  | pgDelay
  /-- PG_DROP (R325). -/
  | pgDrop
  /-- FEED_DISABLE (R320). -/
  | feedDisable
  /-- STOP_COMPLETE (R320). -/
  | stopComplete
  /-- UNDERVOLTAGE_EVENT (R321). -/
  | undervoltageEvent
  /-- START_TIMEOUT (R322). -/
  | startTimeout
  /-- HICCUP_OFF_END (R323). -/
  | hiccupOffEnd
  /-- HICCUP_COUNT_RESET (R323). -/
  | hiccupCountReset
  /-- FEED_FAULT_CLEAR (R326). -/
  | feedFaultClear (r : Requester) (v : Bytes)
  /-- FEED_LOCK (R313). -/
  | feedLock (f : Nat)
  /-- SYNC_IN_LOSS (R314). -/
  | syncInLoss
  /-- RELOCK (R314). -/
  | relock (f : Nat)
  /-- LOAD_STEP (R317). -/
  | loadStep (ready : Nat)
  /-- LOAD_STEP_REARM (R317). -/
  | loadStepRearm
  /-- FEED_CONFIG_APPLY (R327). -/
  | feedConfigApply
  /-- STATUS (R334). -/
  | status (seq ref : Nat)
  /-- SET_VID (R334). -/
  | setVid (seq vid slew ref : Nat)
  /-- FEEDLINE_UNKNOWN_CMD (R334). -/
  | feedlineUnknownCmd (cmd seq slew ref : Nat)
  /-- FEEDLINE_CRC_ERROR (R333). -/
  | feedlineCrcError
  /-- EXCHANGE_CUT (R331). -/
  | exchangeCut (clocks : Nat)
  /-- TRANSITION_END (R334). -/
  | transitionEnd
  /-- ACK_SET (R336). -/
  | ackSet (ref : Nat)
  /-- FEEDLINE_LOST (R337). -/
  | feedlineLost (ref : Nat)
  /-- RELEASE_FEED_ENABLE (R340). -/
  | releaseFeedEnable
  /-- RELEASE_OUTPUTS (R341). -/
  | releaseOutputs
  /-- RELEASE_TIMEOUT (R342). -/
  | releaseTimeout
  /-- IGNITION_OFF (R345). -/
  | ignitionOff (r : Requester) (v : Bytes)
  /-- FRAME_RECEIVED (R364). -/
  | frameReceived (slot : Nat) (a b : Option RidgeRx)
  /-- FRAME_SEND (R367). -/
  | frameSend (fid overlaps : Nat)
  /-- VOTE_FRAME (R368). -/
  | voteFrame
  /-- MINISLOT (R372). -/
  | minislot (win : Nat) (heard : Option (Nat × Bool)) (blind : Bool)
  /-- CLOCK_CORRECTION (R386). -/
  | clockCorrection (offset : Int)
  /-- LISTEN_TIMEOUT (R380). -/
  | listenTimeout
  /-- COLDSTART_FRAME (R381). -/
  | coldstartFrame
  /-- COLDSTART_COMPLETE (R381). -/
  | coldstartComplete
  /-- LOSS_OF_SYNCHRONISATION (R388). -/
  | lossOfSynchronisation
  /-- LINE_BREAK (R400). -/
  | lineBreak (input : Nat)
  /-- WRAP (R401). -/
  | wrap
  /-- SIDE_RESTORE (R402). -/
  | sideRestore (side : Nat)
  /-- GUARDIAN_TRIP (R403). -/
  | guardianTrip
  /-- BABBLE (R404). -/
  | babble (side kind source hops : Nat)
  /-- FRAME_VERIFIED (R395). -/
  | frameVerified
  /-- SCHEDULE_DECISION (R398). -/
  | scheduleDecision
  /-- SCHEDULE_SWITCH (R398). -/
  | scheduleSwitch
  /-- SCHEDULE_ADOPTION (R399). -/
  | scheduleAdoption
  /-- RIDGE_ISOLATE (R405). -/
  | ridgeIsolate (r : Requester) (v : Bytes)
  /-- RIDGE_REQUEST (R397). -/
  | ridgeRequest (r : Requester) (v : Bytes)
  /-- RIDGE_GUARD_CLEAR (R403). -/
  | ridgeGuardClear (r : Requester) (v : Bytes)
  /-- CAN_FRAME_RECEIVED (R413). -/
  | canFrameReceived (k flags id : Nat) (data : Bytes)
  /-- CAN_FRAME_SENT (R414). -/
  | canFrameSent (k : Nat)
  /-- TX_LIFETIME_EXPIRY (R414). -/
  | txLifetimeExpiry (k : Nat)
  /-- ERROR_STATE_CHANGE (R416). -/
  | errorStateChange (k tec rec : Nat)
  /-- BUS_OFF (R417). -/
  | busOff (k : Nat)
  /-- BUS_OFF_HOLD_EXPIRY (R417). -/
  | busOffHoldExpiry (k : Nat)
  /-- CAN_RECOVER (R417). -/
  | canRecover (r : Requester) (n : Nat) (v : Bytes)
  /-- RECOVERY_COMPLETE (R417). -/
  | recoveryComplete (k : Nat)
  /-- PROTOCOL_EXCEPTION (R408). -/
  | protocolException (k : Nat)
  /-- MARKER_RECEIVED (R428). -/
  | markerReceived (marker : Bytes) (arrival : Int)
  /-- ECHO (R427). -/
  | echo
  /-- ECHO_REPLY (R427). -/
  | echoReply
  /-- ECHO_REPLY_RECEIVED (R427). -/
  | echoReplyReceived (rtt : Nat)
  /-- DISCOVER (R430). -/
  | discover
  /-- HELLO (R431). -/
  | hello (source : Nat) (payload : Bytes) (ok : Bool)
  /-- ADMIT (R432). -/
  | poleAdmit (payload : Bytes) (ok : Bool)
  /-- ADMISSION_EFFECTIVE (R432). -/
  | admissionEffective
  /-- REFUSE (R431). -/
  | refuse (reason : Nat)
  /-- REFUSE_RETRY (R431). -/
  | refuseRetry
  /-- SECOND_MASTER (R430). -/
  | secondMaster
  /-- SLAVE_FIRST_STROKE (R429). -/
  | slaveFirstStroke (marker : Option Nat)
  /-- LF_SCHEDULE (R433). -/
  | lfSchedule (payload : Bytes) (late : Bool)
  /-- RADIO_LIST (R433). -/
  | radioList (payload : Bytes) (late : Bool)
  /-- ABORT_ACTIVITY (R433). -/
  | abortActivity (which : Nat)
  /-- KEY_CONTEXT (R435). -/
  | keyContext (payload : Bytes)
  /-- LEARN_PAGE (R439). -/
  | learnPage (payload : Bytes)
  /-- LEARN_COMMIT (R439). -/
  | learnCommit (digest : Bytes)
  /-- STANDBY_FRAME (R440). -/
  | standbyFrame
  /-- RELAY (R441). -/
  | relay (prot : Nat) (msg : Bytes)
  /-- POLE_ITEM (R434). -/
  | poleItem (source cls idx seq : Nat) (val : Bytes) (due : Nat) (ok : Bool)
  /-- POLE_STATUS (R436). -/
  | poleStatus (source : Nat) (payload : Bytes)
  /-- LEARN_REPORT (R439). -/
  | learnReport (source v : Nat)
  /-- STANDBY_REPLY (R440). -/
  | standbyReply (source status : Nat)
  /-- RELAY_RESPONSE (R441). -/
  | relayResponse (source : Nat) (msg : Bytes)
  /-- STANDBY_REPLY_TIMEOUT (R440). -/
  | standbyReplyTimeout
  /-- SLAVE_LOST (R437). -/
  | slaveLost (n : Nat)
  /-- SLAVE_STRANDED (R438). -/
  | slaveStranded
  /-- POLE_RELAY (R441). -/
  | poleRelay (r : Requester) (n : Nat) (v : Bytes)
  /-- POLE_RELAY_PROTECTED (R441). -/
  | poleRelayProtected (r : Requester) (n : Nat) (v : Bytes)
  /-- RELAY_TIMEOUT (R441). -/
  | relayTimeout (n : Nat)
  /-- EXPORT_SELECTION (R457). -/
  | exportSelection
  /-- EXPORT_DELIVERY (R459). -/
  | exportDelivery
  /-- FOLIO_ACK (R460). -/
  | folioAck (r : Requester) (v : Bytes)
  /-- ACK_TIMEOUT (R460). -/
  | ackTimeout (stream : Nat)
  /-- FOLIO_NOTE (R463). -/
  | folioNote (r : Requester) (n : Nat) (v : Bytes)
  /-- IMAGE_ACTIVATE (R473). -/
  | imageActivate (r : Requester) (v : Bytes)
  /-- ACTIVATION_COPY (R474). -/
  | activationCopy
  /-- ACTIVATION_VERIFIED (R474). -/
  | activationVerified
  /-- ACTIVATION_SEALED (R474). -/
  | activationSealed
  /-- ACTIVATION_COMMITTED (R474). -/
  | activationCommitted
  /-- PLL_LOSS_OF_LOCK (R48). -/
  | pllLossOfLock
  /-- PLL_RELOCK (R48). -/
  | pllRelock
  /-- SUPERVISION_LOSS (R401). -/
  | supervisionLoss (side : Nat)
  /-- SYMBOL_SYNC_LOSS (R400). -/
  | symbolSyncLoss (input : Nat)
  /-- SYMBOL_SYNC_REGAIN (R400). -/
  | symbolSyncRegain (input : Nat)
  /-- CAN_INTEGRATION_COMPLETE (R411). -/
  | canIntegrationComplete (k : Nat)
  /-- ACTIVATION_HOLD_TIMEOUT (R474). -/
  | activationHoldTimeout
  deriving DecidableEq, Repr

end Sys2Proof
end

