-- ==== Sys2Proof/Decode.lean ====
section
/-!
DEFINITION. Decode.lean: the command a table word spells. spec/opcode_table.json gives no row any bits, so no word spells a
command; the block has no instruction encoding (log entry 10).
-/

namespace Sys2Proof

/-- The command whose row gives the bits of `w`: none, since the table gives bits to no row.
DEDUCED, log entry 10, safe. -/
def decodeTableWord (_nbits _w : Nat) : Option Instr := none

end Sys2Proof
end

