-- ==== Sys2Proof/Config.lean ====
section
/-!
DEFINITION. Config.lean: what an implementation fixes and the spec leaves open, as constants with no value
(free values: no proof can see what they are), each named in a log entry.
-/

namespace Sys2Proof.Config

/-- Byte number `n` drawn from the CTR_DRBG since manufacture (R38, R202): entropy has no value the spec
could give. FREE VALUE, log entry 6. -/
opaque entropyByte : Nat → Byte

/-- 0x1000.04 UNIQUE_ID, set by the device (R125). FREE VALUE, log entry 7. -/
opaque uniqueId : BitVec 128

/-- 0x1000.03 STEPPING of this device: 1 A1, 2 B0 (R1, R125). FREE VALUE, log entry 7. -/
opaque steppingIsB0 : Bool

/-- PHASE_COUNT of a proposal's in-flight entry, for which no chapter states a number (R112, R115). FREE VALUE, log entry 47. -/
opaque proposalPhases : Nat

/-- PRI of an exchange's entries, UWB_ANTSEL of a ranging entry, and its preamble code counted from 9: fields of
R240 that no rule fixes. FREE VALUES, log entry 95. -/
opaque exchangePri : Bool
@[inherit_doc exchangePri] opaque rangeAntsel : Bool
@[inherit_doc exchangePri] opaque rangeCode : Fin 4

/-- A measured value the spec states no number for (a measurement taken of a burst that did not drive, R224;
a rounding left open): measurement number `n`, in its own item field. FREE VALUE, log entry 8. -/
opaque openValue : Nat → Nat

/-- The boot ROM's P-256 public keys for main images and for microcode, as (x, y), fixed in mask (R466). FREE VALUE, log
entry 7. -/
opaque mainKey : Nat × Nat
/-- DESIGN CHOICE, log entry 7, safe. -/
opaque ucodeKey : Nat × Nat

end Sys2Proof.Config
end

