-- ==== Sys2Proof/Machine/Hash.lean ====
section
/-!
DEFINITION. Hash.lean: the check sums and the digest the spec names: CRC-8 (R128), CRC-16 (R118), CRC-32 (R162)
and SHA-256 (FIPS 180-4), each by structural recursion over numbers.
-/

namespace Sys2Proof.Machine

/-- The bytes as numbers. -/
def nums (b : Bytes) : List Nat := b.map BitVec.toNat

/-- Numbers as bytes, each modulo 256. -/
def toBytes (l : List Nat) : Bytes := l.map (BitVec.ofNat 8)

/-- One byte into a most-significant-bit-first CRC of `w` bits with polynomial `poly`. -/
def crcMsbByte (w poly crc byte : Nat) : Nat :=
  (List.range 8).foldl
    (fun c _ => if c.testBit (w - 1) then ((c <<< 1) ^^^ poly) % 2 ^ w else (c <<< 1) % 2 ^ w)
    (crc ^^^ (byte <<< (w - 8)))

/-- CRC-8 of R128: polynomial 0x07, initial value 0. -/
def crc8 (b : Bytes) : Nat := (nums b).foldl (crcMsbByte 8 0x07) 0

/-- CRC-16 of R118: polynomial 0x1021, initial value 0xFFFF. -/
def crc16 (b : Bytes) : Nat := (nums b).foldl (crcMsbByte 16 0x1021) 0xFFFF

/-- One byte into the reflected CRC-32 of R162. -/
def crc32Byte (crc byte : Nat) : Nat :=
  (List.range 8).foldl (fun c _ => if c % 2 = 1 then (c >>> 1) ^^^ 0xEDB88320 else c >>> 1) (crc ^^^ byte)

/-- CRC-32 of R162: polynomial 0x04C11DB7, reflected, initial value and final exclusive-OR 0xFFFFFFFF. -/
def crc32 (b : Bytes) : Nat := ((nums b).foldl crc32Byte 0xFFFFFFFF) ^^^ 0xFFFFFFFF

/-! ### SHA-256 -/

/-- The round constants of FIPS 180-4. -/
def shaK : List Nat :=
  [0x428a2f98, 0x71374491, 0xb5c0fbcf, 0xe9b5dba5, 0x3956c25b, 0x59f111f1, 0x923f82a4, 0xab1c5ed5,
   0xd807aa98, 0x12835b01, 0x243185be, 0x550c7dc3, 0x72be5d74, 0x80deb1fe, 0x9bdc06a7, 0xc19bf174,
   0xe49b69c1, 0xefbe4786, 0x0fc19dc6, 0x240ca1cc, 0x2de92c6f, 0x4a7484aa, 0x5cb0a9dc, 0x76f988da,
   0x983e5152, 0xa831c66d, 0xb00327c8, 0xbf597fc7, 0xc6e00bf3, 0xd5a79147, 0x06ca6351, 0x14292967,
   0x27b70a85, 0x2e1b2138, 0x4d2c6dfc, 0x53380d13, 0x650a7354, 0x766a0abb, 0x81c2c92e, 0x92722c85,
   0xa2bfe8a1, 0xa81a664b, 0xc24b8b70, 0xc76c51a3, 0xd192e819, 0xd6990624, 0xf40e3585, 0x106aa070,
   0x19a4c116, 0x1e376c08, 0x2748774c, 0x34b0bcb5, 0x391c0cb3, 0x4ed8aa4a, 0x5b9cca4f, 0x682e6ff3,
   0x748f82ee, 0x78a5636f, 0x84c87814, 0x8cc70208, 0x90befffa, 0xa4506ceb, 0xbef9a3f7, 0xc67178f2]

/-- The initial hash value of FIPS 180-4. -/
def shaH : List Nat := [0x6a09e667, 0xbb67ae85, 0x3c6ef372, 0xa54ff53a, 0x510e527f, 0x9b05688c, 0x1f83d9ab, 0x5be0cd19]

/-- Rotation right of a 32-bit word. -/
def rotr32 (n x : Nat) : Nat := (x >>> n) ||| ((x <<< (32 - n)) % 2 ^ 32)

/-- The next word of the message schedule from the sixteen before it, newest first. -/
def shaNext (w : List Nat) : Nat :=
  let a := w.getD 1 0
  let b := w.getD 14 0
  let s0 := rotr32 7 b ^^^ rotr32 18 b ^^^ (b >>> 3)
  let s1 := rotr32 17 a ^^^ rotr32 19 a ^^^ (a >>> 10)
  (s1 + w.getD 6 0 + s0 + w.getD 15 0) % 2 ^ 32

/-- The 64 words of the message schedule, newest first. -/
def shaSched (block : List Nat) : List Nat :=
  (List.range 48).foldl (fun w _ => shaNext w :: w) block.reverse

/-- One round on the working variables a to h. -/
def shaRound (v : List Nat) (kw : Nat × Nat) : List Nat :=
  match v with
  | [a, b, c, d, e, f, g, h] =>
    let s1 := rotr32 6 e ^^^ rotr32 11 e ^^^ rotr32 25 e
    let ch := (e &&& f) ^^^ ((e ^^^ 0xFFFFFFFF) &&& g)
    let t1 := h + s1 + ch + kw.1 + kw.2
    let s0 := rotr32 2 a ^^^ rotr32 13 a ^^^ rotr32 22 a
    let maj := (a &&& b) ^^^ (a &&& c) ^^^ (b &&& c)
    [(t1 + s0 + maj) % 2 ^ 32, a, b, c, (d + t1) % 2 ^ 32, e, f, g]
  | _ => v

/-- One 16-word block into the hash value. -/
def shaBlock (h : List Nat) (block : List Nat) : List Nat :=
  let v := (shaK.zip (shaSched block).reverse).foldl shaRound h
  (h.zip v).map fun p => (p.1 + p.2) % 2 ^ 32

/-- Big-endian words of four bytes. -/
def beWords : List Nat → List Nat
  | a :: b :: c :: d :: r => (a * 2 ^ 24 + b * 2 ^ 16 + c * 2 ^ 8 + d) :: beWords r
  | _ => []

/-- The list cut into pieces of `n` (with `fuel` pieces at most). -/
def chunks {α : Type} (n : Nat) : Nat → List α → List (List α)
  | 0, _ => []
  | fuel + 1, l => if l.isEmpty then [] else l.take n :: chunks n fuel (l.drop n)

/-- `n` bytes of `v`, most significant first. -/
def beBytes : Nat → Nat → Bytes
  | 0, _ => []
  | n + 1, v => BitVec.ofNat 8 (v / 256 ^ n) :: beBytes n v

/-- `n` bytes of `v`, least significant first. -/
def leBytes : Nat → Nat → Bytes
  | 0, _ => []
  | n + 1, v => BitVec.ofNat 8 v :: leBytes n (v / 256)

/-- SHA-256 of FIPS 180-4. -/
def sha256 (m : Bytes) : Bytes :=
  let pad := (119 - m.length % 64) % 64
  let full := m ++ [0x80] ++ List.replicate pad 0 ++ beBytes 8 (8 * m.length)
  let blocks := chunks 16 (full.length / 64 + 1) (beWords (nums full))
  (blocks.foldl shaBlock shaH).flatMap (beBytes 4)

end Sys2Proof.Machine
end

