-- ==== Sys2Proof/Machine/Crypto.lean ====
section
/-!
DEFINITION. Crypto.lean: the published algorithms Quill runs (R184-R187): AES of FIPS 197, CBC, CTR, GCM, CCM, CMAC,
the key derivation of R186, and ECDSA P-256 verification of FIPS 186-5 for the boot ROM (R466). Computed on numbers
0-255 by structural recursion.
-/

namespace Sys2Proof.Machine

/-! ### AES -/

/-- The AES S-box, entry x in bits [8x+7:8x]. -/
def sboxTable : Nat := 0x16bb54b00f2d99416842e6bf0d89a18cdf2855cee9871e9b948ed9691198f8e19e1dc186b95735610ef6034866b53e708a8bbd4b1f74dde8c6b4a61c2e2578ba08ae7a65eaf4566ca94ed58d6d37c8e779e4959162acd3c25c2406490a3a32e0db0b5ede14b8ee4688902a22dc4f816073195d643d7ea7c41744975fec130ccdd2f3ff1021dab6bcf5389d928f40a351a89f3c507f02f94585334d43fbaaefd0cf584c4a39becb6a5bb1fc20ed00d153842fe329b3d63b52a05a6e1b1a2c830975b227ebe28012079a059618c323c7041531d871f1e5a534ccf73f362693fdb7c072a49cafa2d4adf04759fa7dc982ca76abd7fe2b670130c56f6bf27b777c63

/-- The inverse S-box, laid out alike. -/
def invSboxTable : Nat := 0x7d0c2155631469e126d677ba7e042b17619953833cbbebc8b0f52aae4d3be0a0ef9cc9939f7ae52d0d4ab519a97f51605fec8027591012b131c7078833a8dd1ff45acd78fec0db9a2079d2c64b3e56fc1bbe18aa0e62b76f89c5291d711af1476edf751ce837f9e28535ade72274ac9673e6b4f0cecff297eadc674f4111913a6b8a130103bdafc1020f3fca8f1e2cd00645b3b80558e4f70ad3bc8c00abd890849d8da75746155edab9edfd5048706c92b6655dcc5ca4d41698688664f6f87225d18b6d49a25b76b224d92866a12e084ec3fa420b954cee3d23c2a632947b54cbe9dec444438e3487ff2f9b8239e37cfbd7f3819ea340bf38a53630d56a0952

/-- S-box of one byte. -/
def subByte (x : Nat) : Nat := (sboxTable >>> (8 * x)) % 256

/-- Inverse S-box of one byte. -/
def invSubByte (x : Nat) : Nat := (invSboxTable >>> (8 * x)) % 256

/-- Multiplication by x in GF(2^8). -/
def xtime (b : Nat) : Nat := if b < 128 then 2 * b else (2 * b) ^^^ 0x11B

/-- Multiplication in GF(2^8) by a small constant. -/
def gfMul (k b : Nat) : Nat :=
  (if k.testBit 0 then b else 0) ^^^ (if k.testBit 1 then xtime b else 0) ^^^
  (if k.testBit 2 then xtime (xtime b) else 0) ^^^ (if k.testBit 3 then xtime (xtime (xtime b)) else 0)

/-- Byte-wise exclusive-OR, as long as the shorter. -/
def xorL (a b : List Nat) : List Nat := List.zipWith (· ^^^ ·) a b

/-- One column by a row-rotated matrix of constants. -/
def mixCol (m : List Nat) (c : List Nat) : List Nat :=
  (List.range 4).map fun r =>
    (List.range 4).foldl (fun acc k => acc ^^^ gfMul (m.getD ((k + 4 - r) % 4) 0) (c.getD k 0)) 0

/-- MixColumns with the given first row. -/
def mixCols (m : List Nat) (s : List Nat) : List Nat := (chunks 4 4 s).flatMap (mixCol m)

/-- ShiftRows as a permutation of the 16 bytes. -/
def shiftRows (s : List Nat) : List Nat :=
  [0, 5, 10, 15, 4, 9, 14, 3, 8, 13, 2, 7, 12, 1, 6, 11].map (s.getD · 0)

/-- Inverse ShiftRows. -/
def invShiftRows (s : List Nat) : List Nat :=
  [0, 13, 10, 7, 4, 1, 14, 11, 8, 5, 2, 15, 12, 9, 6, 3].map (s.getD · 0)

/-- The next key-schedule word, from the words so far newest first; `nk` words of key, index `i`. -/
def nextKeyWord (nk i : Nat) (ws : List (List Nat)) : List Nat :=
  let t := ws.getD 0 []
  let t :=
    if i % nk = 0 then
      xorL ((t.drop 1 ++ t.take 1).map subByte) [([1, 2, 4, 8, 16, 32, 64, 128, 27, 54].getD (i / nk - 1) 0), 0, 0, 0]
    else if nk > 6 ∧ i % nk = 4 then t.map subByte
    else t
  xorL (ws.getD (nk - 1) []) t

/-- The round keys of a key of 16, 24 or 32 bytes. -/
def roundKeys (key : List Nat) : List (List Nat) :=
  let nk := key.length / 4
  let total := 4 * (nk + 7)
  let ws := (List.range (total - nk)).foldl (fun ws j => nextKeyWord nk (nk + j) ws :: ws) (chunks 4 8 key).reverse
  chunks 16 15 ws.reverse.flatten

/-- AES encryption of one 16-byte block under prepared round keys. -/
def aesEncRk (rk : List (List Nat)) (blk : List Nat) : List Nat :=
  match rk with
  | [] => blk
  | k0 :: r =>
    let mid := r.dropLast.foldl (fun s k => xorL (mixCols [2, 3, 1, 1] (shiftRows (s.map subByte))) k) (xorL blk k0)
    xorL (shiftRows (mid.map subByte)) (r.getLastD [])

/-- AES decryption of one 16-byte block under prepared round keys. -/
def aesDecRk (rk : List (List Nat)) (blk : List Nat) : List Nat :=
  match rk.reverse with
  | [] => blk
  | k0 :: r =>
    let mid := r.dropLast.foldl
      (fun s k => mixCols [14, 11, 13, 9] (xorL ((invShiftRows s).map invSubByte) k)) (xorL blk k0)
    xorL ((invShiftRows mid).map invSubByte) (r.getLastD [])

/-- AES encryption of one block. -/
def aesEnc (key blk : List Nat) : List Nat := aesEncRk (roundKeys key) blk

/-- The blocks of 16 bytes of a string; the last may be short. -/
def blocks16 (l : List Nat) : List (List Nat) := chunks 16 (l.length / 16 + 1) l

/-! ### CBC and CTR (R184, R185) -/

/-- CBC encryption. -/
def cbcEnc (key iv p : List Nat) : List Nat :=
  let rk := roundKeys key
  ((blocks16 p).foldl (fun (acc : List Nat × List Nat) b =>
    let c := aesEncRk rk (xorL b acc.1); (c, acc.2 ++ c)) (iv, [])).2

/-- CBC decryption. -/
def cbcDec (key iv c : List Nat) : List Nat :=
  let rk := roundKeys key
  ((blocks16 c).foldl (fun (acc : List Nat × List Nat) b =>
    (b, acc.2 ++ xorL (aesDecRk rk b) acc.1)) (iv, [])).2

/-- A number from bytes, most significant first. -/
def beOf (l : List Nat) : Nat := l.foldl (fun a b => 256 * a + b) 0

/-- `n` bytes of a number, most significant first. -/
def beTo (n v : Nat) : List Nat := (List.range n).map fun i => v / 256 ^ (n - 1 - i) % 256

/-- CTR with the counter block increased by `inc` at each block. -/
def ctrWith (inc : List Nat → List Nat) (key ctr p : List Nat) : List Nat :=
  let rk := roundKeys key
  ((blocks16 p).foldl (fun (acc : List Nat × List Nat) b =>
    (inc acc.1, acc.2 ++ xorL b (aesEncRk rk acc.1))) (ctr, [])).2

/-- The whole 128-bit counter plus one (R185). -/
def inc128 (c : List Nat) : List Nat := beTo 16 (beOf c + 1)

/-- The last 32 bits plus one, as GCM counts. -/
def inc32 (c : List Nat) : List Nat := c.take 12 ++ beTo 4 (beOf (c.drop 12) + 1)

/-- CTR of R185. -/
def ctrMode (key ctr p : List Nat) : List Nat := ctrWith inc128 key ctr p

/-! ### GCM (R185) -/

/-- Multiplication in GF(2^128) of SP 800-38D, blocks as numbers with the first bit most significant. -/
def ghashMul (x y : Nat) : Nat :=
  ((List.range 128).foldl (fun (acc : Nat × Nat) i =>
    ((if x.testBit (127 - i) then acc.1 ^^^ acc.2 else acc.1),
     (if acc.2 % 2 = 1 then (acc.2 >>> 1) ^^^ (0xE1 <<< 120) else acc.2 >>> 1))) (0, y)).1

/-- Zero padding to whole blocks. -/
def padBlocks (l : List Nat) : List Nat := l ++ List.replicate ((16 - l.length % 16) % 16) 0

/-- GHASH. -/
def ghash (h : Nat) (l : List Nat) : Nat :=
  (blocks16 l).foldl (fun y b => ghashMul (y ^^^ beOf b) h) 0

/-- The full GCM tag over associated data and ciphertext. -/
def gcmTag (key iv aad c : List Nat) : List Nat :=
  let h := beOf (aesEnc key (List.replicate 16 0))
  let s := ghash h (padBlocks aad ++ padBlocks c ++ beTo 8 (8 * aad.length) ++ beTo 8 (8 * c.length))
  xorL (aesEnc key (iv ++ [0, 0, 0, 1])) (beTo 16 s)

/-- GCM's counter mode, either direction. -/
def gcmCrypt (key iv p : List Nat) : List Nat := ctrWith inc32 key (iv ++ [0, 0, 0, 2]) p

/-! ### CMAC (R184) and key derivation (R186) -/

/-- Doubling in GF(2^128) for the CMAC subkeys. -/
def dbl128 (x : Nat) : Nat := if x.testBit 127 then ((2 * x) % 2 ^ 128) ^^^ 0x87 else 2 * x

/-- The full CMAC of SP 800-38B. -/
def cmac (key m : List Nat) : List Nat :=
  let rk := roundKeys key
  let k1 := dbl128 (beOf (aesEncRk rk (List.replicate 16 0)))
  let bs := if m.isEmpty then [[]] else blocks16 m
  let last := bs.getLastD []
  let last := if last.length = 16 then xorL last (beTo 16 k1)
    else xorL (padBlocks (last ++ [0x80])) (beTo 16 (dbl128 k1))
  aesEncRk rk (xorL (bs.dropLast.foldl (fun x b => aesEncRk rk (xorL x b)) (List.replicate 16 0)) last)

/-- K(1) || K(2) || ... of R186, cut to `n` bytes. -/
def kdf (key p : List Nat) (n : Nat) : List Nat :=
  ((List.range ((n + 15) / 16)).flatMap fun i => cmac key (beTo 4 (i + 1) ++ p ++ beTo 4 (8 * n))).take n

/-! ### CCM (R185) -/

/-- The associated data with its length encoding, SP 800-38C Appendix A. -/
def ccmAad (a : List Nat) : List Nat :=
  if a.isEmpty then []
  else if a.length < 0xFF00 then beTo 2 a.length ++ a
  else [0xFF, 0xFE] ++ beTo 4 a.length ++ a

/-- The CBC-MAC of B0, associated data and payload. -/
def ccmMac (key nonce aad p : List Nat) (t : Nat) : List Nat :=
  let q := 15 - nonce.length
  let b0 := [(if aad.isEmpty then 0 else 64) + 8 * ((t - 2) / 2) + (q - 1)] ++ nonce ++ beTo q p.length
  let rk := roundKeys key
  (blocks16 (b0 ++ padBlocks (ccmAad aad) ++ padBlocks p)).foldl (fun x b => aesEncRk rk (xorL x b)) (List.replicate 16 0)

/-- The counter block of index `i`. -/
def ccmCtr (nonce : List Nat) (i : Nat) : List Nat := [14 - nonce.length] ++ nonce ++ beTo (15 - nonce.length) i

/-- CCM's tag of `t` bytes. -/
def ccmTag (key nonce aad p : List Nat) (t : Nat) : List Nat :=
  (xorL (ccmMac key nonce aad p t) (aesEnc key (ccmCtr nonce 0))).take t

/-- CCM's counter mode, either direction. -/
def ccmCrypt (key nonce p : List Nat) : List Nat := ctrWith inc128 key (ccmCtr nonce 1) p

/-! ### ECDSA P-256 (R466) -/

/-- The field prime of P-256. -/
def p256P : Nat := 0xFFFFFFFF00000001000000000000000000000000FFFFFFFFFFFFFFFFFFFFFFFF

/-- The group order of P-256. -/
def p256N : Nat := 0xFFFFFFFF00000000FFFFFFFFFFFFFFFFBCE6FAADA7179E84F3B9CAC2FC632551

/-- The base point of P-256. -/
def p256G : Nat × Nat :=
  (0x6B17D1F2E12C4247F8BCE6E563A440F277037D812DEB33A0F4A13945D898C296,
   0x4FE342E2FE1A7F9B8EE7EB4A7C0F9E162BCE33576B315ECECBB6406837BF51F5)

/-- Powers modulo `m`, by squaring over 256 bits. -/
def powMod (m b e : Nat) : Nat :=
  (List.range 256).foldl (fun a i => let a := a * a % m; if e.testBit (255 - i) then a * b % m else a) 1

/-- Addition of two points, `none` the point at infinity. -/
def ecAdd (a b : Option (Nat × Nat)) : Option (Nat × Nat) :=
  match a, b with
  | none, b => b
  | a, none => a
  | some (x1, y1), some (x2, y2) =>
    if x1 = x2 ∧ (y1 + y2) % p256P = 0 then none
    else
      let l := if x1 = x2 then (3 * x1 * x1 + (p256P - 3)) * powMod p256P (2 * y1) (p256P - 2) % p256P
        else (y2 + (p256P - y1)) * powMod p256P (x2 + (p256P - x1)) (p256P - 2) % p256P
      let x3 := (l * l + (p256P - x1) + (p256P - x2)) % p256P
      some (x3, (l * (x1 + (p256P - x3)) + (p256P - y1)) % p256P)

/-- Scalar multiple of a point. -/
def ecMul (k : Nat) (q : Option (Nat × Nat)) : Option (Nat × Nat) :=
  (List.range 256).foldl (fun a i => let a := ecAdd a a; if k.testBit (255 - i) then ecAdd a q else a) none

/-- ECDSA P-256 verification of a 32-byte digest and a 64-byte signature (r, then s). -/
def ecdsaVerify (pub : Nat × Nat) (digest sig : List Nat) : Bool :=
  let r := beOf (sig.take 32)
  let s := beOf ((sig.drop 32).take 32)
  let w := powMod p256N s (p256N - 2)
  let pt := ecAdd (ecMul (beOf digest * w % p256N) (some p256G)) (ecMul (r * w % p256N) (some pub))
  decide (0 < r) && decide (r < p256N) && decide (0 < s) && decide (s < p256N) &&
  (match pt with
   | none => false
   | some (x, _) => decide (x % p256N = r))

end Sys2Proof.Machine
end

