-- ==== Sys2Proof/Machine/Objects.lean ====
section
/-!
DEFINITION. Objects.lean: the object dictionary of the Ledger (R13, R99-R104): every object of the chapters' tables with
its type, access, default, range, persistence and shadow counter. An object is named by its key, index * 256 +
sub-index, so that 0x1100.08 is written 0x110008.
-/

namespace Sys2Proof.Machine

/-- The Ledger types of R100. -/
inductive OTy where
  | u (bytes : Nat)
  | i (bytes : Nat)
  | bool
  | enum
  | oct (n : Nat)
  | stamp
  deriving DecidableEq, Repr

/-- The access rights of R13. -/
inductive Acc where
  | ro | rw | rwc | wo
  deriving DecidableEq, Repr

/-- A default value: a number, or leading bytes of a byte string padded with zeros. -/
inductive Dflt where
  | n (v : Nat)
  | b (v : List Byte)
  deriving DecidableEq, Repr

/-- The Range column: any value, an interval, listed codes, permitted bits, 0-7 or 0xFF, or a rule of its own. -/
inductive Rng where
  | any
  | between (lo hi : Int)
  | opts (l : List Nat)
  | bits (mask : Nat)
  | between07ff
  | custom
  deriving DecidableEq, Repr

/-- One row of an object table, for indices `idxLo` to `idxHi` and sub-indices `subLo` to `subHi` each. `shadow`
is the shadow counter of the first sub-index (R180). -/
structure ObjDef where
  idxLo : Nat
  idxHi : Nat
  subLo : Nat
  subHi : Nat
  ty : OTy
  acc : Acc
  dflt : Dflt
  rng : Rng
  persisted : Bool
  shadow : Option Nat
  deriving DecidableEq, Repr

/-- LF_PATTERN's default: slot count 0, channels 0xFF (R229), and the lowest SLOT_BITS, for which the spec gives no default (log
entry 14). Byte 0 is TEL_CHAN, byte 3 the slot count; the channel bytes of the 16 slots stand at 4, 7, 10, ... (R217). -/
def lfPatternDefault : Bytes :=
  [0xFF, 0, 1, 0] ++ (List.replicate 16 [(0xFF : Byte), 0xFF, 0]).flatten

/-- The objects of the Stroke chapter's table. -/
def objsStroke : List ObjDef := [
  ⟨0x1100, 0x1100, 0x01, 0x01, .enum, .rw, .n 1, .between 0 2, true, none⟩ /- STROKE_LENGTH -/,
  ⟨0x1100, 0x1100, 0x02, 0x02, .enum, .ro, .n 0, .any, false, none⟩ /- STROKE_LENGTH_ACTIVE -/,
  ⟨0x1100, 0x1100, 0x03, 0x03, .u 8, .ro, .n 0, .any, false, none⟩ /- STROKE_NUMBER -/,
  ⟨0x1100, 0x1100, 0x04, 0x04, .stamp, .ro, .n 0, .any, false, none⟩ /- STROKE_STAMP -/,
  ⟨0x1100, 0x1100, 0x05, 0x05, .u 4, .ro, .n 0, .any, false, none⟩ /- BOOT_COUNT -/,
  ⟨0x1100, 0x1100, 0x06, 0x06, .u 1, .ro, .n 0, .any, false, none⟩ /- SHEET_POSITION -/,
  ⟨0x1100, 0x1100, 0x07, 0x07, .u 2, .ro, .n 100, .any, false, none⟩ /- GATHER_CLOSE_US -/,
  ⟨0x1100, 0x1100, 0x08, 0x08, .u 4, .ro, .n 0, .any, false, (some 0)⟩ /- OVERRUN_COUNT -/,
  ⟨0x1100, 0x1100, 0x09, 0x09, .u 1, .ro, .n 0, .any, false, none⟩ /- OVERRUN_WRAPS -/,
  ⟨0x1100, 0x1100, 0x0A, 0x0A, .stamp, .ro, .n 0, .any, false, none⟩ /- LAST_OVERRUN -/,
  ⟨0x1100, 0x1100, 0x0B, 0x0B, .u 2, .ro, .n 0, .any, false, none⟩ /- WORK_HIGH_WATER_US -/,
  ⟨0x1100, 0x1100, 0x0C, 0x0C, .oct 32, .ro, .b [], .any, false, none⟩ /- CONFIG_DIGEST -/,
  ⟨0x1100, 0x1100, 0x0D, 0x0D, .oct 8, .ro, .b [], .any, false, none⟩ /- FIRMWARE_PAIR -/,
  ⟨0x1100, 0x1100, 0x0E, 0x0E, .enum, .ro, .n 0, .any, false, none⟩ /- DETERMINISM_STATE -/,
  ⟨0x1100, 0x1100, 0x0F, 0x0F, .u 4, .ro, .n 0, .any, false, (some 1)⟩ /- BREAK_COUNT -/,
  ⟨0x1100, 0x1100, 0x10, 0x10, .stamp, .ro, .n 0, .any, false, none⟩ /- LAST_BREAK -/,
  ⟨0x1100, 0x1100, 0x11, 0x11, .enum, .ro, .n 0, .any, false, none⟩ /- LAST_BREAK_CAUSE -/,
  ⟨0x1100, 0x1100, 0x12, 0x12, .u 4, .ro, .n 0, .any, false, none⟩ /- CLOCK_CHECK_COUNT -/,
  ⟨0x1100, 0x1100, 0x13, 0x13, .enum, .ro, .n 2, .any, false, none⟩ /- STROKE_TIME_SOURCE -/,
  ⟨0x1100, 0x1100, 0x14, 0x14, .i 2, .ro, .n 0, .any, false, none⟩ /- STROKE_CORRECTION -/]

/-- The objects of the Power chapter's table. -/
def objsPower : List ObjDef := [
  ⟨0x1200, 0x1200, 0x01, 0x01, .enum, .ro, .n 0, .any, false, none⟩ /- RESET_CAUSE -/,
  ⟨0x1200, 0x1200, 0x02, 0x02, .stamp, .ro, .n 0, .any, false, none⟩ /- RESET_STAMP -/,
  ⟨0x1200, 0x1200, 0x03, 0x03, .u 4, .ro, .n 0, .any, false, (some 2)⟩ /- CORE_RESET_COUNT -/,
  ⟨0x1200, 0x1200, 0x04, 0x04, .u 2, .rw, .n 0x3FFF, .custom, true, none⟩ /- DOMAIN_ENABLE -/,
  ⟨0x1200, 0x1200, 0x05, 0x05, .u 2, .ro, .n 0, .any, false, none⟩ /- DOMAIN_STATE -/,
  ⟨0x1200, 0x1200, 0x06, 0x06, .enum, .wo, .n 0x00, .custom, false, none⟩ /- SUBSYSTEM_RESET -/,
  ⟨0x1200, 0x1200, 0x07, 0x07, .bool, .wo, .n 0, .between 0 1, false, none⟩ /- STANDBY_REQUEST -/,
  ⟨0x1200, 0x1200, 0x08, 0x08, .u 1, .rw, .n 0x1F, .bits 0x1F, true, none⟩ /- STANDBY_WAKE_MASK -/,
  ⟨0x1200, 0x1200, 0x09, 0x09, .enum, .ro, .n 0, .any, false, none⟩ /- LAST_WAKE_SOURCE -/,
  ⟨0x1200, 0x1200, 0x0A, 0x0A, .u 2, .rw, .n 0, .custom, true, none⟩ /- STANDBY_IDLE_S -/,
  ⟨0x1200, 0x1200, 0x0B, 0x0B, .u 1, .ro, .n 0x00, .any, false, none⟩ /- GUY_LATCH -/,
  ⟨0x1200, 0x1200, 0x0C, 0x0C, .enum, .ro, .n 0x00, .any, false, none⟩ /- GUY_LATCH_CAUSE -/,
  ⟨0x1200, 0x1200, 0x0D, 0x0D, .stamp, .ro, .n 0, .any, false, none⟩ /- GUY_LATCH_STAMP -/,
  ⟨0x1200, 0x1200, 0x0E, 0x0E, .u 2, .ro, .n 0, .any, false, none⟩ /- GUY_LATCH_UPSETS -/,
  ⟨0x1200, 0x1200, 0x0F, 0x0F, .enum, .ro, .n 0, .any, false, none⟩ /- VHOLD_STATE -/,
  ⟨0x1200, 0x1200, 0x10, 0x10, .u 2, .ro, .n 0, .any, false, none⟩ /- VHOLD_MV -/,
  ⟨0x1200, 0x1200, 0x11, 0x11, .u 2, .ro, .n 0, .any, false, none⟩ /- BLOTTER_UF -/,
  ⟨0x1200, 0x1200, 0x12, 0x12, .u 2, .ro, .n 0, .any, false, none⟩ /- VDD3_WARN_COUNT -/,
  ⟨0x1200, 0x1200, 0x13, 0x13, .u 1, .ro, .n 0, .any, false, none⟩ /- VLF_BANK_STATE -/,
  ⟨0x1200, 0x1200, 0x14, 0x14, .u 1, .rw, .n 8, .between 4 32, true, none⟩ /- WATCHDOG_STROKES -/,
  ⟨0x1200, 0x1200, 0x15, 0x15, .u 4, .ro, .n 0, .any, false, none⟩ /- LAST_DARK_SPAN -/]

/-- The objects of the Ledger chapter's table. -/
def objsLedger : List ObjDef := [
  ⟨0x1000, 0x1000, 0x01, 0x01, .u 4, .ro, .n 0x56524D53, .any, false, none⟩ /- VENDOR_CODE -/,
  ⟨0x1000, 0x1000, 0x02, 0x02, .u 2, .ro, .n 0x6464, .any, false, none⟩ /- DEVICE_CODE -/,
  ⟨0x1000, 0x1000, 0x03, 0x03, .enum, .ro, .n 0, .any, false, none⟩ /- STEPPING -/,
  ⟨0x1000, 0x1000, 0x04, 0x04, .oct 16, .ro, .b [], .any, false, none⟩ /- UNIQUE_ID -/,
  ⟨0x1000, 0x1000, 0x05, 0x05, .u 1, .ro, .n 0, .any, false, none⟩ /- STRAPS -/,
  ⟨0x1000, 0x1000, 0x06, 0x06, .u 4, .ro, .n 0, .any, false, none⟩ /- MAIN_VERSION -/,
  ⟨0x1000, 0x1000, 0x07, 0x07, .u 4, .ro, .n 0, .any, false, none⟩ /- MICROCODE_VERSION -/,
  ⟨0x1000, 0x1000, 0x08, 0x08, .u 1, .ro, .n 0x01, .any, false, none⟩ /- LEDGER_PROTOCOL -/,
  ⟨0x7200, 0x7200, 0x01, 0x01, .u 1, .ro, .n 0, .any, false, none⟩ /- INFLIGHT_OPEN -/,
  ⟨0x7200, 0x7200, 0x02, 0x02, .u 1, .ro, .n 0, .any, false, none⟩ /- INFLIGHT_NEWEST -/,
  ⟨0x7200, 0x7200, 0x10, 0x1F, .oct 32, .ro, .b [], .any, true, none⟩ /- INFLIGHT_ENTRY_0–15 -/,
  ⟨0x7300, 0x7300, 0x01, 0x01, .u 4, .ro, .n 0, .any, false, (some 3)⟩ /- CLAMP_TOTAL -/,
  ⟨0x7300, 0x7300, 0x02, 0x02, .u 1, .ro, .n 0, .any, false, none⟩ /- CLAMP_WRAPS -/,
  ⟨0x7300, 0x7300, 0x03, 0x03, .u 1, .ro, .n 0, .any, false, none⟩ /- CLAMP_NEWEST -/,
  ⟨0x7300, 0x7300, 0x04, 0x04, .u 4, .ro, .n 0, .any, false, (some 4)⟩ /- LEDGER_CRC_ERRORS -/,
  ⟨0x7300, 0x7300, 0x05, 0x05, .u 4, .ro, .n 0, .any, false, (some 5)⟩ /- LEDGER_SEGMENT_DISCARDS -/,
  ⟨0x7300, 0x7300, 0x10, 0x2F, .oct 32, .ro, .b [], .any, true, none⟩ /- CLAMP_ENTRY_0–31 -/,
  ⟨0x6C00, 0x6C00, 0x01, 0x04, .u 4, .rwc, .n 0x0003FFFF, .between 0 0x3FFFF, true, none⟩ /- LEDGER_WRITE_MASK, classes 0–3 -/]

/-- The objects of the Host chapter's table. -/
def objsHost : List ObjDef := [
  ⟨0x3A00, 0x3A00, 0x01, 0x01, .u 8, .rw, .n 0, .any, true, none⟩ /- TENANT_ENABLE -/,
  ⟨0x3A00, 0x3A00, 0x02, 0x02, .u 4, .ro, .n 0, .any, false, (some 6)⟩ /- SPI_CRC_ERROR_COUNT -/,
  ⟨0x3A00, 0x3A00, 0x03, 0x03, .u 4, .ro, .n 0, .any, false, (some 7)⟩ /- EVENTS_DROPPED -/,
  ⟨0x3A00, 0x3A00, 0x04, 0x04, .u 4, .ro, .n 0, .any, false, (some 8)⟩ /- RX_FRAMES_DROPPED -/,
  ⟨0x3A10, 0x3A10, 0x01, 0x40, .u 4, .ro, .n 0, .any, false, (some 64)⟩ /- TENANT_VIOLATIONS_0–63 -/,
  ⟨0x3A11, 0x3A11, 0x01, 0x41, .enum, .rw, .n 4, .between 0 4, true, none⟩ /- IRQ_ROUTE_0–63, IRQ_ROUTE_GLOBAL -/,
  ⟨0x3A12, 0x3A12, 0x01, 0x60, .u 1, .rw, .n 0xFF, .custom, true, none⟩ /- GRANULE_OWNER_0–95 -/,
  ⟨0x6A00, 0x6A00, 0x01, 0x41, .u 1, .rwc, .n 16, .custom, true, none⟩ /- RING_QUOTA_0–63, RING_QUOTA_GLOBAL -/]

/-- The objects of the Inkwell chapter's table. -/
def objsInkwell : List ObjDef := [
  ⟨0x4000, 0x4000, 0x01, 0x01, .u 1, .ro, .n 0, .any, false, none⟩ /- INKWELL_STATE -/,
  ⟨0x4000, 0x4000, 0x02, 0x02, .u 4, .ro, .n 0, .any, false, (some 9)⟩ /- ECC_CORRECTED -/,
  ⟨0x4000, 0x4000, 0x03, 0x03, .u 4, .ro, .n 0, .any, false, (some 10)⟩ /- ECC_UNCORRECTABLE -/,
  ⟨0x4000, 0x4000, 0x04, 0x04, .u 4, .ro, .n 0, .any, false, (some 11)⟩ /- SCRUB_REWRITES -/,
  ⟨0x4000, 0x4000, 0x05, 0x05, .u 2, .ro, .n 0, .any, false, none⟩ /- SCRUB_POSITION -/,
  ⟨0x4000, 0x4000, 0x06, 0x06, .u 4, .ro, .n 0, .any, false, none⟩ /- SWEEPS_COMPLETED -/,
  ⟨0x4000, 0x4000, 0x07, 0x07, .u 1, .ro, .n 0, .any, false, none⟩ /- SPARES_USED -/,
  ⟨0x4000, 0x4000, 0x08, 0x08, .u 2, .ro, .n 0xFFFF, .any, false, none⟩ /- LAST_RETIRED -/,
  ⟨0x4000, 0x4000, 0x09, 0x09, .u 2, .ro, .n 0, .any, false, none⟩ /- FAILING_PAGES -/,
  ⟨0x4000, 0x4000, 0x0A, 0x0A, .u 4, .ro, .n 0, .any, false, (some 12)⟩ /- HOLD_REFUSALS -/,
  ⟨0x4000, 0x4000, 0x0B, 0x0B, .u 1, .ro, .n 0, .any, false, none⟩ /- HOLD_QUEUE_USED -/,
  ⟨0x4000, 0x4000, 0x0C, 0x0C, .u 4, .ro, .n 0, .any, false, (some 13)⟩ /- HOLD_QUEUE_DROPS -/,
  ⟨0x4000, 0x4000, 0x0D, 0x0D, .u 4, .ro, .n 0, .any, false, none⟩ /- GROUP_NUMBER -/,
  ⟨0x4000, 0x4000, 0x0E, 0x0E, .u 2, .ro, .n 0, .any, true, none⟩ /- VOID_GROUPS -/,
  ⟨0x4000, 0x4000, 0x0F, 0x0F, .u 2, .ro, .n 0, .any, false, none⟩ /- TORN_AT_BOOT -/,
  ⟨0x4000, 0x4000, 0x10, 0x10, .stamp, .ro, .n 0, .any, false, none⟩ /- SHADOW_SAVE_STAMP -/,
  ⟨0x4000, 0x4000, 0x11, 0x11, .enum, .ro, .n 2, .any, false, none⟩ /- SHADOW_RESTORE_SOURCE -/,
  ⟨0x4010, 0x4010, 0x01, 0x40, .u 8, .ro, .n 0, .any, false, none⟩ /- TALLY_0–63 -/,
  ⟨0x4020, 0x4020, 0x01, 0x80, .u 4, .ro, .n 0, .any, false, (some 0)⟩ /- SHADOW_0–127 -/,
  ⟨0x4021, 0x4021, 0x01, 0x80, .u 4, .ro, .n 0, .any, false, (some 128)⟩ /- SHADOW_128–255 -/,
  ⟨0x4022, 0x4022, 0x01, 0x80, .u 2, .ro, .n 0, .any, false, none⟩ /- SHADOW_STATUS_0–127 -/,
  ⟨0x4023, 0x4023, 0x01, 0x80, .u 2, .ro, .n 0, .any, false, none⟩ /- SHADOW_STATUS_128–255 -/]

/-- The objects of the Quill chapter's table. -/
def objsQuill : List ObjDef := [
  ⟨0x3800, 0x3800, 0x01, 0x01, .enum, .ro, .n 0, .any, false, none⟩ /- QUILL_STATE -/,
  ⟨0x3800, 0x3800, 0x02, 0x02, .enum, .ro, .n 0, .any, false, none⟩ /- QUARANTINE_CAUSE -/,
  ⟨0x3800, 0x3800, 0x03, 0x03, .u 4, .ro, .n 0, .any, false, (some 14)⟩ /- PARITY_FAULTS -/,
  ⟨0x3800, 0x3800, 0x04, 0x04, .u 1, .ro, .n 0, .any, false, none⟩ /- SHEET_PARITY_FAULTS -/,
  ⟨0x3800, 0x3800, 0x05, 0x05, .stamp, .ro, .n 0, .any, false, none⟩ /- LAST_PARITY_FAULT -/,
  ⟨0x3800, 0x3800, 0x06, 0x06, .u 4, .ro, .n 0, .any, false, (some 15)⟩ /- TAG_FAILURES -/,
  ⟨0x3800, 0x3800, 0x07, 0x07, .u 4, .ro, .n 0, .any, false, (some 16)⟩ /- ENTROPY_FAILURES -/,
  ⟨0x3800, 0x3800, 0x08, 0x08, .bool, .rwc, .n 1, .between 0 1, true, none⟩ /- KEY_PLAIN_ALLOWED -/,
  ⟨0x3810, 0x3810, 0x01, 0x01, .oct 72, .wo, .b [], .custom, false, none⟩ /- KEY_LOAD -/,
  ⟨0x3810, 0x3810, 0x02, 0x02, .oct 8, .wo, .b [], .custom, false, none⟩ /- KEY_ERASE -/,
  ⟨0x3810, 0x3810, 0x03, 0x03, .oct 72, .rwc, .b [], .custom, false, none⟩ /- KEY_LOAD_PROTECTED -/,
  ⟨0x3830, 0x3830, 0x01, 0x40, .enum, .rw, .n 1, .between 0 1, true, none⟩ /- QUILL_PATH_0–63 -/,
  ⟨0x3840, 0x3841, 0x01, 0x80, .u 4, .ro, .n 0, .any, false, none⟩ /- KEY_GEN_0–255 -/,
  ⟨0x3842, 0x3843, 0x01, 0x80, .u 8, .rwc, .n 0, .custom, false, none⟩ /- KEY_TENANTS_0–255 -/,
  ⟨0x3844, 0x3845, 0x01, 0x80, .u 2, .rwc, .n 0, .custom, false, none⟩ /- KEY_MODES_0–255 -/,
  ⟨0x3846, 0x3847, 0x01, 0x80, .enum, .ro, .n 0, .any, false, none⟩ /- KEY_STATE_0–255 -/,
  ⟨0x3848, 0x3849, 0x01, 0x80, .u 1, .ro, .n 0, .any, false, none⟩ /- KEY_LENGTH_0–255 -/,
  ⟨0x384A, 0x384B, 0x01, 0x80, .u 4, .ro, .n 0, .any, false, none⟩ /- KEY_CHECK_0–255 -/]

/-- The objects of the Lantern chapter's table. -/
def objsLantern : List ObjDef := [
  ⟨0x2000, 0x2000, 0x01, 0x01, .enum, .rw, .n 0, .between 0 1, true, none⟩ /- LF_CARRIER -/,
  ⟨0x2000, 0x2000, 0x02, 0x02, .u 1, .rw, .n 0x00, .any, true, none⟩ /- LF_CHANNEL_ENABLE -/,
  ⟨0x2000, 0x2000, 0x03, 0x03, .enum, .rwc, .n 0xFF, .between07ff, true, none⟩ /- LF_CRADLE_CHANNEL -/,
  ⟨0x2000, 0x2000, 0x04, 0x04, .enum, .ro, .n 0, .any, false, none⟩ /- LF_ACTIVITY -/,
  ⟨0x2000, 0x2000, 0x05, 0x05, .enum, .ro, .n 0, .any, false, none⟩ /- LF_FEED_GUARD -/,
  ⟨0x2000, 0x2000, 0x06, 0x06, .u 4, .ro, .n 0, .any, false, (some 25)⟩ /- LF_FEED_CONFLICTS -/,
  ⟨0x2000, 0x2000, 0x07, 0x07, .u 1, .rwc, .n 15, .custom, true, none⟩ /- LF_CRADLE_CODE -/,
  ⟨0x2000, 0x2000, 0x08, 0x08, .u 1, .rwc, .n 25, .between 10 50, true, none⟩ /- LF_CRADLE_DEPTH -/,
  ⟨0x2000, 0x2000, 0x09, 0x09, .u 1, .rwc, .n 20, .between 5 50, true, none⟩ /- LF_CRADLE_POWERUP_MS -/,
  ⟨0x2008, 0x2008, 0x01, 0x08, .u 2, .ro, .n 0, .any, false, none⟩ /- LF_CHANNEL_STATUS_0–7 -/,
  ⟨0x2009, 0x2009, 0x01, 0x08, .u 4, .ro, .n 0, .any, false, (some 17)⟩ /- LF_FAULT_COUNT_0–7 -/,
  ⟨0x200A, 0x200A, 0x01, 0x08, .u 2, .ro, .n 0, .any, false, none⟩ /- LF_LAST_CURRENT_MA_0–7 -/,
  ⟨0x200B, 0x200B, 0x01, 0x08, .i 2, .ro, .n 0, .any, false, none⟩ /- LF_LAST_PHASE_0–7 -/,
  ⟨0x200C, 0x200C, 0x01, 0x08, .bool, .wo, .n 0, .between 0 1, false, none⟩ /- LF_CHANNEL_CLEAR_0–7 -/,
  ⟨0x200D, 0x200D, 0x01, 0x08, .u 4, .ro, .n 0, .any, false, none⟩ /- LF_DUTY_USED_MS_0–7 -/,
  ⟨0x2010, 0x2010, 0x01, 0x10, .oct 52, .rwc, .b lfPatternDefault, .custom, true, none⟩ /- LF_PATTERN_0–15 -/,
  ⟨0x2400, 0x2400, 0x01, 0x01, .u 1, .rw, .n 0x00, .bits 0x0F, true, none⟩ /- HS_ENABLE -/,
  ⟨0x2400, 0x2400, 0x02, 0x02, .u 1, .rw, .n 50, .between 5 100, true, none⟩ /- HS_SCAN_HZ_RUN -/,
  ⟨0x2400, 0x2400, 0x03, 0x03, .u 1, .rw, .n 20, .between 5 100, true, none⟩ /- HS_SCAN_HZ_STANDBY -/,
  ⟨0x2400, 0x2400, 0x04, 0x04, .u 1, .rw, .n 2, .between 1 8, true, none⟩ /- HS_DEBOUNCE -/,
  ⟨0x2400, 0x2400, 0x05, 0x05, .u 1, .rw, .n 30, .between 5 120, true, none⟩ /- HS_STUCK_S -/,
  ⟨0x2408, 0x2408, 0x01, 0x04, .u 2, .rw, .n 400, .between 100 5000, true, none⟩ /- HS_THRESHOLD_FF_0–3 -/,
  ⟨0x2409, 0x2409, 0x01, 0x04, .u 1, .rw, .n 50, .between 10 90, true, none⟩ /- HS_HYSTERESIS_PCT_0–3 -/,
  ⟨0x240A, 0x240A, 0x01, 0x04, .u 4, .ro, .n 0, .any, false, none⟩ /- HS_BASELINE_FF_0–3 -/,
  ⟨0x240B, 0x240B, 0x01, 0x04, .i 4, .ro, .n 0, .any, false, none⟩ /- HS_DELTA_FF_0–3 -/,
  ⟨0x240C, 0x240C, 0x01, 0x04, .enum, .ro, .n 0, .any, false, none⟩ /- HS_STATE_0–3 -/,
  ⟨0x240D, 0x240D, 0x01, 0x04, .u 4, .ro, .n 0, .any, false, (some 26)⟩ /- HS_TOUCH_COUNT_0–3 -/]

/-- The objects of the Radio chapter's table. -/
def objsRadio : List ObjDef := [
  ⟨0x2800, 0x2800, 0x01, 0x01, .enum, .ro, .n 0, .any, false, none⟩ /- RADIO_STATE_UHF -/,
  ⟨0x2800, 0x2800, 0x02, 0x02, .enum, .ro, .n 0, .any, false, none⟩ /- RADIO_STATE_UWB -/,
  ⟨0x2800, 0x2800, 0x03, 0x03, .u 4, .rw, .n 868300000, .between 300000000 960000000, true, none⟩ /- UHF_FREQ_HZ -/,
  ⟨0x2800, 0x2800, 0x04, 0x04, .enum, .rw, .n 1, .between 0 1, true, none⟩ /- UHF_MOD -/,
  ⟨0x2800, 0x2800, 0x05, 0x05, .u 4, .rw, .n 38400, .between 4800 200000, true, none⟩ /- UHF_RATE_BPS -/,
  ⟨0x2800, 0x2800, 0x06, 0x06, .u 4, .rw, .n 20000, .between 600 100000, true, none⟩ /- UHF_DEVIATION_HZ -/,
  ⟨0x2800, 0x2800, 0x07, 0x07, .i 2, .rw, .n 0, .between (-40) 28, true, none⟩ /- UHF_POWER -/,
  ⟨0x2800, 0x2800, 0x08, 0x08, .u 1, .rw, .n 4, .between 4 32, true, none⟩ /- UHF_PREAMBLE_BYTES -/,
  ⟨0x2800, 0x2800, 0x09, 0x09, .oct 4, .rw, .b [0xD3, 0x91, 0x5A, 0x2E], .any, true, none⟩ /- UHF_SYNC -/,
  ⟨0x2800, 0x2800, 0x0A, 0x0A, .bool, .rw, .n 0, .between 0 1, true, none⟩ /- SNIFF_ENABLE -/,
  ⟨0x2800, 0x2800, 0x0B, 0x0B, .oct 4, .rw, .b [], .any, true, none⟩ /- SNIFF_MATCH -/,
  ⟨0x2800, 0x2800, 0x0C, 0x0C, .oct 4, .rw, .b [], .any, true, none⟩ /- SNIFF_MATCH_MASK -/,
  ⟨0x2800, 0x2800, 0x0D, 0x0D, .enum, .rw, .n 9, .opts [5, 9], true, none⟩ /- UWB_CHANNEL -/,
  ⟨0x2800, 0x2800, 0x0E, 0x0E, .u 1, .rw, .n 32, .between 0 63, true, none⟩ /- UWB_POWER_CODE -/,
  ⟨0x2800, 0x2800, 0x0F, 0x0F, .enum, .rw, .n 0, .between 0 2, true, none⟩ /- COEX_MODE -/,
  ⟨0x2800, 0x2800, 0x10, 0x10, .u 2, .rw, .n 100, .between 10 500, true, none⟩ /- COEX_LEAD_US -/,
  ⟨0x2800, 0x2800, 0x12, 0x12, .u 1, .rw, .n 0x01, .bits 3, true, none⟩ /- COEX_SCOPE -/,
  ⟨0x2800, 0x2800, 0x13, 0x13, .u 2, .rw, .n 60, .between 10 600, true, none⟩ /- CAL_INTERVAL_S -/,
  ⟨0x2800, 0x2800, 0x14, 0x14, .u 1, .rw, .n 10, .between 2 20, true, none⟩ /- CAL_TEMP_STEP_C -/,
  ⟨0x2800, 0x2800, 0x15, 0x15, .u 1, .ro, .n 0, .any, false, none⟩ /- CAL_STATE -/,
  ⟨0x2800, 0x2800, 0x16, 0x16, .i 2, .ro, .n 0, .any, false, none⟩ /- RADIO_TEMP_C -/,
  ⟨0x2808, 0x2808, 0x01, 0x01, .u 4, .ro, .n 0, .any, false, (some 30)⟩ /- TX_PACKETS -/,
  ⟨0x2808, 0x2808, 0x02, 0x02, .u 4, .ro, .n 0, .any, false, (some 31)⟩ /- RX_PACKETS -/,
  ⟨0x2808, 0x2808, 0x03, 0x03, .u 4, .ro, .n 0, .any, false, (some 32)⟩ /- RX_CRC_ERRORS -/,
  ⟨0x2808, 0x2808, 0x04, 0x04, .u 4, .ro, .n 0, .any, false, (some 33)⟩ /- SNIFF_WINDOWS -/,
  ⟨0x2808, 0x2808, 0x05, 0x05, .u 4, .ro, .n 0, .any, false, (some 34)⟩ /- SNIFF_SKIPPED -/,
  ⟨0x2808, 0x2808, 0x06, 0x06, .u 4, .ro, .n 0, .any, false, (some 35)⟩ /- SNIFF_WAKES -/,
  ⟨0x2808, 0x2808, 0x07, 0x07, .u 4, .ro, .n 0, .any, false, (some 36)⟩ /- COEX_DENIALS -/,
  ⟨0x2808, 0x2808, 0x08, 0x08, .u 4, .ro, .n 0, .any, false, (some 37)⟩ /- REG_REFUSALS -/,
  ⟨0x2808, 0x2808, 0x09, 0x09, .u 4, .ro, .n 0, .any, false, (some 38)⟩ /- SCHED_REJECTS -/,
  ⟨0x2880, 0x2880, 0x01, 0x01, .oct 16, .rwc, .b [], .custom, false, none⟩ /- REG_HEADER -/,
  ⟨0x2880, 0x2880, 0x02, 0x02, .oct 128, .rwc, .b [], .custom, false, none⟩ /- REG_SUBGHZ_BANDS -/,
  ⟨0x2880, 0x2880, 0x03, 0x03, .oct 128, .rwc, .b [], .custom, false, none⟩ /- REG_ALLOW_LIST -/,
  ⟨0x2880, 0x2880, 0x04, 0x04, .oct 40, .rwc, .b [], .custom, false, none⟩ /- REG_LF_LIMITS -/,
  ⟨0x2880, 0x2880, 0x05, 0x05, .oct 8, .rwc, .b [], .custom, false, none⟩ /- REG_UWB_LIMITS -/,
  ⟨0x2880, 0x2880, 0x06, 0x06, .enum, .ro, .n 0, .any, false, none⟩ /- REG_STATE -/,
  ⟨0x2880, 0x2880, 0x07, 0x07, .oct 32, .ro, .b [], .any, false, none⟩ /- REG_DIGEST -/,
  ⟨0x2888, 0x2888, 0x01, 0x08, .u 4, .ro, .n 0, .any, false, none⟩ /- REG_BAND_USED_MS_0–7 -/,
  ⟨0x2888, 0x2888, 0x09, 0x09, .u 4, .ro, .n 0, .any, false, none⟩ /- REG_UWB_USED_MS -/]

/-- The objects of the Tether chapter's table. -/
def objsTether : List ObjDef := [
  ⟨0x2C00, 0x2C00, 0x01, 0x01, .u 4, .rwc, .n 0, .between 0 0xFFFFFF, true, none⟩ /- CAR_ID -/,
  ⟨0x2C00, 0x2C00, 0x02, 0x02, .u 2, .rwc, .n 150, .between 50 1000, true, none⟩ /- UNLOCK_DISTANCE_CM -/,
  ⟨0x2C00, 0x2C00, 0x03, 0x03, .u 1, .rw, .n 25, .between 10 100, true, none⟩ /- WAKE_LISTEN_MS -/,
  ⟨0x2C00, 0x2C00, 0x04, 0x04, .enum, .rwc, .n 0, .between 0 15, true, none⟩ /- START_PATTERN -/,
  ⟨0x2C00, 0x2C00, 0x05, 0x05, .u 1, .rwc, .n 60, .between 0 100, true, none⟩ /- STS_QUALITY_MIN -/,
  ⟨0x2C00, 0x2C00, 0x06, 0x06, .enum, .ro, .n 0, .any, false, none⟩ /- TETHER_STATE -/,
  ⟨0x2C00, 0x2C00, 0x07, 0x07, .u 4, .ro, .n 0, .any, false, (some 39)⟩ /- EXCHANGES -/,
  ⟨0x2C01, 0x2C01, 0x01, 0x01, .oct 8, .ro, .b [], .any, false, none⟩ /- ACCESS_EVENT -/,
  ⟨0x2C02, 0x2C02, 0x01, 0x01, .bool, .wo, .n 0, .between 0 1, false, none⟩ /- START_REQUEST -/,
  ⟨0x2C08, 0x2C08, 0x01, 0x08, .oct 2, .rwc, .b [0xFF, 0xFF], .custom, true, none⟩ /- ENTRY_ROUTE_0–7 -/,
  ⟨0x2C10, 0x2C10, 0x01, 0x08, .oct 64, .rwc, .b [], .custom, true, none⟩ /- ZONE_MAP_0–7 -/,
  ⟨0x2C18, 0x2C18, 0x01, 0x08, .u 2, .rwc, .n 16384, .any, true, none⟩ /- ANCHOR_DELAY_0–7 -/,
  ⟨0x3400, 0x3400, 0x01, 0x01, .u 1, .rwc, .n 5, .between 3 10, true, none⟩ /- LOCKOUT_THRESHOLD -/,
  ⟨0x3400, 0x3400, 0x02, 0x02, .u 2, .rwc, .n 60, .between 10 600, true, none⟩ /- LOCKOUT_WINDOW_S -/,
  ⟨0x3400, 0x3400, 0x03, 0x03, .u 2, .rwc, .n 180, .between 30 900, true, none⟩ /- LOCKOUT_BASE_S -/,
  ⟨0x3400, 0x3400, 0x04, 0x04, .u 2, .rwc, .n 3600, .between 60 7200, true, none⟩ /- LOCKOUT_MAX_S -/,
  ⟨0x3400, 0x3400, 0x05, 0x05, .bool, .rwc, .n 0, .between 0 1, true, none⟩ /- LOCKOUT_CLEAR -/]

/-- The objects of the Tokens chapter's table. -/
def objsTokens : List ObjDef := [
  ⟨0x3000, 0x3000, 0x01, 0x01, .enum, .ro, .n 0, .any, false, none⟩ /- TOKEN_SET_STATE -/,
  ⟨0x3000, 0x3000, 0x02, 0x02, .u 4, .ro, .n 0, .any, false, none⟩ /- TOKEN_EPOCH -/,
  ⟨0x3000, 0x3000, 0x03, 0x03, .oct 4, .rwc, .b [0x07, 0x05, 0x07, 0x01], .custom, true, none⟩ /- ROLE_RIGHTS -/,
  ⟨0x3001, 0x3001, 0x01, 0x40, .enum, .ro, .n 0xFF, .any, false, none⟩ /- TOKEN_ROLE_0–63 -/,
  ⟨0x3002, 0x3002, 0x01, 0x40, .oct 16, .ro, .b [], .any, false, none⟩ /- TOKEN_VALIDITY_0–63 -/,
  ⟨0x3003, 0x3003, 0x01, 0x40, .u 4, .ro, .n 0, .any, false, none⟩ /- TOKEN_COUNTER_0–63 -/,
  ⟨0x3010, 0x3010, 0x01, 0x01, .oct 36, .rwc, .b [], .custom, false, none⟩ /- LEARN_START -/,
  ⟨0x3010, 0x3010, 0x02, 0x02, .enum, .ro, .n 0, .any, false, none⟩ /- LEARN_PHASE -/,
  ⟨0x3010, 0x3010, 0x03, 0x03, .enum, .ro, .n 0x00, .any, false, none⟩ /- LEARN_RESULT -/,
  ⟨0x3010, 0x3010, 0x04, 0x04, .bool, .wo, .n 0, .between 0 1, false, none⟩ /- LEARN_RECORD_CLEAR -/,
  ⟨0x3010, 0x3010, 0x05, 0x05, .oct 32, .ro, .b [], .any, false, none⟩ /- LEARN_STAGED_DIGEST -/,
  ⟨0x3020, 0x3020, 0x01, 0x40, .oct 80, .wo, .b [], .custom, false, none⟩ /- LEARN_RECORD_0–63 -/,
  ⟨0x2C20, 0x2C20, 0x01, 0x01, .oct 4, .wo, .b [], .custom, false, none⟩ /- COMMISSION_START -/,
  ⟨0x2C21, 0x2C21, 0x01, 0x01, .oct 80, .ro, .b [], .any, true, none⟩ /- COMMISSION_RESULT -/,
  ⟨0x6800, 0x6800, 0x01, 0x01, .enum, .ro, .n 0, .any, false, none⟩ /- PROTECTION_STATE -/,
  ⟨0x6800, 0x6800, 0x02, 0x02, .u 1, .rwc, .n 0x00, .bits 0x0F, true, none⟩ /- CS_HOST_MEMBERS -/,
  ⟨0x6800, 0x6800, 0x03, 0x03, .u 2, .rwc, .n 120, .between 30 600, true, none⟩ /- CS_PROPOSAL_TTL_S -/,
  ⟨0x6800, 0x6800, 0x04, 0x04, .bool, .wo, .n 0, .between 0 1, false, none⟩ /- PROTECTION_SEAL -/,
  ⟨0x6800, 0x6800, 0x05, 0x05, .u 2, .rwc, .n 0, .between 0 3600, false, none⟩ /- DEBUG_UNLOCK -/,
  ⟨0x6800, 0x6800, 0x06, 0x06, .u 1, .ro, .n 0, .any, false, none⟩ /- CS_MEMBERS_COUNT -/,
  ⟨0x6800, 0x6800, 0x07, 0x07, .u 2, .ro, .n 0, .any, false, none⟩ /- DEBUG_UNLOCK_LEFT_S -/,
  ⟨0x6808, 0x6808, 0x01, 0x08, .oct 72, .ro, .b [], .any, false, none⟩ /- CS_PROPOSAL_0–7 -/,
  ⟨0x6810, 0x6810, 0x01, 0x01, .oct 20, .wo, .b [], .custom, false, none⟩ /- CS_AUTH -/,
  ⟨0x6810, 0x6810, 0x02, 0x02, .u 2, .wo, .n 0, .any, false, none⟩ /- CS_TOKEN_AUTH -/]

/-- The objects of the Feed chapter's table. -/
def objsFeed : List ObjDef := [
  ⟨0x4800, 0x4800, 0x01, 0x01, .enum, .ro, .n 0, .any, false, none⟩ /- FEED_STATE -/,
  ⟨0x4800, 0x4800, 0x02, 0x02, .u 2, .ro, .n 0, .any, false, none⟩ /- FEED_FLAGS -/,
  ⟨0x4800, 0x4800, 0x03, 0x03, .enum, .ro, .n 0, .any, false, none⟩ /- FEED_LATCH_CAUSE -/,
  ⟨0x4800, 0x4800, 0x04, 0x04, .bool, .wo, .n 0, .between 0 1, false, none⟩ /- FEED_FAULT_CLEAR -/,
  ⟨0x4800, 0x4800, 0x05, 0x05, .u 1, .ro, .n 0, .any, false, none⟩ /- FEED_VID -/,
  ⟨0x4800, 0x4800, 0x06, 0x06, .u 1, .ro, .n 0, .any, false, none⟩ /- FEED_LS_POINTER -/,
  ⟨0x4800, 0x4800, 0x07, 0x07, .u 4, .ro, .n 0, .any, false, none⟩ /- FEED_FSW_HZ -/,
  ⟨0x4810, 0x4810, 0x01, 0x01, .u 1, .rw, .n 1, .between 1 6, true, none⟩ /- FEED_PHASES -/,
  ⟨0x4810, 0x4810, 0x02, 0x02, .u 1, .rw, .n 8, .between 1 45, true, none⟩ /- FEED_SYNC_DIV -/,
  ⟨0x4810, 0x4810, 0x03, 0x03, .u 1, .rw, .n 0, .between 0 63, true, none⟩ /- FEED_PHASE_OFFSET -/,
  ⟨0x4810, 0x4810, 0x04, 0x04, .u 1, .rw, .n 0x50, .custom, true, none⟩ /- FEED_BOOT_VID -/,
  ⟨0x4810, 0x4810, 0x05, 0x05, .u 1, .rw, .n 0x00, .between 0 255, true, none⟩ /- FEED_VID_MIN -/,
  ⟨0x4810, 0x4810, 0x06, 0x06, .u 1, .rw, .n 0xA0, .custom, true, none⟩ /- FEED_VID_MAX -/,
  ⟨0x4810, 0x4810, 0x07, 0x07, .u 1, .rw, .n 8, .between 0 63, true, none⟩ /- FEED_SLOPE -/,
  ⟨0x4810, 0x4810, 0x08, 0x08, .u 1, .rw, .n 40, .between 10 200, true, none⟩ /- FEED_ILIM -/,
  ⟨0x4810, 0x4810, 0x09, 0x09, .enum, .rw, .n 2, .between 0 2, true, none⟩ /- FEED_TRACK_MODE -/,
  ⟨0x4810, 0x4810, 0x0A, 0x0A, .u 2, .rw, .n 3300, .between 500 3600, true, none⟩ /- FEED_TRACK_FULL_MV -/,
  ⟨0x4810, 0x4810, 0x0B, 0x0B, .u 2, .rw, .n 200, .between 0 1000, true, none⟩ /- FEED_START_DELAY_US -/,
  ⟨0x4810, 0x4810, 0x0C, 0x0C, .u 2, .rw, .n 1000, .between 100 10000, true, none⟩ /- FEED_SS_US -/,
  ⟨0x4810, 0x4810, 0x0D, 0x0D, .u 2, .rw, .n 100, .between 0 5000, true, none⟩ /- FEED_PG_DELAY_US -/,
  ⟨0x4810, 0x4810, 0x0E, 0x0E, .u 1, .rw, .n 8, .between 3 15, true, none⟩ /- FEED_PG_WINDOW_PCT -/,
  ⟨0x4810, 0x4810, 0x0F, 0x0F, .u 1, .rw, .n 85, .between 70 95, true, none⟩ /- FEED_UV_PCT -/,
  ⟨0x4810, 0x4810, 0x10, 0x10, .u 2, .rw, .n 20, .between 2 500, true, none⟩ /- FEED_UV_DELAY_US -/,
  ⟨0x4810, 0x4810, 0x11, 0x11, .enum, .rw, .n 0, .between 0 1, true, none⟩ /- FEED_UV_ACTION -/,
  ⟨0x4810, 0x4810, 0x12, 0x12, .u 2, .rw, .n 20, .between 1 1000, true, none⟩ /- FEED_HICCUP_OFF_MS -/,
  ⟨0x4810, 0x4810, 0x13, 0x13, .u 1, .rw, .n 3, .between 0 15, true, none⟩ /- FEED_HICCUP_TRIES -/,
  ⟨0x4810, 0x4810, 0x14, 0x14, .u 1, .rw, .n 0, .custom, true, none⟩ /- FEED_LS_MV -/,
  ⟨0x4818, 0x4818, 0x01, 0x01, .u 4, .ro, .n 0, .any, false, (some 40)⟩ /- FEED_UV_EVENTS -/,
  ⟨0x4818, 0x4818, 0x02, 0x02, .u 4, .ro, .n 0, .any, false, (some 41)⟩ /- FEED_HICCUPS -/,
  ⟨0x4818, 0x4818, 0x03, 0x03, .u 4, .ro, .n 0, .any, false, (some 42)⟩ /- FEED_ILIM_STROKES -/,
  ⟨0x4818, 0x4818, 0x04, 0x04, .u 4, .ro, .n 0, .any, false, (some 43)⟩ /- FEED_SYNC_LOSSES -/,
  ⟨0x4818, 0x4818, 0x05, 0x05, .u 4, .ro, .n 0, .any, false, (some 44)⟩ /- FEED_LOAD_STEPS -/]

/-- The objects of the Lock chapter's table. -/
def objsLock : List ObjDef := [
  ⟨0x4820, 0x4820, 0x01, 0x01, .bool, .wo, .n 0, .between 0 1, false, none⟩ /- IGNITION_OFF -/,
  ⟨0x4820, 0x4820, 0x02, 0x02, .enum, .ro, .n 0, .any, false, none⟩ /- START_LOCK_STATE -/,
  ⟨0x4820, 0x4820, 0x03, 0x03, .u 2, .rw, .n 50, .between 10 2000, true, none⟩ /- RELEASE_TIMEOUT_MS -/,
  ⟨0x4820, 0x4820, 0x04, 0x04, .enum, .ro, .n 0, .any, false, none⟩ /- FEEDLINE_STATE -/,
  ⟨0x4820, 0x4820, 0x05, 0x05, .enum, .ro, .n 0x00, .any, false, none⟩ /- FEEDLINE_STATUS -/,
  ⟨0x4820, 0x4820, 0x06, 0x06, .u 2, .rw, .n 10, .between 1 1000, true, none⟩ /- FEEDLINE_TIMEOUT_MS -/,
  ⟨0x4820, 0x4820, 0x07, 0x07, .bool, .ro, .n 0, .any, false, none⟩ /- FEEDLINE_ACK -/,
  ⟨0x4820, 0x4820, 0x08, 0x08, .u 1, .ro, .n 0, .any, false, none⟩ /- RELEASE_PG_COUNT -/,
  ⟨0x4820, 0x4820, 0x09, 0x09, .oct 8, .ro, .b [], .any, false, none⟩ /- START_LOCK_EVENT -/,
  ⟨0x4828, 0x4828, 0x01, 0x01, .u 4, .ro, .n 0, .any, false, (some 45)⟩ /- FEEDLINE_CRC_ERRORS -/,
  ⟨0x4828, 0x4828, 0x02, 0x02, .u 4, .ro, .n 0, .any, false, (some 46)⟩ /- FEEDLINE_REFUSALS -/,
  ⟨0x4828, 0x4828, 0x03, 0x03, .u 4, .ro, .n 0, .any, false, (some 47)⟩ /- FEEDLINE_LOSSES -/,
  ⟨0x4828, 0x4828, 0x04, 0x04, .u 4, .ro, .n 0, .any, false, (some 48)⟩ /- FEEDLINE_ITEMS_LOST -/,
  ⟨0x4828, 0x4828, 0x05, 0x05, .u 4, .ro, .n 0, .any, false, (some 49)⟩ /- RELEASES_ABANDONED -/]

/-- The objects of the Ridge chapter's table. -/
def objsRidge : List ObjDef := [
  ⟨0x5000, 0x5000, 0x01, 0x01, .bool, .rw, .n 0, .between 0 1, true, none⟩ /- RIDGE_ENABLE -/,
  ⟨0x5000, 0x5000, 0x02, 0x02, .u 1, .rw, .n 0, .between 0 63, true, none⟩ /- RIDGE_NODE_ID -/,
  ⟨0x5000, 0x5000, 0x03, 0x03, .u 1, .rw, .n 64, .between 2 64, true, none⟩ /- RIDGE_NODES_MAX -/,
  ⟨0x5000, 0x5000, 0x04, 0x04, .u 2, .rw, .n 1850, .between 1750 5000, true, none⟩ /- RIDGE_HOP_NS -/,
  ⟨0x5000, 0x5000, 0x05, 0x05, .u 2, .rw, .n 150, .between 20 400, true, none⟩ /- RIDGE_VOTE_US -/,
  ⟨0x5000, 0x5000, 0x06, 0x06, .u 2, .rw, .n 25, .between 20 400, true, none⟩ /- RIDGE_NIT_US -/,
  ⟨0x5000, 0x5000, 0x07, 0x07, .enum, .rw, .n 0xFF, .between07ff, true, none⟩ /- RIDGE_VOTE_KEY -/,
  ⟨0x5000, 0x5000, 0x08, 0x08, .enum, .rw, .n 0, .between 0 7, true, none⟩ /- RIDGE_START_SCHEDULE -/,
  ⟨0x5001, 0x5001, 0x01, 0x01, .enum, .ro, .n 0, .any, false, none⟩ /- RIDGE_ACTIVE_SCHEDULE -/,
  ⟨0x5001, 0x5001, 0x02, 0x02, .u 1, .ro, .n 0, .any, false, none⟩ /- RIDGE_RING_CYCLE -/,
  ⟨0x5001, 0x5001, 0x03, 0x03, .u 4, .ro, .n 0, .any, false, none⟩ /- RIDGE_RING_SHEET -/,
  ⟨0x5001, 0x5001, 0x04, 0x04, .u 1, .ro, .n 0, .any, false, none⟩ /- RIDGE_CYCLE_OFFSET -/,
  ⟨0x5001, 0x5001, 0x05, 0x05, .enum, .ro, .n 0, .any, false, none⟩ /- RIDGE_TOPOLOGY -/,
  ⟨0x5008, 0x5008, 0x01, 0x01, .u 4, .ro, .n 0, .any, false, (some 50)⟩ /- RIDGE_CODE_VIOLATIONS -/,
  ⟨0x5008, 0x5008, 0x02, 0x02, .u 4, .ro, .n 0, .any, false, (some 51)⟩ /- RIDGE_CRC_ERRORS -/,
  ⟨0x5008, 0x5008, 0x03, 0x03, .u 4, .ro, .n 0, .any, false, (some 52)⟩ /- RIDGE_CHANNEL_MISMATCH -/,
  ⟨0x5008, 0x5008, 0x04, 0x04, .u 4, .ro, .n 0, .any, false, (some 53)⟩ /- RIDGE_HOPS_DROPPED -/,
  ⟨0x5008, 0x5008, 0x05, 0x05, .u 4, .ro, .n 0, .any, false, (some 54)⟩ /- RIDGE_DYN_WITHDRAWN -/,
  ⟨0x5100, 0x5100, 0x01, 0x08, .oct 32, .rw, .b [], .custom, true, none⟩ /- SCHEDULE_HEADER_0–7 -/,
  ⟨0x5101, 0x5101, 0x01, 0x08, .enum, .ro, .n 0, .any, false, none⟩ /- SCHEDULE_STATE_0–7 -/,
  ⟨0x5102, 0x5102, 0x01, 0x08, .oct 32, .ro, .b [], .any, false, none⟩ /- SCHEDULE_DIGEST_0–7 -/,
  ⟨0x5108, 0x5108, 0x01, 0x08, .oct 32, .rw, .b [], .custom, true, none⟩ /- MATRIX_MAP_0–7 -/,
  ⟨0x5110, 0x5117, 0x01, 0xFA, .oct 4, .rw, .b [0x00, 0x70, 0x00, 0x00], .custom, true, none⟩ /- FRAME_ENTRY -/,
  ⟨0x5120, 0x5127, 0x01, 0x80, .oct 8, .rw, .b [], .custom, true, none⟩ /- WINDOW_ENTRY -/]

/-- The objects of the RidgeOp chapter's table. -/
def objsRidgeOp : List ObjDef := [
  ⟨0x5000, 0x5000, 0x09, 0x09, .u 2, .rw, .n 50, .between 0 100, true, none⟩ /- RIDGE_LINK_NS -/,
  ⟨0x5000, 0x5000, 0x0A, 0x0A, .bool, .rw, .n 0, .between 0 1, true, none⟩ /- RIDGE_COLDSTART -/,
  ⟨0x5000, 0x5000, 0x0B, 0x0B, .enum, .rw, .n 0xFF, .between07ff, false, none⟩ /- RIDGE_REQUEST -/,
  ⟨0x5000, 0x5000, 0x0C, 0x0C, .u 1, .rw, .n 0, .bits 3, true, none⟩ /- RIDGE_ISOLATE -/,
  ⟨0x5000, 0x5000, 0x0D, 0x0D, .bool, .wo, .n 0, .between 0 1, false, none⟩ /- RIDGE_GUARD_CLEAR -/,
  ⟨0x5000, 0x5000, 0x0E, 0x0E, .oct 4, .rw, .b [], .custom, true, none⟩ /- RIDGE_LEDGER_IDS -/,
  ⟨0x5001, 0x5001, 0x06, 0x06, .enum, .ro, .n 0, .any, false, none⟩ /- RIDGE_STATE -/,
  ⟨0x5001, 0x5001, 0x07, 0x07, .u 8, .ro, .n 0, .any, false, none⟩ /- RIDGE_MEMBERS -/,
  ⟨0x5001, 0x5001, 0x08, 0x08, .u 1, .ro, .n 0xFF, .any, false, none⟩ /- RIDGE_LEADER -/,
  ⟨0x5001, 0x5001, 0x09, 0x09, .enum, .ro, .n 0, .any, false, none⟩ /- RIDGE_GUARD_STATE -/,
  ⟨0x5001, 0x5001, 0x0A, 0x0A, .u 1, .ro, .n 0, .any, false, none⟩ /- RIDGE_SIDE_STATE -/,
  ⟨0x5001, 0x5001, 0x0B, 0x0B, .oct 16, .ro, .b [], .any, false, none⟩ /- RIDGE_LAST_BABBLE -/,
  ⟨0x5001, 0x5001, 0x0C, 0x0C, .i 4, .ro, .n 0, .any, false, none⟩ /- RIDGE_STROKE_OFFSET -/,
  ⟨0x5008, 0x5008, 0x06, 0x06, .u 4, .ro, .n 0, .any, false, (some 55)⟩ /- RIDGE_OVERLAPS -/,
  ⟨0x5008, 0x5008, 0x07, 0x07, .u 4, .ro, .n 0, .any, false, (some 56)⟩ /- RIDGE_BABBLE_UP -/,
  ⟨0x5008, 0x5008, 0x08, 0x08, .u 4, .ro, .n 0, .any, false, (some 57)⟩ /- RIDGE_BABBLE_DN -/,
  ⟨0x5008, 0x5008, 0x09, 0x09, .u 4, .ro, .n 0, .any, false, (some 58)⟩ /- RIDGE_GUARD_TRIPS -/,
  ⟨0x5008, 0x5008, 0x0A, 0x0A, .u 4, .ro, .n 0, .any, false, (some 59)⟩ /- RIDGE_AUTH_FAILURES -/,
  ⟨0x5008, 0x5008, 0x0B, 0x0B, .u 4, .ro, .n 0, .any, false, (some 60)⟩ /- RIDGE_AUTH_LATE -/,
  ⟨0x5008, 0x5008, 0x0C, 0x0C, .u 4, .ro, .n 0, .any, false, (some 61)⟩ /- RIDGE_ID_CONFLICTS -/,
  ⟨0x5008, 0x5008, 0x0D, 0x0D, .u 4, .ro, .n 0, .any, false, (some 62)⟩ /- RIDGE_SCHEDULE_SWITCHES -/,
  ⟨0x5008, 0x5008, 0x0E, 0x0E, .u 4, .ro, .n 0, .any, false, (some 63)⟩ /- RIDGE_SYNC_LOSSES -/,
  ⟨0x5008, 0x5008, 0x0F, 0x0F, .u 4, .ro, .n 0, .any, false, (some 128)⟩ /- RIDGE_BREAKS -/,
  ⟨0x5008, 0x5008, 0x10, 0x10, .u 4, .ro, .n 0, .any, false, (some 129)⟩ /- RIDGE_LEDGER_TX_DROPPED -/]

/-- The objects of the Can chapter's table. -/
def objsCan : List ObjDef := [
  ⟨0x5800, 0x5800, 0x01, 0x01, .enum, .rw, .n 0, .between 0 2, true, none⟩ /- CAN_MODE -/,
  ⟨0x5810, 0x5810, 0x01, 0x01, .enum, .rw, .n 0, .between 0 2, true, none⟩ /- CAN_MODE -/,
  ⟨0x5800, 0x5800, 0x02, 0x02, .bool, .rw, .n 1, .between 0 1, true, none⟩ /- CAN_FD_ENABLE -/,
  ⟨0x5810, 0x5810, 0x02, 0x02, .bool, .rw, .n 1, .between 0 1, true, none⟩ /- CAN_FD_ENABLE -/,
  ⟨0x5800, 0x5800, 0x03, 0x03, .enum, .rw, .n 0, .between 0 1, true, none⟩ /- CAN_ID_FORMAT -/,
  ⟨0x5810, 0x5810, 0x03, 0x03, .enum, .rw, .n 0, .between 0 1, true, none⟩ /- CAN_ID_FORMAT -/,
  ⟨0x5800, 0x5800, 0x04, 0x04, .u 4, .rw, .n 0xFFFFFFFF, .custom, true, none⟩ /- CAN_REQUEST_ID -/,
  ⟨0x5810, 0x5810, 0x04, 0x04, .u 4, .rw, .n 0xFFFFFFFF, .custom, true, none⟩ /- CAN_REQUEST_ID -/,
  ⟨0x5800, 0x5800, 0x05, 0x05, .u 4, .rw, .n 0xFFFFFFFF, .custom, true, none⟩ /- CAN_RESPONSE_ID -/,
  ⟨0x5810, 0x5810, 0x05, 0x05, .u 4, .rw, .n 0xFFFFFFFF, .custom, true, none⟩ /- CAN_RESPONSE_ID -/,
  ⟨0x5800, 0x5800, 0x06, 0x06, .u 4, .rw, .n 0xFFFFFFFF, .custom, true, none⟩ /- CAN_EXPORT_ID -/,
  ⟨0x5810, 0x5810, 0x06, 0x06, .u 4, .rw, .n 0xFFFFFFFF, .custom, true, none⟩ /- CAN_EXPORT_ID -/,
  ⟨0x5800, 0x5800, 0x07, 0x07, .u 4, .rw, .n 0x00F1E7C1, .custom, true, none⟩ /- CAN_NOM_TIMING -/,
  ⟨0x5810, 0x5810, 0x07, 0x07, .u 4, .rw, .n 0x00F1E7C1, .custom, true, none⟩ /- CAN_NOM_TIMING -/,
  ⟨0x5800, 0x5800, 0x08, 0x08, .u 4, .rw, .n 0x027911A1, .custom, true, none⟩ /- CAN_DATA_TIMING -/,
  ⟨0x5810, 0x5810, 0x08, 0x08, .u 4, .rw, .n 0x027911A1, .custom, true, none⟩ /- CAN_DATA_TIMING -/,
  ⟨0x5800, 0x5800, 0x09, 0x09, .bool, .rw, .n 1, .between 0 1, true, none⟩ /- CAN_EVENT_FD -/,
  ⟨0x5810, 0x5810, 0x09, 0x09, .bool, .rw, .n 1, .between 0 1, true, none⟩ /- CAN_EVENT_FD -/,
  ⟨0x5800, 0x5800, 0x0A, 0x0A, .bool, .rw, .n 0, .between 0 1, true, none⟩ /- CAN_EXPORT_ENABLE -/,
  ⟨0x5810, 0x5810, 0x0A, 0x0A, .bool, .rw, .n 0, .between 0 1, true, none⟩ /- CAN_EXPORT_ENABLE -/,
  ⟨0x5800, 0x5800, 0x0B, 0x0B, .u 1, .rw, .n 2, .between 1 16, true, none⟩ /- CAN_EXPORT_FRAMES -/,
  ⟨0x5810, 0x5810, 0x0B, 0x0B, .u 1, .rw, .n 2, .between 1 16, true, none⟩ /- CAN_EXPORT_FRAMES -/,
  ⟨0x5800, 0x5800, 0x0C, 0x0C, .enum, .rw, .n 0, .between 0 1, true, none⟩ /- CAN_BUSOFF_MODE -/,
  ⟨0x5810, 0x5810, 0x0C, 0x0C, .enum, .rw, .n 0, .between 0 1, true, none⟩ /- CAN_BUSOFF_MODE -/,
  ⟨0x5800, 0x5800, 0x0D, 0x0D, .u 2, .rw, .n 100, .between 0 10000, true, none⟩ /- CAN_BUSOFF_HOLD_STROKES -/,
  ⟨0x5810, 0x5810, 0x0D, 0x0D, .u 2, .rw, .n 100, .between 0 10000, true, none⟩ /- CAN_BUSOFF_HOLD_STROKES -/,
  ⟨0x5800, 0x5800, 0x0E, 0x0E, .bool, .wo, .n 0, .between 0 1, false, none⟩ /- CAN_RECOVER -/,
  ⟨0x5810, 0x5810, 0x0E, 0x0E, .bool, .wo, .n 0, .between 0 1, false, none⟩ /- CAN_RECOVER -/,
  ⟨0x5800, 0x5800, 0x0F, 0x0F, .enum, .ro, .n 0, .any, false, none⟩ /- CAN_STATE -/,
  ⟨0x5810, 0x5810, 0x0F, 0x0F, .enum, .ro, .n 0, .any, false, none⟩ /- CAN_STATE -/,
  ⟨0x5800, 0x5800, 0x10, 0x10, .u 2, .ro, .n 0, .any, false, none⟩ /- CAN_TEC -/,
  ⟨0x5810, 0x5810, 0x10, 0x10, .u 2, .ro, .n 0, .any, false, none⟩ /- CAN_TEC -/,
  ⟨0x5800, 0x5800, 0x11, 0x11, .u 1, .ro, .n 0, .any, false, none⟩ /- CAN_REC -/,
  ⟨0x5810, 0x5810, 0x11, 0x11, .u 1, .ro, .n 0, .any, false, none⟩ /- CAN_REC -/,
  ⟨0x5800, 0x5800, 0x12, 0x12, .u 1, .ro, .n 0, .any, false, none⟩ /- CAN_TX_QUEUED -/,
  ⟨0x5810, 0x5810, 0x12, 0x12, .u 1, .ro, .n 0, .any, false, none⟩ /- CAN_TX_QUEUED -/,
  ⟨0x5800, 0x5800, 0x13, 0x13, .u 2, .rw, .n 200, .between 10 5000, true, none⟩ /- CAN_TX_LIFETIME -/,
  ⟨0x5810, 0x5810, 0x13, 0x13, .u 2, .rw, .n 200, .between 10 5000, true, none⟩ /- CAN_TX_LIFETIME -/,
  ⟨0x5808, 0x5808, 0x01, 0x01, .u 4, .ro, .n 0, .any, false, (some 130)⟩ /- CAN_RX_FRAMES -/,
  ⟨0x5818, 0x5818, 0x01, 0x01, .u 4, .ro, .n 0, .any, false, (some 137)⟩ /- CAN_RX_FRAMES -/,
  ⟨0x5808, 0x5808, 0x02, 0x02, .u 4, .ro, .n 0, .any, false, (some 131)⟩ /- CAN_TX_FRAMES -/,
  ⟨0x5818, 0x5818, 0x02, 0x02, .u 4, .ro, .n 0, .any, false, (some 138)⟩ /- CAN_TX_FRAMES -/,
  ⟨0x5808, 0x5808, 0x03, 0x03, .u 4, .ro, .n 0, .any, false, (some 132)⟩ /- CAN_RX_OVERFLOWS -/,
  ⟨0x5818, 0x5818, 0x03, 0x03, .u 4, .ro, .n 0, .any, false, (some 139)⟩ /- CAN_RX_OVERFLOWS -/,
  ⟨0x5808, 0x5808, 0x04, 0x04, .u 4, .ro, .n 0, .any, false, (some 133)⟩ /- CAN_TX_DROPPED -/,
  ⟨0x5818, 0x5818, 0x04, 0x04, .u 4, .ro, .n 0, .any, false, (some 140)⟩ /- CAN_TX_DROPPED -/,
  ⟨0x5808, 0x5808, 0x05, 0x05, .u 4, .ro, .n 0, .any, false, (some 134)⟩ /- CAN_BUS_OFFS -/,
  ⟨0x5818, 0x5818, 0x05, 0x05, .u 4, .ro, .n 0, .any, false, (some 141)⟩ /- CAN_BUS_OFFS -/,
  ⟨0x5808, 0x5808, 0x06, 0x06, .u 4, .ro, .n 0, .any, false, (some 135)⟩ /- CAN_ID_CONFLICTS -/,
  ⟨0x5818, 0x5818, 0x06, 0x06, .u 4, .ro, .n 0, .any, false, (some 142)⟩ /- CAN_ID_CONFLICTS -/,
  ⟨0x5808, 0x5808, 0x07, 0x07, .u 4, .ro, .n 0, .any, false, (some 136)⟩ /- CAN_PROTOCOL_EXCEPTIONS -/,
  ⟨0x5818, 0x5818, 0x07, 0x07, .u 4, .ro, .n 0, .any, false, (some 143)⟩ /- CAN_PROTOCOL_EXCEPTIONS -/]

/-- The objects of the Pole chapter's table. -/
def objsPole : List ObjDef := [
  ⟨0x6000, 0x6000, 0x01, 0x01, .enum, .ro, .n 0, .any, false, none⟩ /- POLE_ROLE -/,
  ⟨0x6000, 0x6000, 0x02, 0x02, .enum, .ro, .n 0, .any, false, none⟩ /- POLE_STATE -/,
  ⟨0x6000, 0x6000, 0x03, 0x03, .u 1, .ro, .n 0, .any, false, none⟩ /- POLE_ADMITTED -/,
  ⟨0x6000, 0x6000, 0x04, 0x04, .u 2, .ro, .n 0, .any, false, none⟩ /- POLE_LINK_DELAY_NS -/,
  ⟨0x6000, 0x6000, 0x05, 0x05, .i 4, .ro, .n 0, .any, false, none⟩ /- POLE_BOUNDARY_OFFSET_NS -/,
  ⟨0x6000, 0x6000, 0x06, 0x06, .u 8, .ro, .n 0, .any, false, none⟩ /- POLE_STROKE_DELTA -/,
  ⟨0x6001, 0x6001, 0x01, 0x07, .enum, .ro, .n 0, .any, false, none⟩ /- POLE_SLAVE_STATE_1–7 -/,
  ⟨0x6002, 0x6002, 0x01, 0x07, .enum, .ro, .n 0, .any, false, none⟩ /- POLE_SLAVE_REASON_1–7 -/,
  ⟨0x6003, 0x6003, 0x01, 0x07, .oct 44, .ro, .b [], .any, false, none⟩ /- POLE_SLAVE_HELLO_1–7 -/,
  ⟨0x6008, 0x6008, 0x01, 0x01, .u 4, .ro, .n 0, .any, false, (some 144)⟩ /- POLE_CRC_ERRORS -/,
  ⟨0x6008, 0x6008, 0x02, 0x02, .u 4, .ro, .n 0, .any, false, (some 145)⟩ /- POLE_STRANDINGS -/,
  ⟨0x6008, 0x6008, 0x03, 0x03, .u 4, .ro, .n 0, .any, false, (some 146)⟩ /- POLE_LATE_ITEMS -/,
  ⟨0x6008, 0x6008, 0x04, 0x04, .u 4, .ro, .n 0, .any, false, (some 147)⟩ /- POLE_SCHED_MISSED -/,
  ⟨0x6008, 0x6008, 0x05, 0x05, .u 4, .ro, .n 0, .any, false, (some 148)⟩ /- POLE_RELAY_TIMEOUTS -/,
  ⟨0x6010, 0x6010, 0x01, 0x07, .oct 240, .wo, .b [], .custom, false, none⟩ /- POLE_RELAY_1–7 -/,
  ⟨0x6011, 0x6011, 0x01, 0x07, .oct 240, .rwc, .b [], .custom, false, none⟩ /- POLE_RELAY_PROTECTED_1–7 -/,
  ⟨0x6012, 0x6012, 0x01, 0x07, .oct 240, .ro, .b [], .any, false, none⟩ /- POLE_RELAY_RESPONSE_1–7 -/]

/-- The objects of the Folio chapter's table. -/
def objsFolio : List ObjDef := [
  ⟨0x4400, 0x4400, 0x01, 0x01, .u 8, .ro, .n 0, .any, false, none⟩ /- FOLIO_SEQUENCE -/,
  ⟨0x4400, 0x4400, 0x02, 0x02, .u 2, .ro, .n 0, .any, false, none⟩ /- FOLIO_FULL_STATE -/,
  ⟨0x4400, 0x4400, 0x03, 0x03, .oct 256, .ro, .b [], .any, true, none⟩ /- FOLIO_VOID_LIST -/,
  ⟨0x4400, 0x4400, 0x04, 0x04, .oct 24, .wo, .b [], .custom, false, none⟩ /- FOLIO_ACK -/,
  ⟨0x4400, 0x4400, 0x05, 0x05, .enum, .ro, .n 0, .any, false, none⟩ /- FOLIO_EXPORT_STATE -/,
  ⟨0x4400, 0x4400, 0x06, 0x06, .oct 8, .ro, .b [], .any, false, none⟩ /- FOLIO_FULL_EVENT -/,
  ⟨0x4400, 0x4400, 0x07, 0x07, .u 1, .rw, .n 0, .between 0 250, true, none⟩ /- FOLIO_RIDGE_ID -/,
  ⟨0x4400, 0x4400, 0x08, 0x08, .u 2, .rw, .n 60, .between 5 3600, true, none⟩ /- FOLIO_ACK_TIMEOUT_S -/,
  ⟨0x4400, 0x4400, 0x09, 0x09, .u 4, .ro, .n 0, .any, false, (some 181)⟩ /- FOLIO_ACK_REJECTS -/,
  ⟨0x4401, 0x4401, 0x01, 0x10, .u 2, .rwc, .n 32, .custom, true, none⟩ /- FOLIO_PAGES_0–15 -/,
  ⟨0x4402, 0x4402, 0x01, 0x10, .enum, .rw, .n 0, .custom, true, none⟩ /- FOLIO_POLICY_0–15 -/,
  ⟨0x4403, 0x4403, 0x01, 0x10, .u 1, .rw, .n 0x01, .bits 0x0F, true, none⟩ /- FOLIO_EXPORT_PORTS_0–15 -/,
  ⟨0x4404, 0x4404, 0x01, 0x10, .u 8, .ro, .n 0, .any, false, none⟩ /- FOLIO_OLDEST_SEQ_0–15 -/,
  ⟨0x4405, 0x4405, 0x01, 0x10, .u 8, .ro, .n 0, .any, false, none⟩ /- FOLIO_NEWEST_SEQ_0–15 -/,
  ⟨0x4406, 0x4406, 0x01, 0x10, .u 8, .ro, .n 0, .any, false, none⟩ /- FOLIO_ACKED_SEQ_0–15 -/,
  ⟨0x4407, 0x4407, 0x01, 0x10, .u 4, .ro, .n 0, .any, false, (some 149)⟩ /- FOLIO_DROPPED_0–15 -/,
  ⟨0x4408, 0x4408, 0x01, 0x10, .u 4, .ro, .n 0, .any, false, (some 165)⟩ /- FOLIO_OVERWRITTEN_0–15 -/,
  ⟨0x4409, 0x4409, 0x01, 0x03, .oct 200, .wo, .b [], .any, false, none⟩ /- FOLIO_NOTE_13–15 -/]

/-- The objects of the Image chapter's table. -/
def objsImage : List ObjDef := [
  ⟨0x1010, 0x1010, 0x01, 0x01, .enum, .ro, .n 0, .any, false, none⟩ /- BOOT_MODE -/,
  ⟨0x1010, 0x1010, 0x02, 0x02, .enum, .ro, .n 0, .any, false, none⟩ /- BIVOUAC_CAUSE -/,
  ⟨0x1010, 0x1010, 0x03, 0x03, .enum, .ro, .n 0, .any, false, none⟩ /- BOOT_SLOT -/,
  ⟨0x1010, 0x1010, 0x04, 0x04, .u 1, .ro, .n 0, .any, false, none⟩ /- SLOT_STATUS_A -/,
  ⟨0x1010, 0x1010, 0x05, 0x05, .u 1, .ro, .n 0, .any, false, none⟩ /- SLOT_STATUS_B -/,
  ⟨0x1010, 0x1010, 0x06, 0x06, .u 8, .ro, .n 0, .any, false, none⟩ /- SLOT_ACTIVATION_A -/,
  ⟨0x1010, 0x1010, 0x07, 0x07, .u 8, .ro, .n 0, .any, false, none⟩ /- SLOT_ACTIVATION_B -/,
  ⟨0x1010, 0x1010, 0x08, 0x08, .oct 8, .ro, .b [], .any, false, none⟩ /- SLOT_VERSIONS_A -/,
  ⟨0x1010, 0x1010, 0x09, 0x09, .oct 8, .ro, .b [], .any, false, none⟩ /- SLOT_VERSIONS_B -/,
  ⟨0x1010, 0x1010, 0x0A, 0x0A, .u 8, .ro, .n 0, .any, false, none⟩ /- ACTIVATIONS -/,
  ⟨0x1010, 0x1010, 0x0B, 0x0B, .u 4, .ro, .n 0, .any, false, none⟩ /- MAIN_FLOOR -/,
  ⟨0x1010, 0x1010, 0x0C, 0x0C, .u 4, .ro, .n 0, .any, false, none⟩ /- UCODE_FLOOR -/,
  ⟨0x1020, 0x1020, 0x01, 0x01, .oct 40, .rwc, .b [], .custom, false, none⟩ /- IMAGE_ACTIVATE -/,
  ⟨0x1020, 0x1020, 0x02, 0x02, .bool, .ro, .n 0, .any, false, none⟩ /- IMAGE_PENDING -/]

/-- The objects of the Fault chapter's table. -/
def objsFault : List ObjDef := [
  ⟨0x7000, 0x7000, 0x01, 0x01, .u 8, .ro, .n 0, .any, false, none⟩ /- FAULT_ACTIVE -/,
  ⟨0x7000, 0x7000, 0x02, 0x02, .oct 16, .ro, .b [], .any, false, none⟩ /- FAULT_LATEST -/,
  ⟨0x7000, 0x7000, 0x03, 0x03, .u 4, .ro, .n 0, .any, false, (some 232)⟩ /- FAULT_TOTAL -/,
  ⟨0x7010, 0x7010, 0x01, 0x32, .u 4, .ro, .n 0, .any, false, (some 182)⟩ /- FAULT_COUNT_1–50 -/]

/-- Every object of the Ledger, in chapter order. -/
def objTable : List ObjDef :=
  objsStroke ++
  objsPower ++
  objsLedger ++
  objsHost ++
  objsInkwell ++
  objsQuill ++
  objsLantern ++
  objsRadio ++
  objsTether ++
  objsTokens ++
  objsFeed ++
  objsLock ++
  objsRidge ++
  objsRidgeOp ++
  objsCan ++
  objsPole ++
  objsFolio ++
  objsImage ++
  objsFault

/-- The key of an object. -/
def objKey (idx sub : Nat) : Nat := idx * 256 + sub

/-- The row that defines a key, none where no chapter defines it (R11, R99). -/
def objDef (key : Nat) : Option ObjDef :=
  objTable.find? fun d =>
    decide (d.idxLo ≤ key / 256) && decide (key / 256 ≤ d.idxHi) && decide (d.subLo ≤ key % 256) && decide (key % 256 ≤ d.subHi)

/-- The highest sub-index defined at an index; 0 where the index is not defined (R99). -/
def highestSub (idx : Nat) : Nat :=
  objTable.foldl (fun m d => if d.idxLo ≤ idx ∧ idx ≤ d.idxHi then max m d.subHi else m) 0

/-- Length in bytes of a value of the type (R100). -/
def OTy.len : OTy → Nat
  | .u n => n
  | .i n => n
  | .bool => 1
  | .enum => 1
  | .oct n => n
  | .stamp => 10

/-- Byte strings cut or padded with zeros to `n` bytes (R104). -/
def padTo (n : Nat) (b : Bytes) : Bytes := (b ++ List.replicate n 0).take n

/-- The default pages of the Folio streams (R443). -/
def folioPagesDefault (stream : Nat) : Nat :=
  [320, 96, 64, 32, 64, 32, 32, 48, 48, 32, 32, 16, 16, 32, 32, 32].getD stream 0

/-- The numeric default where a table row gives several sub-indices different ones (R138, R153, R443, R463). -/
def dfltException (key : Nat) : Option Nat :=
  if key = 0x3A1141 then some 0
  else if key = 0x6A0041 then some 0
  else if key / 256 = 0x4401 then some (folioPagesDefault (key % 256 - 1))
  else if key = 0x440201 ∨ key = 0x440202 then some 1
  else none

/-- The default value of an object, encoded as R100 encodes it.
DESIGN CHOICE, log entry 161, unsafe. -/
def defaultOf (key : Nat) : Bytes :=
  match objDef key with
  | none => []
  | some d =>
    match dfltException key with
    | some v => beBytes d.ty.len v
    | none =>
      match d.dflt with
      | .n v => match d.ty with
        | .oct n => List.replicate n 0
        | t => beBytes t.len v
      | .b v => padTo d.ty.len v

/-- The shadow counter an object is a view of (R180). -/
def shadowOf (key : Nat) : Option Nat :=
  match objDef key with
  | none => none
  | some d => d.shadow.map fun b => b + (key % 256 - d.subLo) + (key / 256 - d.idxLo) * 128

/-- Whether an object is kept in the Ledger persistence region (R103). -/
def isPersisted (key : Nat) : Bool := (objDef key).elim false (·.persisted)

/-- Position in the index map of R14 of the range an index lies in, for LEDGER_WRITE_MASK (R102). -/
def rangeOf (idx : Nat) : Nat :=
  ([0x1000, 0x1100, 0x1200, 0x2000, 0x2400, 0x2800, 0x2C00, 0x3000, 0x3400, 0x3800, 0x4000, 0x4400, 0x4800, 0x5000,
    0x5800, 0x6000, 0x6800, 0x7000].filter (· ≤ idx)).length - 1

/-- The Ledger persistence pair of an object: the spec names pair 2 for the 0x1200 objects and leaves the rest of
the layout open. DESIGN CHOICE, log entry 9. -/
def pairOf (key : Nat) : Nat := (key / 256 - 0x1000) / 0x200 % 63 + 1

end Sys2Proof.Machine
end

