-- ==== Sys2Proof/Machine/State.lean ====
section
/-!
DEFINITION. State.lean: the state of the PM6464 as plain data, every piece the spec gives it, and State.reset, a device
whose power-on reset has struck and whose AO reset is not yet released (R76, R78).
-/

namespace Sys2Proof.Machine

/-! ## Supply, reset and stroke state (R19-R98) -/

/-- Where the device stands between power and a running stroke (R62, R76, R83, R85, R92, R470, R477). -/
inductive Power where
  | aoReset | factoryHold | scan | bootWindow | bootHold | waitVhold | running | dark | coreHeld | standby
  deriving DecidableEq, Repr

/-- The phase of the running stroke (R28). `commit` is the Commit window, between Work deadline and boundary. -/
inductive Phase where
  | gather | work | commit
  deriving DecidableEq, Repr

/-- A field stored three times and read by majority (R88). -/
structure Tri where
  a : Bool
  b : Bool
  c : Bool
  deriving DecidableEq, Repr

/-- The Guy latch of R88. -/
structure Guy where
  released : Tri
  feedEn : Tri
  gateOpen : Bool
  deriving DecidableEq, Repr

/-- A withdrawn span of strokes and its cause (R48). -/
structure Span where
  cause : Nat
  first : Nat
  last : Nat
  deriving DecidableEq, Repr

/-- The stroke, supplies and resets. -/
structure Sys where
  power : Power
  phase : Phase
  /-- The stroke number, 48 bits, sticking (R30). -/
  stroke : Nat
  /-- STROKE_LENGTH_ACTIVE (R28). -/
  len : Nat
  /-- Sampled straps: CASC_ID, BOOT_OPT, FACTORY_TEST (R59), and the levels last recorded as changed (R65). -/
  cascId : Nat
  bootOpt : Nat
  factoryTest : Bool
  strapsSeen : Nat
  /-- The correction still to be carried, and the one last applied (R32). -/
  corrCarry : Int
  corrApplied : Int
  /-- The CK_AO crystal drives CK_AO (R76); false: the RC oscillator. -/
  crystal : Bool
  /-- Domain power (R73): bit n is PDn on; and domains powering up, with the first stroke taking part (R74). -/
  domains : Nat
  rising : List (Nat × Nat)
  /-- The domains still to be switched on in the order of R75. -/
  powerUp : List Nat
  /-- Cause and stamp of the last reset, to be recorded at the first full stroke (R87). -/
  resetPend : Option (Nat × Stamp)
  /-- The core was held when the trigger came (R82). -/
  wasHeld : Bool
  /-- The watchdog of R81: count, armed, and the service word written in this Commit window. -/
  wdCount : Nat
  wdArmed : Bool
  service : Bool
  /-- Core resets since the last full stroke (R85). -/
  coreResets : Nat
  /-- Boundaries left until the first full stroke, and dark strokes so far (R83, R92). -/
  darkLeft : Nat
  darkSpan : Nat
  /-- A core fault or core-reset request that strikes at the next boundary: its RESET_CAUSE. -/
  resetReq : Option Nat
  /-- VHOLD: level in mV, VHOLD_STATE, Blotter estimate (R96, R98). -/
  vholdMv : Nat
  vholdState : Nat
  blotterUf : Nat
  /-- VDD3 warning in progress since this stroke (R95). -/
  warnSince : Option Nat
  /-- VLF bank fault bits (R97) and banks whose drivers wait for the next committed schedule. -/
  vlfState : Nat
  vlfWait : Nat
  /-- A wake source whose first full stroke is the next boundary (R93). -/
  waking : Option Nat
  /-- Strokes since anything of R91 was gathered. -/
  idleStrokes : Nat
  /-- START_A/START_B_N pad levels last read, strokes they differed from the latch, levels last recorded (R68). -/
  padA : Bool
  padB : Bool
  padDiff : Nat
  padSeen : Option (Bool × Bool)
  /-- Whether the running R33 window, and the one that ended last, hold full strokes on the crystal only (R33, R76, R92). -/
  windowWhole : Bool
  windowLast : Bool
  /-- PLL out of lock since this stroke, withdrawn spans still of interest (R48). -/
  pllSince : Option Nat
  spans : List Span
  /-- Entropy block of the stroke: bytes drawn so far from the DRBG, and bytes taken by units (R38). -/
  entropyBase : Nat
  entropyTaken : Nat
  /-- TAP (R63, R64): selected instruction, self-test register, SELF_TEST_RUN already started. -/
  tapInstr : Nat
  selfTest : Nat
  /-- The boundary-scan register's cells as last preloaded, and what TDO last shifted out. -/
  bsr : Nat
  tdo : Nat
  /-- Free values drawn so far (log entry 8). -/
  free : Nat
  /-- The stroke is the first full stroke after a reset (R113): class 3 core, 4 AO, 5 power-on. -/
  firstFull : Option Nat
  deriving DecidableEq, Repr

/-! ## Gather and staging (R34-R44) -/

/-- One gathered input item: class, index, sequence (R35), value bytes, and what the model keeps beside
the value to find the request again (a ring and position, a transport). -/
structure Item where
  cls : Nat
  idx : Nat
  seq : Nat
  val : Bytes
  aux : List Nat
  deriving DecidableEq, Repr

/-- A Folio record to be written: stream, TYPE, the stamp of its event, its body, whether more parts follow. -/
structure NewRec where
  stream : Nat
  type : Nat
  stamp : Stamp
  part : Nat
  body : Bytes
  deriving DecidableEq, Repr

/-- A staged change of the Guy latch (R89), by its cause. -/
inductive LatchOp where
  | setFeedEn | setReleased | clear
  deriving DecidableEq, Repr

/-- An in-flight entry of R112. -/
structure Inflight where
  op : Nat
  state : Nat
  phase : Nat
  phases : Nat
  inst : Nat
  cls : Nat
  req : Nat
  started : Stamp
  last : Stamp
  resetSeen : Nat
  result : Nat
  tag : Nat
  deriving DecidableEq, Repr

/-- A cell word written in the Commit window: raise a Tally counter to a value, advance a rolling counter to a
value under an epoch tag, or rewrite one cell of it under a new tag (R165, R173, R176). -/
inductive CellWrite where
  | tally (c v : Nat)
  | rolling (slot tag v : Nat)
  | retag (slot k tag v : Nat)
  deriving DecidableEq, Repr

/-! ## The Ledger (R99-R125) -/

/-- How a staged unit meets the commit group of its stroke (R23, R43, R109). -/
inductive Need where
  /-- Effects apply whatever the group can take; records wait or are dropped by the rules of Folio. -/
  | plain
  /-- A Ledger transaction: with persisted writes it applies whole or moves to a later Commit (R109). -/
  | txn
  /-- A grant: it stands only if all its records are placed in this group (R23, R452). -/
  | grant
  /-- A phase whose pages or cell words must be written in a group whose check passes (R302, R474). -/
  | phase
  deriving DecidableEq, Repr

/-- A journalled page pair written by a group: region 0 token and key, 1 regulatory, with payload (R163). -/
structure PairWrite where
  region : Nat
  pair : Nat
  payload : Bytes
  deriving DecidableEq, Repr

/-- A request being reassembled (R121, R122): source (CAN controller k as 256 + k, or the Ridgeline node), bytes so far, the next
segment number, the stroke of its first segment and that segment's format. -/
structure Reasm where
  src : Nat
  data : Bytes
  next : Nat
  first : Nat
  fmt : Nat
  deriving DecidableEq, Repr

/-- A clamp, as R105 records it. -/
structure Clamp where
  key : Nat
  cls : Nat
  req : Nat
  len : Nat
  offered : Bytes
  applied : Bytes
  deriving DecidableEq, Repr

/-! ## Host port (R126-R153) -/

/-- The registers of one host-port page (R134, R139, R199). -/
structure PageRegs where
  irqCause : Nat
  irqEnable : Nat
  ringStatus : Nat
  ringEnable : Nat
  window : Nat
  lastViolation : Nat
  ringSel : Nat
  /-- The Quill register page: QP_REQUEST words, QP_STATUS, QP_COMPLETION words (R199). -/
  qpRequest : Bytes
  qpStatus : Nat
  qpCompletion : Bytes
  deriving DecidableEq, Repr

/-- One ring context (R139-R141). `taken` holds the positions taken and not completed; `gen` numbers the enabling it stands
under, so that no completion reaches a ring set up anew. -/
structure Ring where
  page : Nat
  num : Nat
  cfg : Nat
  base : Nat
  error : Nat
  closing : Bool
  draining : Bool
  active : Bool
  hostIdx : Nat
  devIdx : Nat
  taken : List Nat
  gen : Nat
  deriving DecidableEq, Repr

/-- The host port. `pages` and `rings` list what differs from the cleared registers. -/
structure HostPort where
  pages : List (Nat × PageRegs)
  rings : List Ring
  /-- RING_COUNT of owners 0-64 where it differs from the committed quota, while a re-grant stands at phase 1 (R138, R152). -/
  counts : List (Nat × Nat)
  violated : Nat
  coreSeq : Bool
  resets : List (Nat × Nat)
  /-- Ring re-grants at phase 1: in-flight position, stroke of phase 1 (R152). -/
  regrants : List (Nat × Nat)
  /-- Enablings so far, and the descriptors posted for events: enabling of their ring, position, response buffer and its
  capacity (R146). -/
  gens : Nat
  events : List (Nat × Nat × Nat × Nat)
  /-- The last answer driven on the lines (R130). -/
  reply : Bytes
  /-- BW_OFFSET and BW_STATE of the boot-load window (R477). -/
  bwOffset : Nat
  bwOpen : Bool
  bwStatus : Nat
  deriving DecidableEq, Repr

/-! ## Inkwell and counters (R154-R182) -/

/-- The seal of a journalled page (R162). -/
inductive Seal where
  | empty | complete | torn | voided
  deriving DecidableEq, Repr

/-- A journalled page (R162). -/
structure JPage where
  pageSeq : Nat
  group : Nat
  payload : Bytes
  mark : Seal
  deriving DecidableEq, Repr


/-- The scrub's work on one page: attempts at rewriting, the weak words (R172). -/
structure Scrub where
  page : Nat
  weak : List Nat
  tries : Nat
  deriving DecidableEq, Repr

/-! ## Folio (R443-R463) -/

/-- A record as stored (R446). -/
structure FRec where
  seq : Nat
  stamp : Stamp
  group : Nat
  type : Nat
  part : Nat
  body : Bytes
  deriving DecidableEq, Repr

/-- One Folio page (R445): its number in the stream's area, write count, group, seal and records. -/
structure FPage where
  page : Nat
  pageSeq : Nat
  group : Nat
  mark : Seal
  recs : List FRec
  deriving DecidableEq, Repr

/-- A delivered block kept for acknowledgement: LAST_SEQ and the first 8 tag bytes (R460). -/
structure Delivered where
  last : Nat
  tag : Bytes
  deriving DecidableEq, Repr

/-- One stream: the pages that hold records, oldest first, the open one last. -/
structure Stream where
  pages : List FPage
  acked : Nat
  cursor : Nat
  full : Bool
  delivered : List Delivered
  /-- Stroke at which the acknowledgement time of R460 ends. -/
  ackDue : Option Nat
  deriving DecidableEq, Repr

/-- The export in progress (R457-R459). -/
structure Export where
  pos : Nat
  stream : Nat
  first : Nat
  last : Nat
  lastStamp : Stamp
  plain : Bytes
  deriving DecidableEq, Repr

/-- Folio. -/
structure Folio where
  streams : List (Nat × Stream)
  lastSeq : Nat
  /-- SEQ of the last DECISION record written, which its other parts name (R450). -/
  lastDec : Nat
  /-- Records refused by the VHOLD check (R168) and records carried over (R43). -/
  hold : List NewRec
  carry : List NewRec
  voids : List (Nat × Nat)
  exporting : Option Export
  /-- The block being sent over Ridgeline: next segment number and bytes left (R459). -/
  sending : Option (Nat × Bytes)
  deriving DecidableEq, Repr

/-- The state of the open commit group between Work deadline and boundary word (R165, R166), with what its pages
held before, in write order, for a tear of R161: a journalled page by number, or a Folio page by stream and place. -/
structure Group where
  num : Nat
  stamp : Stamp
  /-- The journal words of the slot before this group. -/
  oldTag : Nat
  oldWord : Nat
  undoJ : List (Nat × Option JPage)
  undoF : List (Nat × Nat × Option FPage)
  latchChange : Bool
  released : Bool
  feedEn : Bool
  deriving DecidableEq, Repr

/-- Inkwell: cell words and journalled pages that differ from manufacture (R157), the journal, the scrub and the
counters. -/
structure Inkwell where
  cells : List (Nat × Nat)
  badWords : List Nat
  pages : List (Nat × JPage)
  group : Nat
  openGroup : Option Group
  refusing : Bool
  gates : Nat
  scrub : Option Scrub
  /-- Remap entries in use: logical page, none where the spare is bad (R172). -/
  spares : List (Option Nat)
  failing : List Nat
  shadow : List (Nat × Nat)
  wraps : List (Nat × Nat)
  saveToB : Bool
  /-- Pages to be written by the first group that can: Ledger pairs by number below 64, journalled pages by page. -/
  dirty : List Nat
  /-- Counters whose stuck event has been raised: Tally by number, rolling counters as 64 + slot. -/
  stuck : List Nat
  deriving DecidableEq, Repr

/-! ## Images (R464-R482) -/

/-- What verification finds of one image (R465, R466). -/
structure ImageFacts where
  verifies : Bool
  version : Nat
  steppings : Nat
  pmin : Nat
  pmax : Nat
  floor : Nat
  deriving DecidableEq, Repr

/-- A seal page payload (R469). -/
structure SealPage where
  digest : Bytes
  activation : Nat
  mainFloor : Nat
  ucodeFloor : Nat
  deriving DecidableEq, Repr

/-- One image slot: pages written since delivery, the delivered pair (none: the slot was delivered empty), its
seal page. -/
structure Slot where
  pages : List (Nat × Bytes)
  delivered : Option (ImageFacts × ImageFacts)
  mark : Seal
  sealPage : SealPage
  deriving DecidableEq, Repr

/-- An activation in progress (R473, R474). -/
structure Activation where
  pos : Nat
  granule : Nat
  digest : Bytes
  expect : Nat
  voided : Bool
  nextPage : Nat
  refused : Nat
  deriving DecidableEq, Repr

/-- The images. `bootB`: slot B is retained in PD0 as running. -/
structure Images where
  slotA : Slot
  slotB : Slot
  bootB : Bool
  mode : Nat
  cause : Nat
  digest : Bytes
  statusA : Nat
  statusB : Nat
  pendingImg : Bool
  /-- FIRMWARE_PAIR of the running pair (R51). -/
  pair : Bytes
  act : Option Activation
  deriving DecidableEq, Repr

/-! ## Quill (R183-R209) -/

/-- A key slot (R189). The check value is computed from the key. -/
structure KeySlot where
  key : Bytes
  state : Nat
  gen : Nat
  map : Nat
  modes : Nat
  deriving DecidableEq, Repr

/-- A request on an internal queue (R183): the queue, what it is for, and its fields. Mode 0 is a key installation
whose payload is the 72-byte load image. -/
structure IntReq where
  queue : Nat
  purpose : Nat
  mode : Nat
  slot : Nat
  expect : Option Nat
  iv : Bytes
  aad : Bytes
  payload : Bytes
  tag : Bytes
  outLen : Nat
  aux : List Nat
  deriving DecidableEq, Repr

/-- Where a request came from: a ring position, the register page of a tenant, or an internal queue. -/
inductive QSrc where
  | ring (page ring pos : Nat)
  | page (page : Nat)
  | int (r : IntReq)
  deriving DecidableEq, Repr

/-- An operation on a lane, with the result it will complete with (R194, R198). -/
structure QOp where
  src : QSrc
  desc : Bytes
  slot : Nat
  mode : Nat
  genUsed : Nat
  status : Nat
  tagResult : Nat
  out : Bytes
  /-- Length of the output region an aborted operation zeroes. -/
  region : Nat
  deriving DecidableEq, Repr

/-- A key load between its gathering and its settling (R192): in-flight position, slot, expected generation, image;
`stored` at PHASE 1, with the generation it replaced. -/
structure KeyLoadOp where
  pos : Nat
  slot : Nat
  expect : Nat
  image : Bytes
  stored : Bool
  deriving DecidableEq, Repr

/-- Quill. -/
structure Quill where
  state : Nat
  cause : Nat
  sheet : Nat
  sheetFaults : Nat
  lastFault : Stamp
  slots : List (Nat × KeySlot)
  queue : List IntReq
  lanes : List (Nat × QOp)
  turn : Nat
  held : List (Nat × Nat × Bytes)
  drbgOk : Bool
  drawn : Nat
  loads : List KeyLoadOp
  deriving DecidableEq, Repr

/-! ## Lantern (R210-R230) -/

/-- An LF schedule (R219): kind 1 a field pattern, 2 a cradle exchange, 3 a master's part on a slave; its pattern, the stroke it starts in, the
telegram's payload and CODE (cradle). -/
structure LfSched where
  kind : Nat
  pattern : Nat
  start : Nat
  offset : Nat
  payload : Bytes
  second : Bytes
  deriving DecidableEq, Repr

/-- One channel's part of a burst: KIND of R224, slot, channel byte of R217, CODE, carrier-on time in microseconds. -/
structure Burst where
  kind : Nat
  slot : Nat
  chan : Nat
  code : Nat
  us : Nat
  deriving DecidableEq, Repr

/-- The running LF activity and the bursts still to end, in order. -/
structure LfRun where
  sched : LfSched
  bursts : List Burst
  guardOff : Bool
  deriving DecidableEq, Repr

/-- A channel: fault flags of the running activity, activities in a row that ended with a fault that counts, latched,
stopped for the rest of the activity, above temperature, a fault that counts met and a burst driven in this activity, carrier
time used in this regulatory window in microseconds. -/
structure LfChan where
  flags : Nat
  row : Nat
  latched : Bool
  stopped : Bool
  hot : Bool
  counted : Bool
  drove : Bool
  dutyUs : Nat
  deriving DecidableEq, Repr

/-- A handle channel: HS_STATE, baseline and last DELTA in fF, scans of an acquisition with their sum, consecutive scans
above and below, stroke TOUCHED began. -/
structure HsChan where
  state : Nat
  baseline : Nat
  delta : Int
  scans : Nat
  sum : Nat
  hits : Nat
  lows : Nat
  since : Nat
  deriving DecidableEq, Repr

/-- Lantern and handle sense. `carrier` is the carrier in force (R210). -/
structure Lantern where
  carrier : Nat
  running : Option LfRun
  next : Option LfSched
  guard : Nat
  chans : List (Nat × LfChan)
  hs : List (Nat × HsChan)
  deriving DecidableEq, Repr

/-! ## Radio front end (R231-R255) -/

/-- One entry of a schedule list (R240): RADIO, ACTION, the stroke and 100 ns offset of START (relative: to the previous
entry's end), CHANNEL in hertz or UWB channel, PROFILE, payload of BUFFER, WINDOW, ANTSEL, PRI, preamble bytes of the profile
(R234). -/
structure RadioEntry where
  radio : Nat
  action : Nat
  relative : Bool
  start : Nat
  offset : Nat
  channel : Nat
  modulation : Nat
  rate : Nat
  deviation : Nat
  power : Int
  code : Nat
  sts : Nat
  buffer : Bytes
  window : Nat
  antsel : Bool
  pri : Bool
  preamble : Nat
  deriving DecidableEq, Repr

/-- A schedule list: its entries and whether it is part of an exchange (R240). -/
structure RadioList where
  entries : List RadioEntry
  exchange : Bool
  deriving DecidableEq, Repr

/-- The activity a radio is in: entry number (0xFF for a sniff window), the entry, part (0 transmitting or ranging, 1
receiving), flags of R252, power after the cap, refused, and the packets received: kind, RSSI and offset, payload. -/
structure RadioAct where
  entry : Nat
  what : RadioEntry
  part : Nat
  flags : Nat
  power : Int
  refused : Bool
  heard : List (Nat × Bytes × Bytes)
  deriving DecidableEq, Repr

/-- The radios: RADIO_STATE of each, running list with its next entry, pending list, current activity of each radio,
key port, regulatory shadow copy (five objects, empty where missing), duty of bands and UWB in microseconds,
calibrations by number with the stroke and temperature each last ran at and whether it is stale, temperature, coexistence leads,
front-end leads and a wake telegram held in standby. -/
structure Radio where
  uhf : Nat
  uwb : Nat
  running : Option (RadioList × Nat)
  next : Option RadioList
  act : List (Nat × RadioAct)
  keyPort : Option Bytes
  reg : List Bytes
  bandUs : List (Nat × Nat)
  uwbUs : Nat
  cals : List (Nat × Nat × Int × Bool)
  temp : Int
  coexReq : Bool
  coexPri : Bool
  txen : Bool
  rxen : Bool
  antsel : Bool
  deriving DecidableEq, Repr


/-! ## Tether (R256-R283) -/

/-- An input of a decision (R451): stroke gathered, Gather key, value. -/
structure Input where
  stroke : Nat
  key : Nat
  val : Bytes
  deriving DecidableEq, Repr

/-- A wake telegram held for a slot (R256, R258). -/
structure Wake where
  stroke : Nat
  tn : Bytes
  input : Input
  /-- CONFIG_DIGEST as committed when the telegram was gathered (R47). -/
  config : Bytes
  deriving DecidableEq, Repr

/-- What an exchange stands at: its window open, its plan running, its response gathered. -/
inductive ExPhase where
  | listening | running | answered
  deriving DecidableEq, Repr

/-- A token exchange (R259-R278). `kind` as KIND of R450: 1 entry, 2 start by remote token, 3 start by cradle, 4
countersign. `due` is the decision stroke, once known; `resp` the stroke r. -/
structure Exchange where
  kind : Nat
  origin : Nat
  pos : Option Nat
  phase : ExPhase
  a : Nat
  slot : Nat
  found : Bool
  pattern : Nat
  anchors : List Nat
  tn : Bytes
  ln : Bytes
  c : Bytes
  dn : Bytes
  resp : Option Nat
  due : Option Nat
  lockout : Bool
  gen : Nat
  badAtA : Bool
  entropyOk : Bool
  answer : Option Bytes
  mac : Option (Nat × Nat)
  kdf : Option Nat
  abandoned : Bool
  missed : Bool
  config : Bytes
  firmware : Bytes
  proposal : Nat
  inputs : List Input
  deriving DecidableEq, Repr

/-- A request held until the running exchange decides (R25): a start with its in-flight position, or a countersign
exchange with its proposal number. -/
structure HeldStart where
  pos : Option Nat
  proposal : Nat
  deriving DecidableEq, Repr

/-- Tether. `window` is the stroke an open failure window began (R280); `target` the TARGET of a commissioning run;
`high` the slots whose counter-high event has been raised (R306). -/
structure Tether where
  held : List (Nat × Wake)
  run : Option Exchange
  waiting : Option HeldStart
  window : Option Nat
  target : Nat
  setValid : Bool
  high : List Nat
  deriving DecidableEq, Repr

/-! ## Countersign and Learn (R284-R309) -/

/-- A held proposal (R291): its slot object's fields, and the request it holds. -/
structure Proposal where
  slot : Nat
  num : Nat
  state : Nat
  first : Nat
  fails : Nat
  req : Requester
  digest : Bytes
  challenge : Bytes
  closes : Nat
  count : Nat
  echo : Bool
  body : Bytes
  pos : Nat
  deriving DecidableEq, Repr

/-- A Learn in progress (R302): in-flight position, LEARN_EPOCH at its start, keys by slot once plain or unwrapped, pages
of the staged bank written, strokes of refused checks, stroke of the local check, slaves that have reported, steps of
SCRUB done, and an unwrap that failed. -/
structure Learn where
  pos : Nat
  epoch : Nat
  keys : List (Nat × Bytes)
  awaiting : List Nat
  written : Nat
  refused : Nat
  checked : Option Nat
  reports : List Nat
  left : List Nat
  scrub : Nat
  failed : Bool
  deriving DecidableEq, Repr

/-- The tokens' people: proposals, the staging image of Learn, the Learn, banks to be emptied after a rollback, the debug
permission's end stroke. -/
structure People where
  proposals : List Proposal
  image : List (Nat × Bytes)
  learn : Option Learn
  erase : Option (Nat × Nat)
  debugUntil : Option Nat
  deriving DecidableEq, Repr


/-! ## Feed and the start-lock release (R310-R349) -/

/-- Feed in PD12: FEED_STATE, PG, the sticky bits of FLAGS since the last boundary, FEED_LATCH_CAUSE, lock and holdover
with the frequency of SYNC_IN, the VID target, the load-step pointer and whether detection is armed, the applied
values of 0x4810, attempts counted, whether it switches, whether the undervoltage watch is armed; FEEDLINE_STATE, ACK, the
last accepted SET_VID (SEQ, VID, SLEW), the last response driven; items queued during dark strokes, items still waiting to
be offered; V_REF at the last boundary. -/
structure Feed where
  state : Nat
  pg : Bool
  sticky : Nat
  cause : Nat
  locked : Bool
  lost : Bool
  fsync : Nat
  vid : Nat
  pointer : Nat
  lsArmed : Bool
  cfg : List Nat
  attempts : Nat
  switching : Bool
  watch : Bool
  link : Nat
  ack : Bool
  last : Option (Nat × Nat × Nat)
  reply : Nat
  queue : List Bytes
  refMv : Nat
  deriving DecidableEq, Repr

/-- The release: the PG count and the stroke of its phase 2 Commit, restarted at adoption (R341, R342, R347); the Feed status
last gathered. -/
structure Release where
  count : Nat
  since : Nat
  status : Bytes
  deriving DecidableEq, Repr


/-! ## Ridgeline (R350-R407) -/

/-- A frame of this node's for a ring cycle: FRAME_ID, the ring cycle, KIND, payload before padding, the type-4 descriptor it came from
(page, ring, position, enabling), its CMAC once Quill has it, whether it was sent. -/
structure RidgeOut where
  fid : Nat
  cycle : Nat
  kind : Nat
  body : Bytes
  src : Option (Nat × Nat × Nat × Nat)
  cmac : Option Bytes
  sent : Bool
  deriving DecidableEq, Repr

/-- A vote received: the sheet it names, its node, its payload (R368). -/
structure Vote where
  sheet : Nat
  node : Nat
  payload : Bytes
  deriving DecidableEq, Repr

/-- A Ledger message waiting for its slots: target node, next segment number, bytes left (R392). -/
structure RidgeMsg where
  target : Nat
  seq : Nat
  rest : Bytes
  deriving DecidableEq, Repr

/-- Ridgeline: RIDGE_STATE, ring cycle and ring sheet of the ring timer, RIDGE_CYCLE_OFFSET, active schedule, leader; sides
found lost (bit 0 UP, 1 DN) with the stroke each was last found so, the topology in force, inputs without symbol
synchronisation and the stroke each last lost it; guardian trips of this sheet and its stop; deviations of this cycle in
quarters of a nanosecond, the stroke offset; votes of recent sheets, own votes as sheet and REQUEST, a switch
decided; frames for the next cycle and for this one, Ledger messages waiting, headers
sent in this cycle, the last frame driven, the vote or cold-start frame of the coming slot; strokes the listen timeout
and the cold-start attempt began, frames of the attempt sent; consistent cycles, cycles without a valid frame, without a
SYNC frame, frames at odds with the ring cycle, what this cycle has shown; the dynamic segment: withdrawn, and the window,
FRAME_ID and minislots gone; babble counted in this cycle. -/
structure Ridge where
  state : Nat
  cycle : Nat
  sheet : Nat
  offset : Nat
  active : Nat
  leader : Nat
  lost : Nat
  lostUp : Nat
  lostDn : Nat
  topology : Nat
  unlocked : Nat
  symLoss : List (Nat × Nat)
  trips : Nat
  stopped : Bool
  devs : List Int
  strokeOffset : Int
  votes : List Vote
  ownVotes : List (Nat × Nat)
  switchTo : Option Nat
  next : List RidgeOut
  ready : List RidgeOut
  txq : List RidgeMsg
  sent : List Bytes
  line : Bytes
  vote : Option RidgeOut
  listenFrom : Nat
  coldFrom : Nat
  attempts : Nat
  consistent : Nat
  quiet : Nat
  syncQuiet : Nat
  badCycle : Nat
  seen : Bool
  syncSeen : Bool
  barred : Bool
  dyn : Option (Nat × Nat × Nat)
  babbled : List (Nat × Nat)
  deriving DecidableEq, Repr

/-! ## CAN FD (R408-R419) -/

/-- A message or block in a transmit ring: an export block or not, identifier, format (0 classical, 1 FD, 2 FD with BRS),
stroke of release, data fields still to send and all of them. -/
structure CanTx where
  isExport : Bool
  id : Nat
  fmt : Nat
  release : Nat
  parts : List Bytes
  whole : List Bytes
  deriving DecidableEq, Repr

/-- A controller: CAN_STATE, TEC and REC, both as they stood at the last boundary, transmit ring, export frames offered in
this stroke, the stroke at whose Commit recovery from bus-off begins, a re-initialisation waiting for the
current frame, the last frame driven. -/
structure CanCtl where
  state : Nat
  tec : Nat
  rxc : Nat
  tecView : Nat
  recView : Nat
  tx : List CanTx
  offered : Nat
  recoverAt : Option Nat
  reinit : Bool
  line : Bytes
  deriving DecidableEq, Repr


/-! ## Pole link (R420-R442) -/

/-- A frame (R423): TYPE, CASC_ID addressed, broadcast, the stroke it refers to, payload. -/
structure PoleFrame where
  type : Nat
  target : Nat
  broadcast : Bool
  stroke : Nat
  payload : Bytes
  deriving DecidableEq, Repr

/-- What the master holds of a slave: POLE_SLAVE_STATE, REASON, the last HELLO, the UNIQUE_ID admitted, the stroke its
admission takes effect, strokes without STATUS, the last STATUS, whether a STATUS came in this stroke, its
answer to STANDBY, the stroke a relay to it was sent with the TAG of the request, and whether it must be staged with the token
set. -/
structure SlaveRec where
  state : Nat
  reason : Nat
  hello : Bytes
  uid : Bytes
  effective : Option Nat
  missed : Nat
  status : Bytes
  fresh : Bool
  standby : Option Nat
  relay : Option (Nat × Nat)
  restage : Bool
  deriving DecidableEq, Repr

/-- What a slave holds of itself: admitted, EFFECTIVE and DELTA, the REASON it was refused with and when, boundaries
without a valid marker, whether one came since the last boundary (at a master: a foreign one), the last 8 delay
measurements as round-trip times less 2,000 ns in quarters of a nanosecond, boundary offset in nanoseconds, boundaries in
and out of range, an ECHO unanswered, converged, stranded, the digest bytes of its staged bank once checked, woken from
standby and not yet ACTIVE, the stroke number of the last valid marker. -/
structure PoleSelf where
  admitted : Bool
  effective : Option Nat
  delta : Nat
  refused : Nat
  refusedAt : Nat
  missed : Nat
  marked : Bool
  delays : List Nat
  offset : Int
  good : Nat
  bad : Nat
  echo : Bool
  converged : Bool
  stranded : Bool
  staged : Option Bytes
  woken : Bool
  mstroke : Nat
  deriving DecidableEq, Repr

/-- An item of a slave held for its due stroke (R434): due stroke, class, index, sequence, value. -/
structure HeldItem where
  due : Nat
  cls : Nat
  idx : Nat
  seq : Nat
  val : Bytes
  deriving DecidableEq, Repr

/-- The Pole link: admission table, own admission, frames sent since the last boundary, items held for their strokes, own
items held before ACTIVE, strokes in a row with a valid marker at a master, conflict, and the standby command in progress:
its requester, the stroke it was sent, and the response once it succeeds. -/
structure Pole where
  slaves : List (Nat × SlaveRec)
  self : PoleSelf
  out : List PoleFrame
  items : List HeldItem
  kept : List HeldItem
  foreign : Nat
  conflict : Bool
  standby : Option (Requester × Nat × Bytes)
  deriving DecidableEq, Repr


/-! ## Effects staged for the boundary (R40, R44) -/

/-- One result staged by a unit, applied at the boundary in Work order (R40, R44). -/
inductive Effect where
  /-- A Ledger value. -/
  | obj (key : Nat) (v : Bytes)
  /-- A shadow counter raised by `k` (R178). -/
  | count (n k : Nat)
  /-- A fault recorded under its code with DETAIL (R483). -/
  | fault (code detail : Nat)
  /-- A determinism break and the strokes it withdraws (R48). -/
  | brk (cause first last : Nat)
  /-- A Guy latch change (R89). -/
  | latch (op : LatchOp)
  /-- A clamp report entry (R105). -/
  | clamp (c : Clamp)
  /-- An in-flight entry written (R112). -/
  | inflight (pos : Nat) (e : Inflight)
  /-- A Ledger response released (R123), interim or final. -/
  | respond (r : Requester) (interim : Bool) (status : Nat) (msg : Bytes)
  /-- Completion of a descriptor that carries no message (R144). -/
  | complete (page ring pos gen status len : Nat)
  /-- A published change: objects and ports, bit 0 global page, bit 1 CAN FD, bit 2 Ridgeline (R124). -/
  | event (keys : List Nat) (ports : Nat)
  /-- Subsystem reset by code (R86). -/
  | subsystem (code : Nat)
  /-- DOMAIN_ENABLE applied: domains switched on and off (R74). -/
  | domains (v : Nat)
  /-- Standby entered (R91). -/
  | standby
  /-- Tenant reset; leaves the tenant DISABLED or RESETTING (R150). -/
  | tenantReset (t : Nat) (disabled : Bool)
  | tenantReady (t : Nat)
  /-- Granule cleared at a change of owner (R147). -/
  | granule (g : Nat)
  /-- Ring re-grant phases (R152). -/
  | regrantClose (pos : Nat) (counts : List (Nat × Nat))
  | regrantMove
  /-- An internal Quill request queued (R183). -/
  | quillQueue (r : IntReq)
  /-- A key load opened, stored, or dropped by in-flight position (R192); an erase (R193). -/
  | keyLoad (l : KeyLoadOp)
  | keyStore (pos : Nat) (key : Bytes)
  | keyDrop (pos : Nat)
  | keyErase (slot pos : Nat) (revoke : Bool)
  | keyMap (slot map : Nat)
  | keyModes (slot modes : Nat)
  /-- Folio: an acknowledgement (R460), a change of the areas (R444), the export (R457, R459). -/
  | folioAck (stream last : Nat)
  | folioAreas (old : List Nat)
  | exportStart (e : Export)
  | exportEnd (ok : Bool) (block : Bytes)
  /-- Activation state (R474). -/
  | act (a : Option Activation)
  | imagePending
  /-- Pages of the target slot written from a page on; its seal voided or written (R474). -/
  | slotPages (first : Nat) (data : List Bytes)
  | slotSeal (p : Option SealPage)
  /-- Lantern: a schedule committed, an abort, a channel's LATCHED_OFF cleared (R219, R223). -/
  | lfSchedule (x : LfSched)
  | lfAbort
  | lfClear (ch : Nat)
  /-- The radio: a list applied, an abort, the regulatory shadow copy reloaded (R239, R232). -/
  | radioList (l : RadioList)
  | radioAbort
  | regReload
  /-- Tether: the exchange replaced, a request held, the failure window (R259, R25, R280). -/
  | exchange (x : Option Exchange)
  | holdStart (h : Option HeldStart)
  | lockWindow (w : Option Nat)
  | counterHigh (slot : Nat)
  | commission (target : Nat)
  /-- Countersign: a proposal held or changed, or freed by its slot; the debug permission (R291, R298). -/
  | proposal (p : Proposal)
  | proposalFree (slot : Nat)
  | debugUntil (u : Option Nat)
  /-- Learn: a record of the staging image, the image zeroed, the Learn's progress, the set checked again (R300-R302). -/
  | learnRecord (slot : Nat) (v : Bytes)
  | learnClear
  | learn (l : Option Learn)
  | learnErase (e : Option (Nat × Nat))
  | checkSet
  /-- Feed: a latch-off cleared (R326); the release's PG count and its start (R340, R341). -/
  | feedClear
  | pgCount (n : Nat)
  | releaseSince (stroke : Nat)
  /-- Ridgeline: a schedule made active at a sheet boundary, by switch or adoption, the guardian cleared (R398, R399, R403). -/
  | ridgeActive (k : Nat) (adopted : Bool)
  | ridgeGuardClear
  /-- CAN FD: recovery from bus-off begun by hand (R417). -/
  | canRecover (k : Nat)
  /-- Bytes written to an owner's buffer (R391, R146). -/
  | store (page addr : Nat) (b : Bytes)
  /-- Pole link: a frame sent at the boundary (R433); a slave admitted at a stroke, refused, found in a state, removed,
  to be staged again or not, relayed to (R431, R436, R437, R439, R441); the standby command (R440). -/
  | poleSend (f : PoleFrame)
  | slaveAdmit (n : Nat) (hello : Bytes) (effective : Nat) (restage : Bool)
  | slaveRefuse (n : Nat) (hello : Bytes) (reason : Nat)
  | slaveState (n st : Nat)
  | slaveGone (n : Nat)
  | slaveRestage (n : Nat) (b : Bool)
  | slaveRelay (n : Nat) (r : Option (Nat × Nat))
  | poleStandby (x : Option (Requester × Nat × Bytes))
  /-- A slave refused with a REASON (R431), its staged bank to be checked (R439). -/
  | poleRefused (reason : Nat)
  | poleCheck
  deriving DecidableEq, Repr

/-- The staged results of one unit, keyed by the Gather key of its first input (R39, R40). -/
structure Staged where
  key : Nat
  need : Need
  effs : List Effect
  recs : List NewRec
  cells : List CellWrite
  pairs : List PairWrite
  /-- What applies instead when the VHOLD check refuses the group's pages (R23, R109). -/
  held : List Effect
  /-- What applies instead when a grant's records cannot be placed (R23), and the records of either refusal. -/
  busy : List Effect
  altRecs : List NewRec
  altCells : List CellWrite
  deriving DecidableEq, Repr

/-! ## The machine -/

/-- Why the machine stops. -/
inductive Fault where
  /-- Raised by no command of this model: the spec gives every command an outcome held in the state. Safe. -/
  | none
  deriving DecidableEq, Repr

/-- Why a command has no meaning. -/
inductive Refusal where
  /-- Raised by an arm of `exec` whose command has no meaning yet, by its mnemonic. Safe. -/
  | notModelled (mnemonic : String)
  deriving DecidableEq, Repr

/-- What the Ledger shows of values that change within a stroke, as the last boundary left them: a read returns what was
committed then, and shadow counters change at Commit (R101, R107, R178). -/
structure Seen where
  sys : Sys
  objs : List (Nat × Bytes)
  shadow : List (Nat × Nat)
  wraps : List (Nat × Nat)
  folio : Folio
  img : Images
  quill : Quill
  lf : Lantern
  radio : Radio
  tether : Tether
  feed : Feed
  release : Release
  ridge : Ridge
  can0 : CanCtl
  can1 : CanCtl
  pole : Pole
  deriving DecidableEq, Repr

/-- The whole state of the PM6464: every register, buffer, counter, mode and pin the spec gives it, and the
commands waiting, first in, first out. -/
structure State where
  pending : List Instr
  sys : Sys
  guy : Guy
  /-- Ledger values that differ from their defaults, by key (R99, R103). -/
  objs : List (Nat × Bytes)
  /-- Items waiting at their sources, items of this stroke in key order, next sequence per source (R35). -/
  gq : List Item
  gathered : List Item
  seqs : List (Nat × Nat)
  /-- Units cancelled in the last stroke, waiting to run again in this one, and those cancelled in this one (R41). -/
  rerun : List Item
  cancelled : List Item
  staged : List Staged
  /-- Transactions moved to a later Commit (R109). -/
  deferred : List Staged
  inflight : List (Nat × Inflight)
  newest : Nat
  reasm : List Reasm
  /-- Event counts of the host page, CAN FD and Ridgeline (R124). -/
  evGlobal : Nat
  evCan : Nat
  evRidge : Nat
  faultActive : Nat
  host : HostPort
  /-- The SRAM pool of PD3 (R147), canonical: rising addresses, no zero byte. -/
  mem : List Host.Cell
  ink : Inkwell
  folio : Folio
  img : Images
  quill : Quill
  lf : Lantern
  radio : Radio
  tether : Tether
  people : People
  feed : Feed
  release : Release
  ridge : Ridge
  can0 : CanCtl
  can1 : CanCtl
  pole : Pole
  seen : Seen
  deriving DecidableEq, Repr

/-! ## Reset -/

/-- A field with three equal copies. -/
def Tri.all (b : Bool) : Tri := ⟨b, b, b⟩

/-- The supply and stroke state at power-on reset: AO reset asserted, latch locked, stroke 0 (R30, R76, R88).
DESIGN CHOICE, log entry 1, unsafe.
DESIGN CHOICE, log entry 5, unsafe.
DEDUCED, log entry 41, unsafe. -/
def Sys.reset : Sys where
  power := .aoReset
  phase := .gather
  stroke := 0
  len := 1
  cascId := 0
  bootOpt := 0
  factoryTest := false
  strapsSeen := 0
  corrCarry := 0
  corrApplied := 0
  crystal := false
  domains := 1
  rising := []
  powerUp := []
  resetPend := some (0, Stamp.zero)
  wasHeld := false
  wdCount := 0
  wdArmed := false
  service := false
  coreResets := 0
  darkLeft := 0
  darkSpan := 0
  resetReq := none
  vholdMv := 0
  vholdState := 0
  blotterUf := 0
  warnSince := none
  vlfState := 0
  vlfWait := 0
  waking := none
  idleStrokes := 0
  padA := false
  padB := true
  padDiff := 0
  padSeen := none
  windowWhole := false
  windowLast := false
  pllSince := none
  spans := []
  entropyBase := 0
  entropyTaken := 0
  tapInstr := 15
  selfTest := 0
  bsr := 0
  tdo := 0
  free := 0
  firstFull := none

/-- A cleared host port: every register 0, every ring disabled with LOG2_SIZE 3 (R134, R139). -/
def HostPort.reset : HostPort where
  pages := []
  rings := []
  counts := []
  violated := 0
  coreSeq := false
  resets := []
  regrants := []
  gens := 0
  events := []
  reply := []
  bwOffset := 0
  bwOpen := false
  bwStatus := 0

/-- Inkwell as manufactured: cells at value 0, journalled pages empty (R157); shadow counters zero (R179).
DESIGN CHOICE, log entry 4, unsafe. -/
def Inkwell.reset : Inkwell where
  cells := []
  badWords := []
  pages := []
  group := 0
  openGroup := none
  refusing := false
  gates := 0
  scrub := none
  spares := []
  failing := []
  shadow := []
  wraps := []
  saveToB := false
  dirty := []
  stuck := []

/-- Folio with no record.
DESIGN CHOICE, log entry 4, unsafe. -/
def Folio.reset : Folio where
  streams := []
  lastSeq := 0
  lastDec := 0
  hold := []
  carry := []
  voids := []
  exporting := none
  sending := none

/-- The pair the device is delivered with in slot A: major 3 and major 2 (R2), tested on both steppings with each
other. DESIGN CHOICE, log entry 3. -/
def Slot.delivered0 : Slot where
  pages := []
  delivered := some (⟨true, 0x03000000, 6, 0x02000000, 0x02FFFFFF, 0⟩, ⟨true, 0x02000000, 6, 0x03000000, 0x03FFFFFF, 0⟩)
  mark := .complete
  sealPage := ⟨[], 0, 0, 0⟩

/-- An empty slot: its seal page is empty (R157).
DESIGN CHOICE, log entry 3, unsafe. -/
def Slot.empty : Slot where
  pages := []
  delivered := none
  mark := .empty
  sealPage := ⟨[], 0, 0, 0⟩

/-- The images at delivery.
DESIGN CHOICE, log entry 161, unsafe. -/
def Images.reset : Images where
  slotA := Slot.delivered0
  slotB := Slot.empty
  bootB := false
  mode := 0
  cause := 0
  digest := []
  statusA := 0
  statusB := 0
  pendingImg := false
  pair := []
  act := none

/-- Quill off: PD5 is not powered; every slot EMPTY at generation 0 (R157, R190).
DESIGN CHOICE, log entry 161, unsafe. -/
def Quill.reset : Quill where
  state := 2
  cause := 0
  sheet := 0
  sheetFaults := 0
  lastFault := Stamp.zero
  slots := []
  queue := []
  lanes := []
  turn := 0
  held := []
  drbgOk := false
  drawn := 0
  loads := []

/-- Lantern at reset: nothing runs, every channel idle, every handle channel OFF (R228). -/
def Lantern.reset : Lantern where
  carrier := 0
  running := none
  next := none
  guard := 0
  chans := []
  hs := []

/-- The radios in SLEEP, the regulatory shadow copy empty (R232, R246).
DESIGN CHOICE, log entry 161, unsafe. -/
def Radio.reset : Radio where
  uhf := 0
  uwb := 0
  running := none
  next := none
  act := []
  keyPort := none
  reg := []
  bandUs := []
  uwbUs := 0
  cals := []
  temp := 0
  coexReq := false
  coexPri := false
  txen := false
  rxen := false
  antsel := false

/-- No exchange, no telegram held; the manufactured token set is valid (R286). -/
def Tether.reset : Tether where
  held := []
  run := none
  waiting := none
  window := none
  target := 0
  setValid := true
  high := []

/-- No proposal, no Learn, an empty staging image. -/
def People.reset : People where
  proposals := []
  image := []
  learn := none
  erase := none
  debugUntil := none

/-- Feed off: PD12 is not powered (R320). -/
def Feed.reset : Feed where
  state := 0
  pg := false
  sticky := 0
  cause := 0
  locked := false
  lost := false
  fsync := 0
  vid := 0
  pointer := 0
  lsArmed := true
  cfg := []
  attempts := 0
  switching := false
  watch := false
  link := 0
  ack := false
  last := none
  reply := 0
  queue := []
  refMv := 0

/-- Ridgeline off: PD10 is not powered (R379); RIDGE_LEADER unknown (R407). -/
def Ridge.reset : Ridge where
  state := 0
  cycle := 0
  sheet := 0
  offset := 0
  active := 0
  leader := 0xFF
  lost := 0
  lostUp := 0
  lostDn := 0
  topology := 0
  unlocked := 0
  symLoss := []
  trips := 0
  stopped := false
  devs := []
  strokeOffset := 0
  votes := []
  ownVotes := []
  switchTo := none
  next := []
  ready := []
  txq := []
  sent := []
  line := []
  vote := none
  listenFrom := 0
  coldFrom := 0
  attempts := 0
  consistent := 0
  quiet := 0
  syncQuiet := 0
  badCycle := 0
  seen := false
  syncSeen := false
  barred := false
  dyn := none
  babbled := []

/-- A controller that is off (R419). -/
def CanCtl.reset : CanCtl where
  state := 0
  tec := 0
  rxc := 0
  tecView := 0
  recView := 0
  tx := []
  offered := 0
  recoverAt := none
  reinit := false
  line := []

/-- The Pole link with nothing admitted (R432). -/
def Pole.reset : Pole where
  slaves := []
  self := ⟨false, none, 0, 0, 0, 0, false, [], 0, 0, 0, false, false, false, none, false, 0⟩
  out := []
  items := []
  kept := []
  foreign := 0
  conflict := false
  standby := none


/-- What the Ledger would show right after reset.
DESIGN CHOICE, log entry 1, unsafe. -/
def Seen.reset : Seen where
  sys := Sys.reset
  objs := []
  shadow := []
  wraps := []
  folio := Folio.reset
  img := Images.reset
  quill := Quill.reset
  lf := Lantern.reset
  radio := Radio.reset
  tether := Tether.reset
  feed := Feed.reset
  release := ⟨0, 0, []⟩
  ridge := Ridge.reset
  can0 := CanCtl.reset
  can1 := CanCtl.reset
  pole := Pole.reset

/-- The machine right after a power-on reset has struck: every register at the value the spec gives for reset, or
at the value log entries 1 to 5 name; nothing listed in memory; no command waiting.
DEDUCED, log entry 2, unsafe. -/
def State.reset : State where
  pending := []
  sys := Sys.reset
  guy := ⟨Tri.all false, Tri.all false, false⟩
  objs := []
  gq := []
  gathered := []
  seqs := []
  rerun := []
  cancelled := []
  staged := []
  deferred := []
  inflight := []
  newest := 0
  reasm := []
  evGlobal := 0
  evCan := 0
  evRidge := 0
  faultActive := 0
  host := HostPort.reset
  mem := []
  ink := Inkwell.reset
  folio := Folio.reset
  img := Images.reset
  quill := Quill.reset
  lf := Lantern.reset
  radio := Radio.reset
  tether := Tether.reset
  people := People.reset
  feed := Feed.reset
  release := ⟨0, 0, []⟩
  ridge := Ridge.reset
  can0 := CanCtl.reset
  can1 := CanCtl.reset
  pole := Pole.reset
  seen := Seen.reset

end Sys2Proof.Machine
end

