-- ==== Sys2Proof/Machine/Ops.lean ====
section
/-!
DEFINITION. Ops.lean: the named operations over the state that every command's meaning is written with: byte strings, the
object store, the SRAM pool, Inkwell cell words, shadow counters, the Gather queue, staging, in-flight entries, faults
and Folio records.
-/

namespace Sys2Proof.Machine

/-- The outcome of a command. -/
abbrev Out := Host.Outcome State Fault Refusal

/-! ## Byte strings -/

/-- Byte `i` of a string as a number, 0 beyond its end. -/
def byteAt (b : Bytes) (i : Nat) : Nat := (b.getD i 0).toNat

/-- `n` bytes from offset `i`. -/
def slice (b : Bytes) (i n : Nat) : Bytes := (b.drop i).take n

/-- A number from bytes, most significant first. -/
def beNat (b : Bytes) : Nat := b.foldl (fun a x => 256 * a + x.toNat) 0

/-- A number from bytes, least significant first. -/
def leNat (b : Bytes) : Nat := b.foldr (fun x a => x.toNat + 256 * a) 0

/-- `n` bytes of a signed number in two's complement, most significant first. -/
def beInt (n : Nat) (v : Int) : Bytes := beBytes n (v % (256 ^ n : Nat)).toNat

/-- The signed number a byte string holds in two's complement. -/
def intOf (b : Bytes) : Int :=
  let v := beNat b
  if 2 * v < 256 ^ b.length then v else (v : Int) - (256 ^ b.length : Nat)

/-- `n` zero bytes. -/
def zeros (n : Nat) : Bytes := List.replicate n 0

/-- Bits `hi:lo` of a number. -/
def bits (v hi lo : Nat) : Nat := v / 2 ^ lo % 2 ^ (hi + 1 - lo)

/-- Bit `n` set to `b`. -/
def setBit (v n : Nat) (b : Bool) : Nat :=
  if b then (if v.testBit n then v else v + 2 ^ n) else (if v.testBit n then v - 2 ^ n else v)

/-- A Boolean as a number. -/
def b2n (b : Bool) : Nat := if b then 1 else 0

/-! ## Sorted association lists -/

/-- The value at a key. -/
def alookup {α : Type} (k : Nat) (l : List (Nat × α)) : Option α := (l.find? (·.1 == k)).map (·.2)

/-- The list with the value at a key replaced or inserted, keys rising. -/
def ainsert {α : Type} (k : Nat) (v : α) : List (Nat × α) → List (Nat × α)
  | [] => [(k, v)]
  | (k', v') :: r =>
    if k < k' then (k, v) :: (k', v') :: r
    else if k = k' then (k, v) :: r
    else (k', v') :: ainsert k v r

/-- The list without a key. -/
def aerase {α : Type} (k : Nat) (l : List (Nat × α)) : List (Nat × α) := l.filter (·.1 != k)

/-- The list with element `i` replaced. -/
def setAt {α : Type} (l : List α) (i : Nat) (v : α) : List α := l.set i v

/-! ## The SRAM pool (R147) -/

/-- Whether cells stand in canonical form: rising addresses, no entry equal to zero, which an unlisted address
reads as. -/
def Memory.wf : List Host.Cell → Bool
  | [] => true
  | [c] => c.2 != 0
  | c :: d :: r => c.2 != 0 && decide (c.1 < d.1) && Memory.wf (d :: r)

/-- One byte of the pool: 0 where nothing is listed (R147).
DEDUCED, log entry 2, unsafe. -/
def Memory.read (m : List Host.Cell) (a : Nat) : Byte := (alookup a m).getD 0

/-- A byte written, keeping the canonical form. -/
def Memory.write (m : List Host.Cell) (a : Nat) (v : Byte) : List Host.Cell :=
  match m with
  | [] => if v = 0 then [] else [(a, v)]
  | c :: r =>
    if a < c.1 then (if v = 0 then c :: r else (a, v) :: c :: r)
    else if a = c.1 then (if v = 0 then r else (a, v) :: r)
    else c :: Memory.write r a v

/-- Size of the pool: 96 granules of 4,096 bytes. -/
def poolSize : Nat := 96 * 4096

/-- The pool with every byte of granule `g` zero (R147). -/
def Memory.clearGranule (m : List Host.Cell) (g : Nat) : List Host.Cell :=
  m.filter fun c => !(decide (g * 4096 ≤ c.1) && decide (c.1 < (g + 1) * 4096))

/-- `n` bytes of the pool from address `a`. -/
def State.memRead (s : State) (a n : Nat) : Bytes := (List.range n).map fun i => Memory.read s.mem (a + i)

/-- Bytes written to the pool from address `a`; bytes beyond the pool are dropped. -/
def State.memWrite (s : State) (a : Nat) (b : Bytes) : State :=
  { s with mem := (b.zipIdx).foldl (fun m p => if a + p.2 < poolSize then Memory.write m (a + p.2) p.1 else m) s.mem }

/-! ## Ledger values (R99, R103) -/

/-- The committed value of an object held in the store, encoded as R100 encodes it. -/
def State.raw (s : State) (key : Nat) : Bytes := (alookup key s.objs).getD (defaultOf key)

/-- The committed value of an unsigned object. -/
def State.num (s : State) (key : Nat) : Nat := beNat (s.raw key)

/-- The committed value of a signed object. -/
def State.int (s : State) (key : Nat) : Int := intOf (s.raw key)

/-- A Ledger value stored; a value equal to the default is not listed. -/
def State.setRaw (s : State) (key : Nat) (v : Bytes) : State :=
  { s with objs := if v = defaultOf key then aerase key s.objs else ainsert key v s.objs }

/-- An unsigned Ledger value stored in its type's length. -/
def State.setNum (s : State) (key v : Nat) : State :=
  s.setRaw key (beBytes ((objDef key).elim 0 (·.ty.len)) v)

/-- The effect that stores an unsigned value. -/
def objN (key v : Nat) : Effect := .obj key (beBytes ((objDef key).elim 0 (·.ty.len)) v)

/-! ## Inkwell cell words (R156, R173-R176) -/

/-- Gray order of cells: n XOR (n >> 1) (R173). -/
def gray (n : Nat) : Nat := n ^^^ (n >>> 1)

/-- Word address of cell `k` of Tally counter `c` (R156). -/
def tallyAddr (c k : Nat) : Nat := (1040 + c / 2) * 32 + c % 2 * 16 + k

/-- The word of cell `k` of counter `c` at value `v` (R173). -/
def tallyWord (c k v : Nat) : Nat := c * 2 ^ 58 + k * 2 ^ 54 + v

/-- Word address of cell `k` of the rolling counter of `slot` (R156). -/
def rollAddr (slot k : Nat) : Nat := (1072 + slot / 4) * 32 + slot % 4 * 8 + k

/-- The word of cell `k` of a rolling counter (R176). -/
def rollWord (slot k tag v : Nat) : Nat := slot * 2 ^ 58 + k * 2 ^ 55 + tag % 16 * 2 ^ 48 + v

/-- The value of a Tally counter, none where no cell is valid, and whether some cell is invalid (R173, R174). -/
def tallyScan (ink : Inkwell) (c : Nat) : Option Nat × Bool :=
  (List.range 16).foldl (fun acc k =>
    let w := (alookup (tallyAddr c k) ink.cells).getD (tallyWord c k 0)
    if ink.badWords.contains (tallyAddr c k) || w / 2 ^ 54 != c * 16 + k then (acc.1, true)
    else (some (max (acc.1.getD 0) (w % 2 ^ 48)), acc.2)) (none, false)

/-- The value a Tally counter reads (R174): its largest valid cell, one more where a cell is invalid, the largest
value where none is valid. -/
def State.tally (s : State) (c : Nat) : Nat :=
  match tallyScan s.ink c with
  | (none, _) => 2 ^ 48 - 1
  | (some v, bad) => if bad then min (v + 1) (2 ^ 48 - 1) else v

/-- The value a rolling counter reads under the epoch tag in force (R176, R177). -/
def State.rolling (s : State) (slot tag : Nat) : Nat :=
  let r := (List.range 8).foldl (fun (acc : Option Nat × Bool) k =>
    let w := (alookup (rollAddr slot k) s.ink.cells).getD (rollWord slot k 0 0)
    if s.ink.badWords.contains (rollAddr slot k) || w / 2 ^ 55 != slot * 8 + k then (acc.1, true)
    else if w / 2 ^ 48 % 16 = tag % 16 then (some (max (acc.1.getD 0) (w % 2 ^ 32)), acc.2)
    else acc) (none, false)
  match r with
  | (none, false) => 0
  | (none, true) => 2 ^ 32 - 1
  | (some v, bad) => if bad then min (v + 1) (2 ^ 32 - 1) else v

/-- A cell word written; the word is whole again (R161). -/
def Inkwell.putCell (ink : Inkwell) (addr w : Nat) : Inkwell :=
  { ink with cells := ainsert addr w ink.cells, badWords := ink.badWords.filter (· != addr) }

/-- A cell write carried out: the cell in Gray order of the value written (R173, R176). -/
def Inkwell.writeCell (ink : Inkwell) : CellWrite → Inkwell
  | .tally c v => let k := gray (v % 16); ink.putCell (tallyAddr c k) (tallyWord c k v)
  | .rolling slot tag v => let k := gray (v % 8); ink.putCell (rollAddr slot k) (rollWord slot k tag v)
  | .retag slot k tag v => ink.putCell (rollAddr slot k) (rollWord slot k tag v)

/-- The boot count (R76): Tally counter 0, sticking at 2^32 - 1 in the 32-bit stamp. -/
def State.boot (s : State) : Nat := min (s.tally 0) (2 ^ 32 - 1)

/-- The stamp of the running stroke. -/
def State.stamp (s : State) : Stamp := ⟨s.boot, s.sys.stroke⟩

/-- A stamp as the Ledger encodes it (R100). -/
def stampBytes (t : Stamp) : Bytes := beBytes 4 t.boot ++ beBytes 6 t.stroke

/-- A stamp as Inkwell and descriptors store it, the 80-bit value least significant byte first (R5, R9). -/
def stampLe (t : Stamp) : Bytes := leBytes 6 t.stroke ++ leBytes 4 t.boot

/-! ## Shadow counters (R178) -/

/-- A shadow counter's value. -/
def State.shadow (s : State) (n : Nat) : Nat := (alookup n s.ink.shadow).getD 0

/-- A shadow counter raised by `k`, wrapping at 2^32 and counting the wraps up to 255 (R178). -/
def State.countUp (s : State) (n k : Nat) : State :=
  let v := s.shadow n + k
  let w := (alookup n s.ink.wraps).getD 0
  { s with ink := { s.ink with
      shadow := ainsert n (v % 2 ^ 32) s.ink.shadow
      wraps := if v < 2 ^ 32 then s.ink.wraps else ainsert n (min 255 (w + v / 2 ^ 32)) s.ink.wraps } }

/-- A shadow counter as its objects and mirrors show it: its value at the last boundary (R178). -/
def State.shadowSeen (s : State) (n : Nat) : Nat := (alookup n s.seen.shadow).getD 0

/-- What the Ledger shows, taken at a boundary.
DEDUCED, log entry 26, unsafe. -/
def State.look (s : State) : State :=
  { s with seen := ⟨s.sys, s.objs, s.ink.shadow, s.ink.wraps, s.folio, s.img, s.quill, s.lf, s.radio, s.tether, s.feed,
    s.release, s.ridge, s.can0, s.can1, s.pole⟩ }

/-- The state with every part the Ledger shows as the last boundary left it.
DEDUCED, log entry 26, unsafe. -/
def State.asSeen (s : State) : State :=
  let v := s.seen
  { s with
    sys := v.sys, objs := v.objs, ink := { s.ink with shadow := v.shadow, wraps := v.wraps }, folio := v.folio
    img := v.img, quill := v.quill, lf := v.lf, radio := v.radio, tether := v.tether, feed := v.feed
    release := v.release, ridge := v.ridge, can0 := v.can0, can1 := v.can1, pole := v.pole }

/-! ## Gather (R34, R35) -/

/-- The master's stroke number, by the DELTA of this device's admission (R432). -/
def State.masterStroke (s : State) : Nat := (s.sys.stroke + s.pole.self.delta) % 2 ^ 48

/-- An item of class 0x06, 0x07 or 0x09 that an ACTIVE slave produces goes to the master as an ITEM frame; one woken from
standby and not ACTIVE yet holds up to 8; in Bivouac mode none is sent (R434, R440, R479).
DEDUCED, log entry 140, unsafe. -/
def State.sendItem (s : State) (cls idx seq : Nat) (val : Bytes) : State :=
  let p := s.pole.self
  if s.sys.cascId = 0 ∨ !(cls == 6 || cls == 7 || cls == 9) ∨ p.stranded ∨ s.img.mode = 1 then s
  else if p.admitted && p.converged then
    let at' := s.masterStroke + (if s.sys.phase = .commit then 1 else 0)
    { s with pole := { s.pole with out := s.pole.out ++
      [(⟨0x42, 0, false, at' % 2 ^ 48, beBytes 1 cls ++ beBytes 1 idx ++ beBytes 2 seq ++ val⟩ : PoleFrame)] } }
  else if p.woken ∧ s.pole.kept.length < 8 then
    { s with pole := { s.pole with kept := s.pole.kept ++ [(⟨0, cls, idx, seq, val⟩ : HeldItem)] } }
  else s

/-- An item deposited by its source, under the source's next sequence number (R35).
DESIGN CHOICE, log entry 4, unsafe. -/
def State.offer (s : State) (cls idx : Nat) (val : Bytes) (aux : List Nat := []) : State :=
  let k := cls * 256 + idx
  let q := (alookup k s.seqs).getD 0
  let s' : State := { s with gq := s.gq ++ [⟨cls, idx, q, val, aux⟩], seqs := ainsert k ((q + 1) % 2 ^ 16) s.seqs }
  s'.sendItem cls idx q val

/-- The 32-bit ordering key of an item (R35). -/
def Item.key (i : Item) : Nat := i.cls * 2 ^ 24 + i.idx * 2 ^ 16 + i.seq

/-- Gather order of two items: class, index, then sequence by serial-number arithmetic (R35). -/
def Item.le (a b : Item) : Bool :=
  if a.cls != b.cls then decide (a.cls < b.cls)
  else if a.idx != b.idx then decide (a.idx < b.idx)
  else decide ((b.seq + 2 ^ 16 - a.seq) % 2 ^ 16 < 2 ^ 15)

/-- The gathered item of a class and index that satisfies a test, if there is one. -/
def State.gatheredItem (s : State) (cls idx : Nat) (p : Item → Bool := fun _ => true) : Option Item :=
  s.gathered.find? fun i => i.cls == cls && i.idx == idx && p i

/-- A gathered item whose unit has run. -/
def State.consume (s : State) (i : Item) : State := { s with gathered := s.gathered.filter (· != i) }

/-- Units run: the device runs strokes and Gather has closed (R28). -/
def State.working (s : State) : Bool := s.sys.power == .running && s.sys.phase == .work

/-! ## Units and staging (R39, R40) -/

/-- A unit's staged results that need nothing of the group. -/
def plainUnit (key : Nat) (effs : List Effect) (recs : List NewRec) : Staged :=
  ⟨key, .plain, effs, recs, [], [], [], [], [], []⟩

/-- Results staged at the end of the stroke's staging list. -/
def State.stage (s : State) (u : Staged) : State := { s with staged := s.staged ++ [u] }

/-- Every effect staged so far in this stroke, in Work order. -/
def State.effects (s : State) : List Effect := s.staged.flatMap (·.effs)

/-! ## In-flight entries (R112-R114) -/

/-- A free entry. -/
def Inflight.free : Inflight := ⟨0, 0, 0, 0, 0, 0, 0, Stamp.zero, Stamp.zero, 0, 0, 0⟩

/-- An entry as the unit sees it: the committed entries with those the stroke's units have staged.
DEDUCED, log entry 18, unsafe. -/
def State.inflightAt (s : State) (pos : Nat) : Inflight :=
  s.effects.foldl (fun e f => match f with
    | .inflight p e' => if p = pos then e' else e
    | _ => e) ((alookup pos s.inflight).getD Inflight.free)

/-- RUNNING or RESUMING (R114). -/
def Inflight.isOpen (e : Inflight) : Bool := e.state == 1 || e.state == 4

/-- Order of stamps (R5). -/
def stampLt (a b : Stamp) : Bool := decide (a.boot < b.boot) || (a.boot == b.boot && decide (a.stroke < b.stroke))

/-- The position a new operation takes: a FREE entry, else the closed entry with the oldest LAST_PHASE, else none
(R114).
DEDUCED, log entry 18, unsafe. -/
def State.inflightSlot (s : State) : Option Nat :=
  match (List.range 16).find? (fun p => (s.inflightAt p).state == 0) with
  | some p => some p
  | none =>
    (List.range 16).foldl (fun (best : Option Nat) p =>
      let e := s.inflightAt p
      if e.isOpen then best
      else match best with
        | none => some p
        | some q => if stampLt e.last (s.inflightAt q).last then some p else best) none

/-- A new RUNNING entry, opened at this stroke's Commit (R112). -/
def State.newEntry (s : State) (op phases inst phase : Nat) (r : Requester) : Inflight :=
  ⟨op, 1, phase, phases, inst % 2 ^ 16, r.cls, r.idx, s.stamp, s.stamp, 0, 1, r.tag⟩

/-- Firmware as requester (R100). -/
def firmware : Requester := ⟨4, 0, .none, 0⟩

/-- The open entry of an operation type, by position. -/
def State.openEntry (s : State) (op : Nat) : Option (Nat × Inflight) :=
  ((List.range 16).map fun p => (p, s.inflightAt p)).find? fun e => e.2.op == op && e.2.isOpen

/-- An entry moved to a phase (R112). -/
def State.phased (s : State) (e : Inflight) (phase : Nat) : Inflight :=
  { e with phase := phase, last := s.stamp, state := 1 }

/-- An entry closed in a state with a result (R112). -/
def State.closed (s : State) (e : Inflight) (state result : Nat) : Inflight :=
  { e with state := state, result := result, last := s.stamp }

/-- An entry's 32 bytes as the Ledger reads them (R112). -/
def Inflight.bytes (e : Inflight) : Bytes :=
  [BitVec.ofNat 8 e.op, BitVec.ofNat 8 e.state, BitVec.ofNat 8 e.phase, BitVec.ofNat 8 e.phases] ++
  beBytes 2 e.inst ++ beBytes 1 e.cls ++ beBytes 1 e.req ++ stampBytes e.started ++ stampBytes e.last ++
  beBytes 1 e.resetSeen ++ beBytes 1 e.result ++ beBytes 2 e.tag

/-! ## Status codes (R15) -/

/-- The status codes of R15. -/
def stOK : Nat := 0x00
def stPENDING : Nat := 0x01
def stDENIED : Nat := 0x02
def stCLAMPED : Nat := 0x03
def stBUSY : Nat := 0x04
def stKEY_STALE : Nat := 0x05
def stKEY_REVOKED : Nat := 0x06
def stFAULT_PARITY : Nat := 0x07
def stINKWELL_LOW_HOLD : Nat := 0x08
def stCOUNTER_STUCK : Nat := 0x09
def stNEEDS_COUNTERSIGN : Nat := 0x0A
def stNOT_IN_BIVOUAC : Nat := 0x0B
def stOVERRUN : Nat := 0x0C
def stFEEDLINE_LOST : Nat := 0x0D
def stQUARANTINED : Nat := 0x0E
def stNO_SUCH_OBJECT : Nat := 0x0F

/-- Refusal codes in the order of R17. -/
def refusalOrder : List Nat :=
  [stNO_SUCH_OBJECT, stNOT_IN_BIVOUAC, stQUARANTINED, stDENIED, stNEEDS_COUNTERSIGN, stBUSY, stINKWELL_LOW_HOLD,
    stCOUNTER_STUCK, stKEY_STALE, stKEY_REVOKED, stFAULT_PARITY, stFEEDLINE_LOST, stOVERRUN]

/-- The first of several reasons in the order of R17, OK where there is none. -/
def firstRefusal (codes : List Nat) : Nat := (refusalOrder.find? (codes.contains ·)).getD stOK

/-- Codes that refuse (R17). -/
def isRefusal (c : Nat) : Bool := refusalOrder.contains c

/-! ## Folio records (R446, R448) -/

/-- An ITEM record. -/
def State.recItem (s : State) (stream : Nat) (i : Item) : NewRec :=
  ⟨stream, 0x10, s.stamp, 0x80, leBytes 4 i.key ++ beBytes 1 i.val.length ++ i.val⟩

/-- An OBJECT record. -/
def State.recObj (s : State) (stream key cls req : Nat) (v : Bytes) : NewRec :=
  ⟨stream, 0x11, s.stamp, 0x80,
    leBytes 2 (key / 256) ++ beBytes 1 (key % 256) ++ beBytes 1 cls ++ beBytes 1 req ++ beBytes 1 v.length ++ v⟩

/-- A BREAK record. -/
def State.recBreak (s : State) (cause first last : Nat) : NewRec :=
  ⟨2, 0x12, s.stamp, 0x80, beBytes 1 cause ++ leBytes 6 first ++ leBytes 6 last⟩

/-- A LATCH record: GUY_LATCH after the change, cause of R89. -/
def State.recLatch (s : State) (latch cause : Nat) : NewRec :=
  ⟨0, 0x14, s.stamp, 0x80, beBytes 1 latch ++ beBytes 1 cause⟩

/-- A FULL record. -/
def State.recFull (s : State) (stream kind : Nat) : NewRec :=
  ⟨12, 0x16, s.stamp, 0x80, beBytes 1 stream ++ beBytes 1 kind⟩

/-- A VOID record. -/
def State.recVoid (s : State) (boot group : Nat) : NewRec :=
  ⟨3, 0x17, s.stamp, 0x80, leBytes 4 boot ++ leBytes 4 group⟩

/-! ## The Guy latch (R88) -/

/-- Majority of the three copies. -/
def Tri.maj (t : Tri) : Bool := (t.a && t.b) || (t.a && t.c) || (t.b && t.c)

/-- RELEASED and FEED_EN as read. -/
def State.released (s : State) : Bool := s.guy.released.maj
def State.feedEn (s : State) : Bool := s.guy.feedEn.maj

/-- 0x1200.0B GUY_LATCH (R88). -/
def State.guyByte (s : State) : Nat := 4 * b2n s.guy.gateOpen + 2 * b2n s.released + b2n s.feedEn

/-- START_A and START_B_N as the latch drives them (R66, R88). -/
def State.startA (s : State) : Bool := s.released
def State.startBN (s : State) : Bool := !s.released

/-! ## Domains (R73, R74) -/

/-- Domain `n` is on and ready. -/
def State.domReady (s : State) (n : Nat) : Bool :=
  s.sys.domains.testBit n && !(s.sys.rising.any (·.1 == n))

/-- Domain `n` is powered. -/
def State.domOn (s : State) (n : Nat) : Bool := s.sys.domains.testBit n

/-- Strokes in a number of milliseconds at the active stroke length, rounded up (R28). -/
def State.msStrokes (s : State) (ms : Nat) : Nat :=
  match s.sys.len with
  | 0 => 2 * ms
  | 1 => ms
  | _ => (ms + 1) / 2

/-- Microseconds in a stroke (R28). -/
def State.strokeUs (s : State) : Nat :=
  match s.sys.len with
  | 0 => 500
  | 1 => 1000
  | _ => 2000

/-- The stroke number after one more boundary, sticking at 2^48 - 1 (R30). -/
def nextStroke (n : Nat) : Nat := min (n + 1) (2 ^ 48 - 1)

/-- The device is in Bivouac mode (R478). -/
def State.bivouac (s : State) : Bool := s.img.mode == 1

/-- Codes of kind S (R485). -/
def stateFaults : List Nat :=
  [0x01, 0x07, 0x08, 0x09, 0x0A, 0x0C, 0x13, 0x14, 0x18, 0x19, 0x1B, 0x1C, 0x1D, 0x20, 0x21, 0x23, 0x24, 0x26, 0x29,
    0x2B, 0x2C, 0x2E, 0x2F, 0x30, 0x32]

/-- FAULT_LATEST (R484). -/
def State.faultBytes (s : State) (code detail : Nat) : Bytes :=
  stampBytes s.stamp ++ beBytes 1 code ++ beBytes 4 detail ++ [0]

/-- A fault recorded: counts, FAULT_LATEST, and for kind S its bit of FAULT_ACTIVE (R483). -/
def State.recordFault (s : State) (code detail : Nat) : State :=
  let s := (s.countUp (181 + code) 1).countUp 232 1
  let s := s.setRaw 0x700002 (s.faultBytes code detail)
  if stateFaults.contains code then { s with faultActive := setBit s.faultActive code true } else s

/-- The pages of an owner: 0 the global page, n + 1 tenant n (R133). -/
def State.page (s : State) (p : Nat) : PageRegs :=
  (alookup p s.host.pages).getD ⟨0, 0, 0, 0, 0, 0, 0, [], 0, []⟩

/-- A page's registers replaced. -/
def State.setPage (s : State) (p : Nat) (r : PageRegs) : State :=
  { s with host := { s.host with pages := ainsert p r s.host.pages } }

/-- A bit of IRQ_CAUSE set on a page (R148). -/
def State.irq (s : State) (p bit : Nat) : State :=
  let r := s.page p
  s.setPage p { r with irqCause := setBit r.irqCause bit true }

/-- The ring of a page and local number (R139). -/
def State.ring (s : State) (p n : Nat) : Ring :=
  (s.host.rings.find? fun r => r.page == p && r.num == n).getD ⟨p, n, 0x30, 0, 0, false, false, false, 0, 0, [], 0⟩

/-- Order of ring contexts: page, then local number. -/
def Ring.ord (r : Ring) : Nat := r.page * 128 + r.num

/-- A ring inserted in order. -/
def putRing (r : Ring) : List Ring → List Ring
  | [] => [r]
  | q :: l => if r.ord < q.ord then r :: q :: l else if r.ord = q.ord then r :: l else q :: putRing r l

/-- A ring context replaced. -/
def State.setRing (s : State) (r : Ring) : State := { s with host := { s.host with rings := putRing r s.host.rings } }

/-- A key slot (R189). -/
def State.keySlot (s : State) (n : Nat) : KeySlot := (alookup n s.quill.slots).getD ⟨[], 0, 0, 0, 0⟩

/-- A key slot replaced. -/
def State.setKeySlot (s : State) (n : Nat) (k : KeySlot) : State :=
  { s with quill := { s.quill with slots := ainsert n k s.quill.slots } }

/-- Bytes taken by a unit from the stroke's entropy block, in unit order and byte order (R38); none where fewer
remain than it needs.
DESIGN CHOICE, log entry 6, safe. -/
def State.takeEntropy (s : State) (n : Nat) : Option (Bytes × State) :=
  if s.sys.entropyTaken + n ≤ 128 then
    some ((List.range n).map fun i =>
        if s.quill.drbgOk then Config.entropyByte (s.sys.entropyBase + s.sys.entropyTaken + i) else 0,
      { s with sys := { s.sys with entropyTaken := s.sys.entropyTaken + n } })
  else none

/-! ## Operations of a transaction (R107, R111) -/

/-- What one written entry, or one operation it starts, answers: its status, the effects, records, cell words and pairs
it stages, what applies instead if the VHOLD check refuses the pages, and how it meets the group. -/
structure OpResult where
  status : Nat
  effs : List Effect
  recs : List NewRec
  cells : List CellWrite
  pairs : List PairWrite
  deriving DecidableEq, Repr

/-- An entry refused with a status code. -/
def OpResult.refuse (status : Nat) : OpResult := ⟨status, [], [], [], []⟩

/-- An entry that stages effects. -/
def OpResult.ok (effs : List Effect) : OpResult := ⟨stOK, effs, [], [], []⟩

/-- An operation start: PENDING with its effects (R111). -/
def OpResult.start (effs : List Effect) : OpResult := ⟨stPENDING, effs, [], [], []⟩

/-! ## Events and free values -/

/-- An item deposited whose gathering records it in a stream and, where `code` is not 0, records that fault with DETAIL
(R483). -/
def State.offerEvent (s : State) (cls idx : Nat) (val : Bytes) (stream code detail : Nat) : State :=
  s.offer cls idx val [1, stream, code, detail]

/-- The next free value of log entry 8, and the state that has drawn it. -/
def State.freeNat (s : State) : Nat × State :=
  (Config.openValue s.sys.free, { s with sys := { s.sys with free := s.sys.free + 1 } })

/-- A quotient whose rounding the spec leaves open: one of the two nearest integers (log entry 8). -/
def State.divOpen (s : State) (a : Int) (b : Nat) : Int × State :=
  if a % b = 0 then (a / b, s)
  else
    let f := s.freeNat
    (a / b + ((f.1 % 2 : Nat) : Int), f.2)

/-- Strokes in a number of seconds. -/
def State.secStrokes (s : State) (sec : Nat) : Nat := s.msStrokes (1000 * sec)

/-- The master's record of a slave (R442). -/
def State.slaveRec (s : State) (n : Nat) : SlaveRec :=
  (alookup n s.pole.slaves).getD ⟨0, 0, zeros 44, [], none, 0, [], false, none, none, false⟩

/-- A slave that is ACTIVE, so that its antennas and anchors are the master's (R432, R437). -/
def State.slaveUp (s : State) (casc : Nat) : Bool := (s.slaveRec casc).state == 2

/-- Whether this device is a slave by its straps (R430). -/
def State.isSlave (s : State) : Bool := s.sys.cascId != 0

/-- A unit that cannot run in this stroke: its item runs again first in the next one, an overrun is counted (R38,
R41). -/
def State.cancelItem (s : State) (i : Item) : State :=
  let s := (s.countUp 0 1).setRaw 0x11000A (stampBytes s.stamp)
  { s with cancelled := s.cancelled ++ [i] }

end Sys2Proof.Machine
end

