-- ==== Sys2Proof/Machine/Folio.lean ====
section
/-!
DEFINITION. Folio.lean: the sixteen streams (R443-R463): areas, pages, placing of records in a commit group, full streams,
reclaiming, the void list, selection and building of export blocks, and acknowledgement.
-/

namespace Sys2Proof.Machine

/-! ## Streams and pages (R443-R447) -/

/-- Pages of a stream's area (R444). -/
def State.streamPages (s : State) (n : Nat) : Nat := s.num (0x440101 + n)

/-- Whether a stream stops when full: streams 0 and 1 always, the others by FOLIO_POLICY (R444). -/
def State.streamStops (s : State) (n : Nat) : Bool := n < 2 || s.num (0x440201 + n) == 1

/-- First Inkwell page of a stream's area, given the sizes of all areas (R444). -/
def areaBase (sizes : List Nat) (n : Nat) : Nat := 1104 + (sizes.take n).sum

/-- The sizes of all areas. -/
def State.areas (s : State) : List Nat := (List.range 16).map s.streamPages

/-- A stream. -/
def State.stream (s : State) (n : Nat) : Stream := (alookup n s.folio.streams).getD ⟨[], 0, 0, false, [], none⟩

/-- A stream replaced. -/
def State.setStream (s : State) (n : Nat) (t : Stream) : State :=
  { s with folio := { s.folio with streams := ainsert n t s.folio.streams } }

/-- Units of 16 bytes a body of `n` bytes needs with its header (R446). -/
def recUnits (n : Nat) : Nat := 2 + (n + 15) / 16

/-- Units used on a page. -/
def FPage.units (p : FPage) : Nat := (p.recs.map fun r => recUnits r.body.length).sum

/-- A page none of whose records lies beyond the acknowledged point (R454, R460). -/
def FPage.isFree (p : FPage) (acked : Nat) : Bool := p.recs.all fun r => decide (r.seq ≤ acked)

/-- The bytes of a record (R446): header with CRC, body padded with zeros to whole units. -/
def FRec.bytes (stream : Nat) (r : FRec) : Bytes :=
  let units := recUnits r.body.length
  let body := padTo (16 * (units - 2)) r.body
  let head := leBytes 8 r.seq ++ stampLe r.stamp ++ leBytes 4 r.group ++ beBytes 1 (stream % 16) ++ beBytes 1 r.type ++
    beBytes 1 units ++ beBytes 1 r.part ++ zeros 2
  head ++ leBytes 4 (crc32 (head ++ body)) ++ body

/-- A record stands unless its group of its boot is on the void list (R447). -/
def State.recValid (s : State) (r : FRec) : Bool := !(s.folio.voids.contains (r.stamp.boot, r.group))

/-- The valid records of a stream in SEQ order. -/
def State.validRecs (s : State) (n : Nat) : List FRec := ((s.stream n).pages.flatMap (·.recs)).filter s.recValid

/-- FOLIO_SEQUENCE has stuck: every stream behaves as full and stopped (R456). -/
def State.folioStuck (s : State) : Bool := decide (2 ^ 64 - 1 ≤ s.folio.lastSeq)

/-! ## Placing records in a group (R445, R449, R453-R455) -/

/-- A commit group being formed: the state with the pages written so far, the pages by Inkwell page number in write
order, the pages the group may still write, and streams that became full. -/
structure Build where
  s : State
  num : Nat
  written : List Nat
  budget : Nat
  full : List Nat
  dropped : Nat

/-- What the page of a stream held before this group's first write to it, kept for a tear (R161). -/
def Build.keepF (b : Build) (stream page : Nat) (old : Option FPage) : Build :=
  match b.s.ink.openGroup with
  | some g => { b with s := { b.s with ink := { b.s.ink with openGroup := some { g with undoF := g.undoF ++ [(stream, page, old)] } } } }
  | none => b

/-- A record dropped by a full stop stream and counted (R454, R455).
DEDUCED, log entry 148, unsafe. -/
def Build.drop (b : Build) (n : Nat) : Build :=
  let st := b.s.stream n
  { b with
    s := (b.s.setStream n { st with full := true }).countUp (149 + n) 1
    full := if st.full then b.full else b.full ++ [n]
    dropped := b.dropped + 1 }

/-- One record placed in its stream: on the open page where it fits, else on the next page of the area, which is
unused, free, or reclaimed (R445, R453). A decision's further parts and its REASON record name the SEQ of part 0 (R448,
R450). None where the group has no page left for it. -/
def Build.place (b : Build) (r : NewRec) : Option Build :=
  let n := r.stream
  let st := b.s.stream n
  let base := areaBase b.s.areas n
  let seq := b.s.folio.lastSeq + 1
  let body := if r.type = 0x21 ∨ (r.type = 0x13 ∧ r.body.take 8 = List.replicate 8 0xFF) then leBytes 8 b.s.folio.lastDec ++ r.body.drop 8 else r.body
  let dec := if r.type = 0x20 then seq else b.s.folio.lastDec
  let fr : FRec := ⟨seq, r.stamp, b.num, r.type, r.part, body⟩
  let room (p : Nat) := b.written.contains (base + p) || decide (b.written.length < b.budget)
  let put (b : Build) (p : Nat) (old : Option FPage) (new : FPage) (rest : List FPage) : Build :=
    let first := !(b.written.contains (base + p))
    let b := if first then { b.keepF n p old with written := b.written ++ [base + p] } else b
    let s := b.s.setStream n { b.s.stream n with pages := rest ++ [new] }
    { b with s := { s with folio := { s.folio with lastSeq := seq, lastDec := dec } } }
  if b.s.folioStuck then some (b.drop n)
  else
    match st.pages.getLast? with
    | none =>
      if room 0 then some (put b 0 none ⟨0, 1, b.num, .complete, [fr]⟩ []) else none
    | some pg =>
      let bump (p : FPage) := if b.written.contains (base + p.page) then p.pageSeq else (p.pageSeq + 1) % 2 ^ 32
      if pg.units + recUnits r.body.length ≤ 15 then
        if room pg.page then
          some (put b pg.page (some pg) { pg with pageSeq := bump pg, group := b.num, mark := .complete, recs := pg.recs ++ [fr] }
            st.pages.dropLast)
        else none
      else
        let size := b.s.streamPages n
        if st.pages.length < size then
          let p := (pg.page + 1) % size
          if room p then some (put b p none ⟨p, 1, b.num, .complete, [fr]⟩ st.pages) else none
        else
          match st.pages with
          | [] => none
          | q :: rest =>
            let new : FPage := { q with pageSeq := bump q, group := b.num, mark := .complete, recs := [fr] }
            if q.isFree st.acked then
              if room q.page then some (put b q.page (some q) new rest) else none
            else if b.s.streamStops n then some (b.drop n)
            else if room q.page then
              some (put { b with s := b.s.countUp (165 + n) q.recs.length } q.page (some q) new rest)
            else none

/-- Records placed in order; those the group cannot take, with all that follow them in their stream, are given back.
DEDUCED, log entry 64, unsafe. -/
def Build.placeAll (b : Build) (rs : List NewRec) : Build × List NewRec :=
  rs.foldl (fun acc r =>
    if acc.2.any (·.stream == r.stream) then (acc.1, acc.2 ++ [r])
    else match acc.1.place r with
      | some b' => (b', acc.2)
      | none => (acc.1, acc.2 ++ [r])) (b, [])

/-- Records placed all together, with none dropped, or not at all (R452). -/
def Build.placeWhole (b : Build) (rs : List NewRec) : Option Build :=
  rs.foldl (fun acc r => match acc with
    | none => none
    | some b' => match b'.place r with
      | some b2 => if b2.dropped = b.dropped then some b2 else none
      | none => none) (some b)

/-! ## The hold queue (R168) -/

/-- Records of the security streams. -/
def NewRec.isSecurity (r : NewRec) : Bool := decide (r.stream < 2)

/-- Pages that held records fill, 15 units to a page (R165, R168, R445).
DEDUCED, log entry 58, unsafe. -/
def holdPages (h : List NewRec) : Nat := ((h.map fun r => recUnits r.body.length).sum + 14) / 15

/-- The hold queue of 128 page-equivalents has none left (R168). -/
def holdFull (h : List NewRec) : Bool := decide (128 ≤ holdPages h)

/-- A full queue without its oldest non-security records, until a page-equivalent is free or none of them is left. -/
def displaceHeld : Nat → List NewRec → List NewRec
  | 0, h => h
  | fuel + 1, h =>
    if holdFull h then
      match h.findIdx? (fun q => !q.isSecurity) with
      | some i => displaceHeld fuel (h.eraseIdx i)
      | none => h
    else h

/-- A refused record entering the hold queue: a new non-security record is dropped and counted while it is full, a new security
record displaces the oldest non-security record (R168).
DEDUCED, log entry 58, unsafe. -/
def State.holdRec (s : State) (r : NewRec) : State :=
  let h := s.folio.hold
  if r.isSecurity then
    let d := displaceHeld h.length h
    if holdFull d then s else { s with folio := { s.folio with hold := d ++ [r] } }
  else if holdFull h then s.countUp 13 1
  else { s with folio := { s.folio with hold := h ++ [r] } }

/-- The queue holds security records only and is full: what needs a security record is answered BUSY (R168).
DEDUCED, log entry 58, unsafe. -/
def State.holdBlocks (s : State) : Bool := holdFull s.folio.hold && s.folio.hold.all (·.isSecurity)

/-- A stop stream 0 or 1 that has no free page for a record of `n` body bytes (R23, R454). -/
def State.streamBlocked (s : State) (stream n : Nat) : Bool :=
  let st := s.stream stream
  s.folioStuck || match st.pages with
  | [] => false
  | q :: _ =>
    decide (s.streamPages stream ≤ st.pages.length) && !q.isFree st.acked &&
      (match st.pages.getLast? with
      | some pg => decide (15 < pg.units + recUnits n)
      | none => false)

/-! ## Full events (R455) -/

/-- What a stream that becomes full (kind 1) or takes records again (kind 2) brings: FOLIO_FULL_EVENT published on the
global page, CAN FD and Ridgeline. -/
def fullEffects (stream kind : Nat) : List Effect :=
  [.obj 0x440006 (beBytes 1 stream ++ beBytes 1 kind ++ zeros 6), .event [0x440006] 7]

/-- FOLIO_FULL_STATE (R455). -/
def State.folioFull (s : State) : Nat :=
  if s.folioStuck then 0xFFFF
  else (List.range 16).foldl (fun v n => setBit v n (s.stream n).full) 0

/-! ## The void list (R447) -/

/-- A voided group entered in FOLIO_VOID_LIST, which holds 32 entries and is circular. -/
def State.addVoid (s : State) (boot group : Nat) : State :=
  let l := s.folio.voids ++ [(boot, group)]
  { s with folio := { s.folio with voids := l.drop (l.length - 32) } }

/-- FOLIO_VOID_LIST as read: 32 entries of 8 bytes, oldest first. -/
def State.voidBytes (s : State) : Bytes :=
  padTo 256 (s.folio.voids.flatMap fun v => beBytes 4 v.1 ++ beBytes 4 v.2)

/-! ## Export (R457-R459) -/

/-- The records of a stream beyond its export cursor that a block takes: whole, in SEQ order, up to 1,024 bytes. -/
def State.exportRecs (s : State) (n : Nat) : List FRec :=
  let st := s.stream n
  ((s.validRecs n).filter fun r => decide (st.cursor < r.seq)).foldl (fun (acc : List FRec × Bool) r =>
    if acc.2 then acc
    else if ((acc.1.map fun q => 16 * recUnits q.body.length).sum + 16 * recUnits r.body.length) ≤ 1024 then (acc.1 ++ [r], false)
    else (acc.1, true)) ([], false) |>.1

/-- The 52-byte header of an export block (R458). -/
def exportHeader (e : Export) : Bytes :=
  [0x46, 0x4F, 0x4C, 0x31] ++ beBytes 16 Config.uniqueId.toNat ++ beBytes 1 e.stream ++ [0] ++ beBytes 2 e.plain.length ++
    beBytes 8 e.first ++ beBytes 8 e.last ++ stampBytes e.lastStamp ++ zeros 2

/-- The IV of the seal: FIRST_SEQ and the low 32 bits of LAST_SEQ (R458). -/
def exportIv (e : Export) : Bytes := beBytes 8 e.first ++ beBytes 4 e.last

/-- The acknowledged point moved, pages freed, a full stream resumed (R455, R460). Answers whether it resumed. -/
def State.ackStream (s : State) (n last : Nat) : State × Bool :=
  let st := s.stream n
  let acked := max st.acked last
  let resumed := st.full && !s.folioStuck &&
    (decide (st.pages.length < s.streamPages n) || (st.pages.head?.elim false fun q => q.isFree acked))
  (s.setStream n { st with acked := acked, full := st.full && !resumed, ackDue := none }, resumed)

/-- Streams whose first page or size changes are emptied and their records counted as overwritten (R444). -/
def State.emptyMoved (s : State) (old : List Nat) : State :=
  (List.range 16).foldl (fun s n =>
    if old.getD n 0 = s.streamPages n ∧ areaBase old n = areaBase s.areas n then s
    else
      let st := s.stream n
      let k := (st.pages.map (·.recs.length)).sum
      (s.setStream n { st with pages := [], full := false }).countUp (165 + n) k) s

end Sys2Proof.Machine
end

