-- ==== Sys2Proof/Machine/Inkwell.lean ====
section
/-!
DEFINITION. Inkwell.lean: journalled pages and pairs, the commit group and its journal, settling at boot, persistence and
restoring of the Ledger, the shadow-counter save, the power-loss marker and the scrub (R154-R182, R43-R45).
-/

namespace Sys2Proof.Machine

/-! ## What is persisted (R103) -/

/-- The number of the pair that holds the in-flight and clamp entries. -/
def inflightPair : Nat := pairOf 0x720010

/-- An in-flight entry from its 32 bytes (R112). -/
def Inflight.ofBytes (b : Bytes) : Inflight :=
  let st (i : Nat) : Stamp := ⟨beNat (slice b i 4), beNat (slice b (i + 4) 6)⟩
  ⟨byteAt b 0, byteAt b 1, byteAt b 2, byteAt b 3, beNat (slice b 4 2), byteAt b 6, byteAt b 7, st 8, st 18, byteAt b 28,
    byteAt b 29, beNat (slice b 30 2)⟩

/-- An entry of a pair's payload: key, length, value (log entry 9). -/
def pairEntry (key : Nat) (v : Bytes) : Bytes := beBytes 3 key ++ beBytes 2 v.length ++ v

/-- The payload of Ledger pair `q`: the persisted objects of the pair that differ from their defaults, the in-flight
entries, the void list (log entry 9). -/
def State.pairPayload (s : State) (q : Nat) : Bytes :=
  ((s.objs.filter fun o => isPersisted o.1 && pairOf o.1 == q).flatMap fun o => pairEntry o.1 o.2) ++
    (if q = inflightPair then
      (s.inflight.filter fun e => e.2.state != 0).flatMap fun e => pairEntry (0x720010 + e.1) e.2.bytes
    else []) ++
    (if q = pairOf 0x440003 ∧ s.folio.voids ≠ [] then pairEntry 0x440003 s.voidBytes else [])

/-- The entries of a payload, at most `fuel` of them. -/
def pairEntries : Nat → Bytes → List (Nat × Bytes)
  | 0, _ => []
  | fuel + 1, b =>
    if b.length < 5 then []
    else
      let n := beNat (slice b 3 2)
      (beNat (slice b 0 3), slice b 5 n) :: pairEntries fuel (b.drop (5 + n))

/-- The pair an effect writes, none where it writes no persisted object. -/
def Effect.pair : Effect → Option Nat
  | .obj k _ => if isPersisted k then some (pairOf k) else none
  | .inflight _ _ => some inflightPair
  | .clamp _ => some (pairOf 0x730010)
  | _ => none

/-- The position a clamp entry takes: the one after CLAMP_NEWEST, position 0 first (R105). -/
def State.clampSlot (s : State) : Nat :=
  let n := s.num 0x730003
  if s.raw (0x730010 + n) = zeros 32 then n else (n + 1) % 32

/-- A value as the clamp report shows it: numbers right-aligned and extended, byte strings by their first 8 bytes
(R105). -/
def clampField (key : Nat) (v : Bytes) : Bytes :=
  match (objDef key).map ObjDef.ty with
  | some (.oct _) => padTo 8 v
  | some (.i _) => beInt 8 (intOf v)
  | some .stamp => padTo 8 v
  | _ => beBytes 8 (beNat v)

/-- A clamp report entry (R105). -/
def Clamp.bytes (c : Clamp) (t : Stamp) : Bytes :=
  stampBytes t ++ beBytes 3 c.key ++ beBytes 1 c.cls ++ beBytes 1 c.req ++ beBytes 1 c.len ++ clampField c.key c.offered ++
    clampField c.key c.applied

/-- The part of an effect that the Ledger store and the in-flight ledger hold.
DESIGN CHOICE, log entry 43, unsafe. -/
def State.applyStore (s : State) : Effect → State
  | .obj k v => s.setRaw k v
  | .inflight p e => { s with inflight := if e.state = 0 then aerase p s.inflight else ainsert p e s.inflight }
  | .clamp c =>
    let p := s.clampSlot
    (s.setRaw (0x730010 + p) (c.bytes s.stamp)).setNum 0x730003 p
  | _ => s

/-! ## Pairs (R163) -/

/-- Serial-number order of 32-bit group numbers: `a` is newer than `b`. -/
def newer (a b : Nat) : Bool := a % 2 ^ 32 != b % 2 ^ 32 && decide ((a + 2 ^ 32 - b % 2 ^ 32) % 2 ^ 32 < 2 ^ 31)

/-- The page, where it is complete. -/
def Inkwell.complete (ink : Inkwell) (p : Nat) : Option JPage :=
  match alookup p ink.pages with
  | some j => if j.mark = .complete then some j else none
  | none => none

/-- The page of the current copy of the pair whose copy A is page `a` (R163). -/
def Inkwell.current (ink : Inkwell) (a : Nat) : Option Nat :=
  match ink.complete a, ink.complete (a + 1) with
  | none, none => none
  | some _, none => some a
  | none, some _ => some (a + 1)
  | some x, some y => if newer y.group x.group then some (a + 1) else some a

/-- The page an update of the pair writes: the copy that is not current, copy A where neither is (R163). -/
def Inkwell.target (ink : Inkwell) (a : Nat) : Nat :=
  match ink.current a with
  | none => a
  | some p => if p = a then a + 1 else a

/-- The payload of a pair's current copy, none where it holds an uncorrectable word, no copy is complete or the pair was never
written.
DEDUCED, log entry 60, unsafe. -/
def Inkwell.payload (ink : Inkwell) (a : Nat) : Option Bytes :=
  (ink.current a).bind fun p =>
    if ink.badWords.any (fun w => w / 32 == p) then none else (alookup p ink.pages).map (·.payload)

/-- Copy A's page of pair `q` of a region: 0 token and key, 1 regulatory, 2 Ledger persistence (R155). -/
def pairPage (region q : Nat) : Nat := (match region with | 0 => 768 | 1 => 896 | _ => 912) + 2 * q

/-- A journalled page written by a group (R162). -/
def Inkwell.writePage (ink : Inkwell) (p : Nat) (payload : Bytes) (group : Nat) : Inkwell :=
  let old := alookup p ink.pages
  { ink with
    pages := ainsert p ⟨((old.elim 0 (·.pageSeq)) + 1) % 2 ^ 32, group % 2 ^ 32, payload, .complete⟩ ink.pages
    badWords := ink.badWords.filter fun w => w / 32 != p
    openGroup := ink.openGroup.map fun g =>
      if g.undoJ.any (·.1 == p) then g else { g with undoJ := g.undoJ ++ [(p, old)] } }

/-! ## The journal (R166) -/

/-- Word address of the commit tag of a group; its boundary word is the next. -/
def tagAddr (g : Nat) : Nat := 1102 * 32 + 2 * (g % 32)

/-- A journal word. -/
def Inkwell.word (ink : Inkwell) (a : Nat) : Nat := (alookup a ink.cells).getD 0

/-- The commit tag. -/
def tagWord (g : Nat) (latch released feedEn : Bool) (pages crc : Nat) : Nat :=
  g % 2 ^ 32 * 2 ^ 32 + 3 * 2 ^ 30 + b2n latch * 2 ^ 29 + b2n released * 2 ^ 28 + b2n feedEn * 2 ^ 27 + pages * 2 ^ 16 + crc

/-- The boundary word (`kind` 1) or void word (`kind` 2). -/
def boundWord (g kind stroke : Nat) : Nat := g % 2 ^ 32 * 2 ^ 32 + kind * 2 ^ 30 + stroke % 2 ^ 30

/-- The header word of the page with an Inkwell page number (R162). -/
def State.header (s : State) (p : Nat) : Nat :=
  if p < 1104 then (alookup p s.ink.pages).elim 0 fun j => j.pageSeq * 2 ^ 32 + j.group
  else
    (List.range 16).foldl (fun h n =>
      let b := areaBase s.areas n
      ((s.stream n).pages.find? fun q => decide (b + q.page = p)).elim h fun q => q.pageSeq * 2 ^ 32 + q.group) 0

/-! ## The latch a group stages (R26, R88) -/

/-- RELEASED and FEED_EN after the latch operations of a stroke; a clear has precedence over a release step (R26, R40),
and RELEASED without FEED_EN changes nothing. -/
def latchAfter (released feedEn : Bool) (ops : List LatchOp) : Bool × Bool :=
  if ops.contains .clear then (false, false)
  else
    let f := feedEn || ops.contains .setFeedEn
    let r := released || ops.contains .setReleased
    if r && !f then (released, feedEn) else (r, f)

/-- The latch operations among effects. -/
def latchOps (effs : List Effect) : List LatchOp :=
  effs.filterMap fun e => match e with
    | .latch op => some op
    | _ => none

/-! ## Forming the commit group (R43, R165-R168) -/

/-- Ledger pairs a unit writes. -/
def Staged.ledgerPairs (u : Staged) : List Nat := (u.effs.filterMap Effect.pair).dedup

/-- The image pages an effect writes in the slot not running (R464, R474). -/
def State.slotWrites (s : State) : Effect → List Nat
  | .slotPages n d => (List.range d.length).map fun i => (if s.img.bootB then 0 else 384) + n + i
  | .slotSeal _ => [(if s.img.bootB then 0 else 384) + 383]
  | _ => []

/-- Inkwell pages a unit's pairs write, and its image pages. -/
def State.unitPages (s : State) (u : Staged) : List Nat :=
  (u.effs.flatMap s.slotWrites) ++
  (u.pairs.map fun w => s.ink.target (pairPage w.region w.pair)) ++ (u.ledgerPairs.map fun q => s.ink.target (pairPage 2 q))

/-- A unit that the VHOLD check refuses (R109, R168, R302). -/
def Staged.refuse (u : Staged) : Staged :=
  match u.need with
  | .plain => u
  | .txn => if u.ledgerPairs = [] ∧ u.pairs = [] then u
    else { u with effs := u.held, recs := u.altRecs, cells := u.altCells, pairs := [], need := .plain }
  | .grant => { u with effs := u.held, recs := u.altRecs, cells := u.altCells, pairs := [], need := .plain }
  | .phase => { u with effs := u.held, recs := u.altRecs, cells := [], pairs := [], need := .plain }

/-- A grant whose records cannot be placed (R23, R452). -/
def Staged.withhold (u : Staged) : Staged :=
  { u with effs := u.busy, recs := u.altRecs, cells := u.altCells, pairs := [], need := .plain }

/-- Pages reserved for a unit's pairs, none where the group cannot take them. -/
def Build.reserve (b : Build) (pages : List Nat) : Option Build :=
  let new := (pages.filter fun p => !b.written.contains p).dedup
  if b.written.length + new.length ≤ b.budget then some { b with written := b.written ++ new } else none

/-- Which units stand in this group: a grant with its records placed or withheld, transactions and phases with their
pages or moved to a later Commit (R43, R109, R452). -/
def Build.decide (b : Build) (units : List Staged) : List Staged × List Staged :=
  let a := units.foldl (fun (acc : Build × List Staged) u =>
    let sec := u.recs.filter (·.isSecurity)
    match u.need with
    | .grant => match acc.1.placeWhole sec with
      | some b' => (b', acc.2 ++ [u])
      | none =>
        let w := u.withhold
        ((acc.1.placeAll (w.recs.filter (·.isSecurity))).1, acc.2 ++ [w])
    | _ => ((acc.1.placeAll sec).1, acc.2 ++ [u])) (b, [])
  let c := a.2.foldl (fun (acc : Build × List Staged × List Staged) u =>
    let pages := acc.1.s.unitPages u
    match u.need with
    | .plain | .grant =>
      let p := (acc.1.placeAll (u.recs.filter fun r => !r.isSecurity)).1
      ((p.reserve pages).getD p, acc.2.1 ++ [u], acc.2.2)
    | .txn | .phase =>
      match acc.1.reserve pages with
      | some p => ((p.placeAll (u.recs.filter fun r => !r.isSecurity)).1, acc.2.1 ++ [u], acc.2.2)
      | none => (acc.1, acc.2.1, acc.2.2 ++ [u])) (a.1, [], [])
  (c.2.1, c.2.2)

/-- Cell words that repair damaged Tally counters (R174). -/
def State.repairs (s : State) : List CellWrite :=
  if s.ink.badWords = [] then []
  else (List.range 24).filterMap fun c => if (tallyScan s.ink c).2 then some (.tally c (s.tally c)) else none

/-- The counter a cell write drives to its largest value, as DETAIL names it (R175, R177): Tally counters by number,
rolling counters as 64 + slot.
DEDUCED, log entry 149, unsafe. -/
def CellWrite.sticks : CellWrite → Option Nat
  | .tally c v => if 2 ^ 48 - 1 ≤ v then some c else none
  | .rolling slot _ v => if 2 ^ 32 - 1 ≤ v then some (64 + slot) else none
  | .retag _ _ _ _ => none

/-- An event record of a stream with no gathered item of its own: an ITEM record of supervisor class with the fault
code and DETAIL as its value.
DESIGN CHOICE, log entry 22, unsafe. -/
def State.recEvent (s : State) (stream code detail : Nat) : NewRec :=
  s.recItem stream ⟨1, 0, 0, beBytes 1 code ++ beBytes 4 detail, []⟩

/-- The requester class and index a unit's Gather key stands for (R36, R100). -/
def keyRequester (key : Nat) : Nat × Nat :=
  let cls := key / 2 ^ 24
  let idx := key / 2 ^ 16 % 256
  if cls = 0x0D then (if idx = 64 then (0, 64) else (1, idx))
  else if cls = 0x0C then (2, idx)
  else if cls = 0x0B then (3, idx)
  else (4, 0)

/-- Whom a staged unit answers, else the source its Gather key stands for. -/
def Staged.requester (u : Staged) : Nat × Nat :=
  (u.effs.findSome? fun e => match e with
    | .respond r _ _ _ => some (r.cls, r.idx)
    | _ => none).getD (keyRequester u.key)

/-- The values staged for an object by more than one unit of the stroke, each recorded in stream 2 (R40). -/
def State.rivalRecs (s : State) (units : List Staged) : List NewRec :=
  let w := units.flatMap fun u => u.effs.filterMap fun e => match e with
    | .obj k v => some (u, k, v)
    | _ => none
  (w.filter fun x => w.any fun y => x.2.1 == y.2.1 && (x.1.key != y.1.key || x.1.requester != y.1.requester)).map fun x =>
    s.recObj 2 x.2.1 x.1.requester.1 x.1.requester.2 x.2.2

/-- A Folio page written in place with its own payload by a refresh, unless the group writes it anyway or has no page left
(R170). -/
def Build.refreshFolio (b : Build) (p : Nat) : Build :=
  if b.written.contains p || Nat.ble b.budget b.written.length then b
  else
    match (List.range 16).findSome? fun n =>
        ((b.s.stream n).pages.find? fun q => (areaBase b.s.areas n + q.page == p)).map fun q => (n, q) with
    | none => b
    | some (n, q) =>
      let st := b.s.stream n
      let new : FPage := { q with pageSeq := (q.pageSeq + 1) % 2 ^ 32, group := b.num }
      let c := b.keepF n q.page (some q)
      { c with
        s := c.s.setStream n { st with pages := st.pages.map fun r => if r.page = q.page then new else r }
        written := c.written ++ [p] }

/-- The group of this stroke's Commit, written with VHOLD at `vhold` millivolts: cell words, then the pages the check
permits, then the commit tag (R43, R165-R168). What the boundary will apply is left staged.
DEDUCED, log entry 63, unsafe.
DEDUCED, log entry 148, unsafe.
DEDUCED, log entry 149, unsafe. -/
def State.formGroup (s0 : State) (vhold : Nat) : State :=
  let ok := decide (4500 ≤ vhold)
  let units0 := if ok then s0.staged else s0.staged.map Staged.refuse
  let latch := latchOps (units0.flatMap (·.effs))
  let num := (s0.ink.group + 1) % 2 ^ 32
  let rf := latchAfter s0.released s0.feedEn latch
  let ink0 := { s0.ink with
    openGroup := some ⟨num, s0.stamp, s0.ink.word (tagAddr num), s0.ink.word (tagAddr num + 1), [], [], latch ≠ [], rf.1, rf.2⟩ }
  let s := { s0 with ink := ink0 }
  let reps := s.repairs
  let cells0 := reps ++ units0.flatMap (·.cells)
  let start : Build := ⟨s, num, [], if ok then 8 - (cells0.length + 31) / 32 else 0, [], 0⟩
  -- carried records, then at most 4 pages of the hold queue
  let c := if ok then start.placeAll s.folio.carry else (start, s.folio.carry)
  let h := if ok then
      let lim := { c.1 with budget := min c.1.budget (c.1.written.length + 4) }
      let q := lim.placeAll s.folio.hold
      ({ q.1 with budget := start.budget }, q.2)
    else (c.1, s.folio.hold)
  let d := if ok then h.1.decide units0 else (units0, [])
  let kept := d.1
  let cells := reps ++ kept.flatMap (·.cells)
  let sticks := (cells.filterMap CellWrite.sticks).filter fun n => !(s.ink.stuck.contains n)
  let recs := kept.flatMap (·.recs)
  let other := (recs.filter fun r => !r.isSecurity) ++ s.rivalRecs kept ++ sticks.map (fun n => s.recEvent 5 0x14 n)
  let r0 := h.1.placeAll (recs.filter (·.stream == 0))
  let r1 := r0.1.placeAll (recs.filter (·.stream == 1))
  -- pages for the units' pairs are reserved as `decide` found them, then the other records
  let pages := kept.flatMap fun u => if u.need = .plain then [] else s.unitPages u
  let r2 := { r1.1 with written := r1.1.written ++ (pages.filter fun p => !r1.1.written.contains p).dedup }
  let plain := (kept.filter (·.need == .plain)).flatMap s.unitPages
  let r3 := r2.placeAll other
  let r4 := ((plain ++ (s.ink.dirty.filter (· < 1104)).map fun q => if q < 64 then s.ink.target (pairPage 2 q) else q).dedup).foldl
    (fun (b : Build) p => if b.written.contains p then b else if b.written.length < b.budget then { b with written := b.written ++ [p] } else b) r3.1
  let stuckNow := !s0.folioStuck && r4.s.folioStuck
  let fulls := r4.placeAll ((if stuckNow then [s.recEvent 5 0x14 128] else []) ++ r4.full.map fun n => s.recFull n 1)
  let fin := (s.ink.dirty.filter (1104 ≤ ·)).foldl Build.refreshFolio fulls.1
  -- contents of the pairs after this Commit
  let after := (kept.flatMap (·.effs)).foldl State.applyStore fin.s
  let ledger := ((kept.flatMap (·.ledgerPairs)) ++ s.ink.dirty.filter (· < 64)).dedup
  let ink1 := cells.foldl Inkwell.writeCell fin.s.ink
  let ink2 := ledger.foldl (fun (k : Inkwell) q =>
    let p := s.ink.target (pairPage 2 q)
    if fin.written.contains p then k.writePage p (after.pairPayload q) num else k) ink1
  let ink3 := (kept.flatMap (·.pairs)).foldl (fun (k : Inkwell) w =>
    let p := s.ink.target (pairPage w.region w.pair)
    if fin.written.contains p then k.writePage p w.payload num else k) ink2
  let refresh := s.ink.dirty.filter fun p => decide (64 ≤ p ∧ p < 1104) && fin.written.contains p
  let ink4 := refresh.foldl (fun (k : Inkwell) p =>
    let mate := if p % 2 = 0 then p + 1 else p - 1
    match alookup mate s.ink.pages with
    | some j => k.writePage p j.payload num
    | none => k) ink3
  let dirty := (ledger.filter fun q => !(fin.written.contains (s.ink.target (pairPage 2 q)))) ++
    (s.ink.dirty.filter fun p => decide (64 ≤ p) && !(fin.written.contains p))
  let back := c.2 ++ (if ok then r0.2 ++ r1.2 ++ r3.2 ++ fulls.2 else [])
  let s1 := { fin.s with
    ink := { ink4 with dirty := dirty.dedup, stuck := s.ink.stuck ++ sticks }
    folio := { fin.s.folio with carry := if ok then back else s.folio.carry, hold := if ok then h.2 else s.folio.hold } }
  let s2 := if ok then s1 else (recs ++ s.rivalRecs kept).foldl State.holdRec s1
  let need := fin.written ≠ [] ∨ cells ≠ [] ∨ latch ≠ []
  let s3 := if need then
      let crc := crc16 (fin.written.flatMap fun p => beBytes 8 (s2.header p))
      { s2 with ink := { (s2.ink.putCell (tagAddr num) (tagWord num (latch ≠ []) rf.1 rf.2 fin.written.length crc)) with group := num } }
    else { s2 with ink := { s2.ink with openGroup := none } }
  let extra := plainUnit 0 (sticks.map (fun n => .fault 0x14 n) ++ (if stuckNow then [.fault 0x14 128] else []) ++ fin.full.flatMap (fun n => .fault 0x32 n :: fullEffects n 1) ++
    (if ok then [] else .count 12 1 :: (if s.ink.refusing then [] else [.fault 0x07 0]))) []
  { s3 with
    staged := kept ++ [extra]
    deferred := s3.deferred ++ d.2.filter (·.need == .txn)
    ink := { s3.ink with refusing := !ok } }

/-- The boundary word that closes the open group, immediately after the boundary (R44, R166). -/
def State.closeGroup (s : State) : State :=
  match s.ink.openGroup with
  | none => s
  | some g => { s with ink := { (s.ink.putCell (tagAddr g.num + 1) (boundWord g.num 1 g.stamp.stroke)) with openGroup := none } }

/-! ## A write cut off (R161) -/

/-- The group's pages as a power failure leaves them that struck after `k` pages were whole: page `k` is torn, the rest
and the tag read as before.
DEDUCED, log entry 59, unsafe. -/
def State.tearGroup (s : State) (k : Nat) : State :=
  match s.ink.openGroup with
  | none => s
  | some g =>
    let nf := g.undoF.length
    let undoF := fun (s : State) (x : (Nat × Nat × Option FPage) × Nat) =>
      if x.2 < k then s
      else
        let st := s.stream x.1.1
        let others := st.pages.filter (·.page != x.1.2.1)
        match x.1.2.2 with
        | none => s.setStream x.1.1 { st with pages := others }
        | some old => s.setStream x.1.1 { st with pages := others ++ [if x.2 = k then { old with mark := .torn, group := g.num } else old] }
    let undoJ := fun (s : State) (x : (Nat × Option JPage) × Nat) =>
      if nf + x.2 < k then s
      else
        let old : JPage := (x.1.2).getD ⟨0, 0, [], .empty⟩
        let pages := if nf + x.2 = k then ainsert x.1.1 { old with mark := .torn, group := g.num } s.ink.pages
          else if x.1.2.isNone then aerase x.1.1 s.ink.pages
          else ainsert x.1.1 old s.ink.pages
        { s with ink := { s.ink with pages := pages } }
    let s := (g.undoF.zipIdx).foldl undoF s
    let s := (g.undoJ.zipIdx).foldl undoJ s
    { s with ink := s.ink.putCell (tagAddr g.num) g.oldTag }

/-! ## Settling at boot (R169, R45, R447) -/

/-- The newest group with a commit tag in its slot (R169), 0 where there is none. -/
def Inkwell.newestTag (ink : Inkwell) : Nat :=
  ((List.range 32).foldl (fun (best : Option Nat) i =>
    let w := ink.word (1102 * 32 + 2 * i)
    let g := w / 2 ^ 32
    if w / 2 ^ 30 % 4 = 3 ∧ g % 32 = i ∧ best.all (newer g) then some g else best) none).getD 0

/-- Groups newer than `g` in page headers (R169). -/
def State.newerGroups (s : State) (g : Nat) : List Nat :=
  let inScan (p : Nat) : Bool := decide (p < 1040)
  (((s.ink.pages.filter fun x => inScan x.1 && x.2.mark != .empty).map (·.2.group)) ++
    (s.folio.streams.flatMap fun t => t.2.pages.map (·.group))).dedup.filter fun h => newer h g

/-- The pages of a group receive the void seal where they are complete (R162, R169). -/
def State.sealVoid (s : State) (g : Nat) : State :=
  { s with
    ink := { s.ink with pages := s.ink.pages.map fun x =>
      if x.1 < 1040 ∧ x.2.group = g ∧ x.2.mark = .complete then (x.1, { x.2 with mark := .voided }) else x }
    folio := { s.folio with streams := s.folio.streams.map fun t =>
      (t.1, { t.2 with pages := t.2.pages.map fun p =>
        if p.group = g ∧ p.mark = .complete then { p with mark := .voided } else p }) } }

/-- Torn pages in the regions the scan covers. -/
def State.tornPages (s : State) : Nat :=
  (s.ink.pages.filter fun x => x.1 < 1040 && x.2.mark == .torn).length +
    ((s.folio.streams.flatMap fun t => t.2.pages).filter fun p => p.mark == .torn).length

/-- A determinism break counted, shown as the last, its span kept (R48).
DEDUCED, log entry 24, unsafe. -/
def State.showBreak (s : State) (cause first last : Nat) : State :=
  let s := s.countUp 1 1
  let s := (s.setRaw 0x110010 (stampBytes s.stamp)).setNum 0x110011 cause
  { s with sys := { s.sys with
    spans := s.sys.spans.filter (fun b => decide (s.sys.stroke ≤ b.last + 65536)) ++ [⟨cause, first, last⟩] } }

/-- A record written by the first group that can take it.
DEDUCED, log entry 64, unsafe. -/
def State.later (s : State) (r : NewRec) : State := { s with folio := { s.folio with carry := s.folio.carry ++ [r] } }

/-- A determinism break that no unit of the running stroke stages: its record goes to the first group that can take it (R48). -/
def State.breakNow (s : State) (cause first last : Nat) : State :=
  (s.showBreak cause first last).later (s.recBreak cause first last)

/-- A group voided: its pages sealed, its slot given a void word, counted, entered in the void list and recorded, with
its break and fault (R45, R48, R169, R447). -/
def State.voidGroup (s : State) (g : Nat) (t : Stamp) : State :=
  let s := s.sealVoid g
  let s := { s with ink := s.ink.putCell (tagAddr g + 1) (boundWord g 2 t.stroke) }
  let s := s.setNum 0x40000E (min 65535 (s.num 0x40000E + 1))
  let s := (s.addVoid t.boot g).later (s.recVoid t.boot g)
  let s := { s with ink := { s.ink with dirty := (s.ink.dirty ++ [pairOf 0x40000E, pairOf 0x440003]).dedup } }
  (s.breakNow 0x08 t.stroke t.stroke).recordFault 0x16 0

/-- The journal settled before the first stroke; `cold` after a power-on or AO reset, whose latch was reset (R45,
R169).
DEDUCED, log entry 63, unsafe. -/
def State.settle (s : State) (cold : Bool) : State :=
  let g := s.ink.newestTag
  let tag := s.ink.word (tagAddr g)
  let bound := s.ink.word (tagAddr g + 1)
  let t := s.ink.openGroup.elim s.stamp (·.stamp)
  let s := if tag = 0 ∨ bound / 2 ^ 30 = g * 4 + 1 ∨ bound / 2 ^ 30 = g * 4 + 2 then s
    else if !cold && (tag.testBit 28 == s.released) && (tag.testBit 27 == s.feedEn) then
      { s with ink := s.ink.putCell (tagAddr g + 1) (boundWord g 1 t.stroke) }
    else s.voidGroup g t
  let late := s.newerGroups g
  let torn := s.tornPages
  let s := late.foldl (fun s h => s.voidGroup h t) s
  let last := late.foldl (fun a h => if newer h a then h else a) (if newer g s.ink.group then g else s.ink.group)
  let s := s.setNum 0x40000F torn
  { s with ink := { s.ink with openGroup := none, group := last } }

/-! ## Restoring the Ledger (R103) -/

/-- The Ledger's persisted objects, the in-flight entries and the void list read back from the pairs' current copies;
every object that is not persisted and not in `keep` at its default. A pair that was written and has no complete copy
is unreadable: its objects take their defaults and the restoration is logged. -/
def State.restore (s : State) (keep : Nat → Bool) : State :=
  let pairs := (List.range 64).map fun q => (q, s.ink.payload (pairPage 2 q))
  let entries := pairs.flatMap fun p => p.2.elim [] fun b => pairEntries b.length b
  let lost := (List.range 64).filter fun q =>
    (s.ink.payload (pairPage 2 q)).isNone &&
      (((alookup (pairPage 2 q) s.ink.pages).isSome) || ((alookup (pairPage 2 q + 1) s.ink.pages).isSome))
  let s1 := { s with objs := s.objs.filter fun o => keep o.1 && !isPersisted o.1, inflight := [] }
  let s2 := entries.foldl (fun s e =>
    if 0x720010 ≤ e.1 ∧ e.1 ≤ 0x72001F then { s with inflight := ainsert (e.1 - 0x720010) (Inflight.ofBytes e.2) s.inflight }
    else if e.1 = 0x440003 then s
    else s.setRaw e.1 e.2) s1
  lost.foldl (fun s q => (s.later (s.recEvent 4 0x17 q)).recordFault 0x17 q) s2

/-! ## The shadow-counter save and the power-loss marker (R179, R82) -/

/-- The image of the store: counters least significant byte first, then wrap counts. -/
def State.shadowImage (s : State) : Bytes :=
  ((List.range 256).flatMap fun i => leBytes 4 (s.shadow i)) ++
    (List.range 256).flatMap fun i => beBytes 1 ((alookup i s.ink.wraps).getD 0)

/-- First page of a save copy: A 1088, B 1094. -/
def savePage (b : Bool) : Nat := if b then 1094 else 1088

/-- The store saved into the copy not used last, with the save stamp (R179). -/
def State.saveShadow (s : State) : State :=
  let img := padTo 1440 (s.shadowImage ++ stampLe s.stamp)
  let ink := (List.range 6).foldl (fun (k : Inkwell) i =>
    k.writePage (savePage s.ink.saveToB + i) (slice img (240 * i) 240) s.ink.group) s.ink
  { s with ink := { ink with saveToB := !s.ink.saveToB } }.setRaw 0x400010 (stampBytes s.stamp)

/-- The image of a whole save copy. -/
def Inkwell.saved (ink : Inkwell) (b : Bool) : Option Bytes :=
  (List.range 6).foldl (fun acc i => match acc, ink.complete (savePage b + i) with
    | some x, some j => some (x ++ j.payload)
    | _, _ => none) (some [])

/-- The stamp of a saved image (R179). -/
def savedStamp (b : Bytes) : Stamp := ⟨leNat (slice b 1286 4), leNat (slice b 1280 6)⟩

/-- The store restored from the newer whole copy; zero, with an event, where neither is whole (R179). -/
def State.restoreShadow (s : State) : State :=
  let load (s : State) (b : Bytes) (src : Nat) : State :=
    { s with ink := { s.ink with
      shadow := (List.range 256).filterMap fun i => let v := leNat (slice b (4 * i) 4); if v = 0 then none else some (i, v)
      wraps := (List.range 256).filterMap fun i => let v := byteAt b (1024 + i); if v = 0 then none else some (i, v) } }
      |>.setNum 0x400011 src |>.setRaw 0x400010 (stampBytes (savedStamp b))
  let none' := ({ s with ink := { s.ink with shadow := [], wraps := [] } }.setNum 0x400011 2)
  match s.ink.saved false, s.ink.saved true with
  | none, none => none'.later (none'.recEvent 5 0 0)
  | some a, none => load s a 0
  | none, some b => load s b 1
  | some a, some b => if stampLt (savedStamp a) (savedStamp b) then load s b 1 else load s a 0

/-- The power-loss marker written: cause byte and stamp of the last boundary, in the older of its two copies. -/
def State.writeMarker (s : State) (cause : Nat) : State :=
  let st (p : Nat) : Option Stamp := (s.ink.complete p).map fun j => ⟨leNat (slice j.payload 7 4), leNat (slice j.payload 1 6)⟩
  let p := match st 1100, st 1101 with
    | none, _ => 1100
    | some _, none => 1101
    | some a, some b => if stampLt a b then 1100 else 1101
  { s with ink := s.ink.writePage p (beBytes 1 cause ++ stampLe s.stamp) s.ink.group }

/-- Cause byte and stamp of the newer complete marker whose boot count is one less than the current one (R179). -/
def State.readMarker (s : State) : Option (Nat × Stamp) :=
  let get (p : Nat) : Option (Nat × Stamp) := (s.ink.complete p).bind fun j =>
    let t : Stamp := ⟨leNat (slice j.payload 7 4), leNat (slice j.payload 1 6)⟩
    if t.boot + 1 = s.boot then some (byteAt j.payload 0, t) else none
  match get 1100, get 1101 with
  | none, m => m
  | m, none => m
  | some a, some b => if stampLt a.2 b.2 then some b else some a

/-! ## The scrub (R170-R172) -/

/-- Strokes run and PD4 is on (R171). -/
def State.committing (s : State) : Bool := s.sys.power == .running && s.sys.phase == .commit

/-- A complete Folio page whose GROUP lags by 2^30 or more (R170). -/
def State.folioLags (s : State) (p : Nat) : Bool :=
  (List.range 16).any fun n => (s.stream n).pages.any fun q =>
    q.mark == .complete && decide (areaBase s.areas n + q.page = p ∧ 2 ^ 30 ≤ (s.ink.group + 2 ^ 32 - q.group) % 2 ^ 32)

/-- SCRUB_VISIT: in the Commit window of a stroke with bits [5:0] 0b011111, page (stroke >> 6) mod 2048 is margin-read; the
weak words found are gathered in the next stroke, and a complete journalled page whose GROUP lags by 2^30 or more is
to be refreshed (R170, R171).
DEDUCED, log entry 62, unsafe. -/
def execScrubVisit (weak : List Nat) (s : State) : Out :=
  if s.committing && decide (s.sys.stroke % 64 = 31) then
    let page := s.sys.stroke / 64 % 2048
    let s := s.offer 4 0 (beBytes 2 page ++ beBytes 1 weak.length) [32, page]
    let lag := (alookup page s.ink.pages).elim false fun j =>
      j.mark == .complete && decide (2 ^ 30 ≤ (s.ink.group + 2 ^ 32 - j.group) % 2 ^ 32)
    let mate := if page % 2 = 0 then page + 1 else page - 1
    let s := if lag ∧ 768 ≤ page ∧ page < 1040 then
        { s with ink := { s.ink with dirty := (s.ink.dirty ++ [mate]).dedup } }
      else if s.folioLags page then { s with ink := { s.ink with dirty := (s.ink.dirty ++ [page]).dedup } }
      else s
    .next { s with ink := { s.ink with scrub := if weak = [] then none else some ⟨page, weak, 0⟩ } }
  else .next s

/-- SCRUB_REWRITE: the group of the stroke rewrites each weak word from its corrected value, and the margin read is
repeated: `still` are the words found weak again (R172).
DEDUCED, log entry 62, unsafe. -/
def execScrubRewrite (still : List Nat) (s : State) : Out :=
  match s.ink.scrub with
  | none => .next s
  | some sc =>
    if s.committing && decide (sc.tries < 2) then
      let s := s.countUp 11 sc.weak.length
      let bad := s.ink.badWords.filter fun w => !(sc.weak.any fun k => decide (w = sc.page * 32 + k))
      let failing := s.ink.failing.filter (· != sc.page)
      .next { s with ink := { s.ink with
        badWords := bad
        failing := if still = [] then failing else s.ink.failing
        scrub := if still = [] then none else some { sc with weak := still, tries := sc.tries + 1 } } }
    else .next s

/-- PAGE_RETIREMENT: a page still weak after two rewrites is copied to the lowest unused spare that reads good and
remapped; `bad` spares before it are marked bad. With no good spare left the page stays in place as failing (R172).
DEDUCED, log entry 62, unsafe. -/
def execPageRetirement (bad : Nat) (s : State) : Out :=
  match s.ink.scrub with
  | none => .next s
  | some sc =>
    if s.committing && decide (2 ≤ sc.tries) then
      let marked := s.ink.spares ++ List.replicate (min bad (32 - s.ink.spares.length)) none
      let s := { s with ink := { s.ink with scrub := none } }
      if marked.length < 32 then
        let sp := marked.map (fun e => if e = some sc.page then none else e) ++ [some sc.page]
        let s := { s with ink := { s.ink with spares := sp } }
        let s := (s.setNum 0x400007 sp.length).setNum 0x400008 sc.page
        .next (s.offer 4 0 (beBytes 2 sc.page) [1, 5, 0x12, sc.page])
      else
        let failing := if s.ink.failing.contains sc.page then s.ink.failing else s.ink.failing ++ [sc.page]
        let s := { s with ink := { s.ink with spares := marked, failing := failing } }
        .next ((s.setNum 0x400007 32).offer 4 0 (beBytes 2 sc.page) [1, 5, 0x13, sc.page])
    else .next s

end Sys2Proof.Machine
end

