-- ==== Sys2Proof/Machine/Lantern.lean ====
section
/-!
DEFINITION. Lantern.lean: LF drivers, field patterns, the cradle path and handle sense (R210-R230).
-/

namespace Sys2Proof.Machine

/-! ## Channels -/

/-- A channel's state. -/
def State.lfChan (s : State) (c : Nat) : LfChan := (alookup c s.lf.chans).getD ⟨0, 0, false, false, false, false, false, 0⟩

/-- A channel's state replaced. -/
def State.setLfChan (s : State) (c : Nat) (x : LfChan) : State :=
  { s with lf := { s.lf with chans := ainsert c x s.lf.chans } }

/-- The domain of a channel: PD6 for channels 0-3, PD7 for 4-7 (R210). -/
def lfDomain (c : Nat) : Nat := if c < 4 then 6 else 7

/-- The bank of a channel is under or over voltage, or waits for the next committed schedule (R97). -/
def State.bankBad (s : State) (c : Nat) : Bool :=
  let b := c / 4
  s.sys.vlfState.testBit b || s.sys.vlfState.testBit (b + 2) || s.sys.vlfWait.testBit b

/-- VLF_UNDER and VLF_OVER as flags of R224. -/
def State.vlfFlags (s : State) (c : Nat) : Nat :=
  32 * b2n (s.sys.vlfState.testBit (c / 4)) + 64 * b2n (s.sys.vlfState.testBit (c / 4 + 2))

/-- Flags of R224 from two flag words. -/
def orFlags (a b : Nat) : Nat := a ||| b

/-- REG_LF_LIMITS in the checker's shadow copy. -/
def State.lfLimits (s : State) : Bytes := s.radio.reg.getD 3 []

/-- Whether the checker blocks emission: an object of the region is missing, or Bivouac mode (R246). -/
def State.regBlocked (s : State) : Bool :=
  s.bivouac || (List.range 5).any fun i => (s.radio.reg.getD i []).isEmpty

/-- The highest CODE the checker allows a channel; the cradle channel keeps the stored one in Bivouac mode (R212,
R246). -/
def State.lfMaxCode (s : State) (c : Nat) : Nat :=
  if s.regBlocked && !(s.bivouac && decide (c = s.num 0x200003)) then 0 else byteAt s.lfLimits c

/-- A channel's budget in this window, in microseconds; 0 while the region has none (R212). -/
def State.lfBudgetUs (s : State) (c : Nat) : Nat := 1000 * beNat (slice s.lfLimits (8 + 4 * c) 4)

/-! ## Patterns (R214-R218) -/

/-- Microseconds of `n` half-bits at the carrier in force (R214). -/
def halfBitsUs (carrier n : Nat) : Nat := if carrier = 0 then n * 128 else n * 170000 / 1342

/-- The bursts of a pattern with a payload of `len` bytes, in order (R216, R217). -/
def patternBursts (carrier : Nat) (p : Bytes) (len : Nat) : List Burst :=
  let tel := byteAt p 0
  let bits := byteAt p 2
  (if tel = 0xFF then [] else [⟨0, 0xFF, tel, byteAt p 1, halfBitsUs carrier (32 + 8 * len)⟩]) ++
    (List.range (min (byteAt p 3) 16)).flatMap fun k =>
      let a := byteAt p (4 + 3 * k)
      let b := byteAt p (5 + 3 * k)
      let code := byteAt p (6 + 3 * k) % 64
      let us := halfBitsUs carrier (2 * bits)
      (if a = 0xFF then [] else [⟨1, k, a, code, us⟩]) ++ (if b = 0xFF then [] else [⟨1, k, b, code, us⟩])

/-- A channel byte a pattern may name: a channel enabled on its device that is not the cradle channel. LF_CHANNEL_ENABLE
and LF_CRADLE_CHANNEL of this device are judged for its own channels (R218).
DEDUCED, log entry 75, unsafe. -/
def State.patternChan (s : State) (b : Nat) : Bool :=
  b / 8 % 4 == 0 &&
    (decide (b / 32 ≠ s.sys.cascId) || ((s.num 0x200002).testBit (b % 8) && decide (b % 8 ≠ s.num 0x200003)))

/-- Whether a value is a legal LF_PATTERN (R217, R218).
DEDUCED, log entry 75, unsafe. -/
def State.patternLegal (s : State) (p : Bytes) : Bool :=
  let n := byteAt p 3
  let codeOk (b c : Nat) : Bool := decide (b / 32 ≠ s.sys.cascId) || decide (c ≤ byteAt (s.raw 0x288004) (b % 8))
  decide (n ≤ 16) && decide (1 ≤ byteAt p 2 ∧ byteAt p 2 ≤ 4) &&
  decide (byteAt p 1 ≤ 63) &&
  (byteAt p 0 == 0xFF || (s.patternChan (byteAt p 0) && codeOk (byteAt p 0) (byteAt p 1))) &&
  (List.range 16).all fun k =>
    let a := byteAt p (4 + 3 * k)
    let b := byteAt p (5 + 3 * k)
    let c := byteAt p (6 + 3 * k)
    if n ≤ k then decide (a = 0xFF ∧ b = 0xFF ∧ c = 0)
    else s.patternChan a && codeOk a (c % 64) &&
      (if b = 0xFF then decide (c / 64 = 0)
      else s.patternChan b && decide (b ≠ a) && decide (b / 32 = a / 32) && codeOk b (c % 64))

/-! ## Items (R224) -/

/-- The 28-byte value of a class 0x07 item. -/
def lfItem (kind pattern slot code current : Nat) (phase : Int) (flags ustat : Nat) (uplink : Bytes) : Bytes :=
  beBytes 1 kind ++ beBytes 1 pattern ++ beBytes 1 slot ++ beBytes 1 code ++ beBytes 2 current ++ beInt 2 phase ++
    beBytes 2 flags ++ beBytes 1 ustat ++ beBytes 1 uplink.length ++ padTo 16 uplink

/-- A channel's fault item outside any burst (kind 4). -/
def State.lfFaultItem (s : State) (c flags : Nat) : State :=
  s.offerEvent 7 (32 * s.sys.cascId + c) (lfItem 4 0xFF 0xFF 0 0 0 flags 0 []) 7 0 c

/-! ## Activities -/

/-- Value `i` of the Feed configuration applied in PD12: 0x4810.(i + 1) (R327). -/
def State.feedCfg (s : State) (i : Nat) : Nat := s.feed.cfg.getD i (beNat (defaultOf (0x481001 + i)))

/-- FEED_FSW_HZ: 0 while Feed is neither locked nor in holdover (R313, R329). -/
def State.feedFsw (s : State) : Nat := if s.feed.locked then s.feed.fsync / max 1 (s.feedCfg 1) else 0

/-- The smallest gap between turn-ons of N phases, in CK_FEED cycles (R315, R316). -/
def feedGap (n : Nat) : Nat := [64, 64, 32, 21, 16, 12, 10].getD n 10

/-- The edge guard can be met: the gap lasts 325.0 ns or 316.4 ns, by carrier (R220, R316). -/
def State.guardMet (s : State) : Bool :=
  !s.feedEn || decide ((if s.lf.carrier = 0 then 3250 else 3164) * 64 * s.feedFsw ≤ feedGap (s.feedCfg 0) * 10 ^ 10)

/-- LF_ACTIVITY (R229). -/
def State.lfActivity (s : State) : Nat := (s.lf.running.map fun r => if r.sched.kind = 2 then 2 else 1).getD 0

/-- The bursts of a master's part (R425, R433): the telegram of `tel` bytes first where this device carries it, then the
measurements by their starts. The first argument bounds the bursts left; `slot` and `last` are the measurement slot and
its start. -/
def partBursts (carrier : Nat) : Nat → Option Nat → Nat → Nat → Bytes → List Burst
  | 0, _, _, _, _ => []
  | fuel + 1, tel, slot, last, b =>
    if b.length < 10 then []
    else
      let start := beNat (slice b 2 4)
      let len := beNat (slice b 6 4)
      match tel with
      | some n => ⟨0, 0xFF, byteAt b 0, byteAt b 1, halfBitsUs carrier (32 + 8 * n)⟩ :: partBursts carrier fuel none 0 0 (b.drop 10)
      | none =>
        let k := if last = 0 ∨ start = last then slot else slot + 1
        ⟨1, k, byteAt b 0, byteAt b 1, if carrier = 0 then len / 8 else len * 625 / 5368⟩ ::
          partBursts carrier fuel none k start (b.drop 10)

/-- The bursts of a schedule. A cradle exchange is its power-up
carrier, then two telegrams, each with its uplink (R221, R277).
DEDUCED, log entry 81, unsafe. -/
def State.schedBursts (s : State) (x : LfSched) : List Burst :=
  if x.kind = 1 then patternBursts s.lf.carrier (s.raw (0x201001 + x.pattern)) x.payload.length
  else if x.kind = 3 then
    let n := byteAt x.payload 0
    partBursts s.lf.carrier 32 (if n = 0 then none else some n) 0 0 (x.payload.drop (1 + n))
  else
    let c := 32 * s.sys.cascId + s.num 0x200003
    let tel (p : Bytes) : Burst := ⟨0, 0xFF, c, s.num 0x200007, halfBitsUs s.lf.carrier (2 * (28 + 8 * p.length))⟩
    [⟨2, 0xFF, c, s.num 0x200007, 1000 * s.num 0x200009⟩, tel x.payload, ⟨3, 0xFF, c, 0, 0⟩, tel x.second, ⟨3, 0xFF, c, 0, 0⟩]

/-- LF_ACTIVITY_START: the pending schedule starts once its stroke has come and nothing runs (R219). The edge guard is
judged (R220), and fault flags of the last activity are cleared.
DEDUCED, log entry 81, unsafe. -/
def execLfActivityStart (s : State) : Out :=
  match s.lf.next, s.lf.running with
  | some x, none =>
    if decide (x.start ≤ s.sys.stroke) && s.sys.power == .running && (x.kind == 2 || !s.bivouac) then
      let met := s.guardMet
      let s := if met then s else s.countUp 25 1
      let chans := s.lf.chans.map fun c => (c.1, { c.2 with flags := 0, stopped := false, counted := false, drove := false })
      .next { s with lf := { s.lf with
        next := none, running := some ⟨x, s.schedBursts x, !met⟩, guard := if met then 0 else 1, chans := chans } }
    else .next s
  | _, _ => .next s

/-- The running activity ends: each channel that drove and met a fault that counts is one nearer to latching, LATCHED_OFF at
the third in a row; a channel that drove without one starts over, and one that did not drive stays as it is (R223).
DEDUCED, log entry 78, unsafe. -/
def State.lfEnd (s : State) : State :=
  let fin := fun (c : Nat × LfChan) =>
    if c.2.counted then
      let row := c.2.row + 1
      (c.1, { c.2 with row := row, latched := c.2.latched || decide (3 ≤ row), stopped := false })
    else (c.1, { c.2 with row := if c.2.drove then 0 else c.2.row, stopped := false })
  let fresh := s.lf.chans.filter fun c => c.2.counted && decide (c.2.row = 2) && !c.2.latched
  let s := { s with lf := { s.lf with running := none, chans := s.lf.chans.map fin } }
  fresh.foldl (fun s c => s.offerEvent 7 (32 * s.sys.cascId + c.1) (lfItem 4 0xFF 0xFF 0 0 0 512 0 []) 7 0x2C c.1) s

/-- Why a channel does not drive a burst now: latched off, absent or disabled, bank off, stopped or hot, or duty spent, as
flags of R224; 0 where it drives.
DEDUCED, log entry 74, unsafe.
DEDUCED, log entry 76, safe.
DEDUCED, log entry 77, unsafe. -/
def State.lfBar (s : State) (c : Nat) : Nat :=
  let x := s.lfChan c
  if x.latched then 512 + 1024
  else if !(s.domReady (lfDomain c)) || !(s.num 0x200002).testBit c then 1024
  else if s.bankBad c then orFlags 1024 (s.vlfFlags c)
  else if x.stopped || x.hot then orFlags (x.flags &&& 19) (16 * b2n x.hot)
  else if s.lfBudgetUs c ≤ x.dutyUs then 256
  else 0

/-- Faults of R223 among flags that a channel has not met in this activity before, counted in LF_FAULT_COUNT.
DEDUCED, log entry 78, unsafe. -/
def State.lfCountNew (s : State) (c flags : Nat) : State :=
  let n := ((List.range 7).filter fun i => flags.testBit i && !(s.lfChan c).flags.testBit i).length
  if n = 0 then s else s.countUp (17 + c) n

/-- The item of a burst on an own channel, with what it leaves: flags, measured values and, where the channel drove, its
carrier time (R212, R223, R224). `extra` holds flags found during the burst.
DEDUCED, log entry 74, unsafe.
DEDUCED, log entry 77, unsafe. -/
def State.lfReport (s : State) (run : LfRun) (b : Burst) (current : Nat) (phase : Int) (extra us ustat : Nat) (uplink : Bytes) : State :=
  let pat := if run.sched.kind = 1 then run.sched.pattern else 0xFF
  let c := b.chan % 8
  let code := min b.code (s.lfMaxCode c)
  let bar := s.lfBar c
  let flags := orFlags (orFlags bar (128 * b2n (decide (code < b.code)))) (orFlags (4096 * b2n run.guardOff) extra)
  let s := s.lfCountNew c flags
  let x := s.lfChan c
  let all := orFlags x.flags flags
  let s := s.setLfChan c { x with flags := all, drove := x.drove || bar == 0, dutyUs := if bar = 0 then x.dutyUs + us else x.dutyUs }
  let s := ((s.setNum (0x200801 + c) all).setNum (0x200A01 + c) current).setRaw (0x200B01 + c) (beInt 2 phase)
  s.offerEvent 7 b.chan (lfItem b.kind pat b.slot code current phase flags ustat uplink) (if flags &&& 0x17F = 0 then 99 else 7) 0 c

/-- The bursts that may drive now: the first one left and, in a dual slot, its other channel. -/
def burstsNow : List Burst → List Burst
  | a :: b :: _ => if a.kind = 1 ∧ b.kind = 1 ∧ a.slot = b.slot then [a, b] else [a]
  | l => l

/-- LF_BURST_END: the next burst of the running activity ends with the peak current and phase measured, under-driven and
detuned as found, and the activity ends with the last burst (R212, R216, R219, R223, R224). A channel of another device that
is admitted reports from there; one that is not is ABSENT. -/
def execLfBurstEnd (current : Nat) (phase : Int) (under detuned : Bool) (s : State) : Out :=
  match s.lf.running with
  | none => .next s
  | some run =>
    match run.bursts with
    | [] => .next s.lfEnd
    | b :: rest =>
      if b.kind = 3 then .next s
      else
        let t := { s with lf := { s.lf with running := some { run with bursts := rest } } }
        let t :=
          if b.chan / 32 ≠ s.sys.cascId then
            if s.slaveUp (b.chan / 32) then t
            else t.offerEvent 7 b.chan
              (lfItem b.kind (if run.sched.kind = 1 then run.sched.pattern else 0xFF) b.slot b.code 0 0 1024 0 []) 99 0 0
          else t.lfReport run b current phase (if s.lfBar (b.chan % 8) = 0 then 4 * b2n under + 8 * b2n detuned else 0) b.us 0 []
        .next (if rest = [] then t.lfEnd else t)

/-- A burst cut short by an abort: flagged ABORTED, its carrier time and measured values those of where it was cut, which the
model leaves free; one that had not begun has none.
DESIGN CHOICE, log entry 79, unsafe. -/
def State.lfCut (s : State) (run : LfRun) (b : Burst) (begun : Bool) : State :=
  if b.chan / 32 ≠ s.sys.cascId then s
  else if begun && s.lfBar (b.chan % 8) == 0 then
    let x := s.freeNat
    let y := x.2.freeNat
    let z := y.2.freeNat
    z.2.lfReport run b (x.1 % 2001) ((y.1 % 3601 : Nat) - 1800) 2048 (z.1 % (b.us + 1)) 0 []
  else s.lfReport run b 0 0 2048 0 0 []

/-- The activity aborted at the boundary: the bursts cut short produce items flagged ABORTED (R219).
DEDUCED, log entry 80, unsafe. -/
def State.lfAbortNow (s : State) : State :=
  match s.lf.running with
  | none => s
  | some run =>
    let n := (burstsNow run.bursts).length
    let s := (run.bursts.take n).foldl (fun s b => s.lfCut run b true) s
    ((run.bursts.drop n).foldl (fun s b => s.lfCut run b false) s).lfEnd

/-- LF_DRIVER_FAULT: OPEN (flag bit 0), SHORT (bit 1) or THERMAL (bit 4) stops the channel for the rest of the activity and
counts once per activity. A burst it strikes ends with it, its carrier time that of the cut; a fault outside any burst of the
channel has an item of its own (R223, R224).
DEDUCED, log entry 77, unsafe.
DESIGN CHOICE, log entry 79, unsafe. -/
def execLfDriverFault (ch kind : Nat) (s : State) : Out :=
  match s.lf.running with
  | none => .next s
  | some run =>
    if ch < 8 ∧ (kind = 0 ∨ kind = 1 ∨ kind = 4) then
      let struck := (burstsNow run.bursts).find? fun b => b.chan == 32 * s.sys.cascId + ch
      let z := s.freeNat
      let cut : State × Nat := match struck with
        | some b => if s.lfBar ch = 0 then (z.2, z.1 % (b.us + 1)) else (s, 0)
        | none => (s, 0)
      let t := cut.1.lfCountNew ch (2 ^ kind)
      let x := t.lfChan ch
      let t := t.setLfChan ch { x with
        flags := orFlags x.flags (2 ^ kind), stopped := true, hot := x.hot || kind == 4, counted := true, dutyUs := x.dutyUs + cut.2 }
      let t := t.setNum (0x200801 + ch) (orFlags x.flags (2 ^ kind))
      .next (if struck.isSome then t else t.lfFaultItem ch (2 ^ kind))
    else .next s

/-- THERMAL_RELEASE: the junction is below 150 °C, so the channel may drive again (R223). -/
def execThermalRelease (ch : Nat) (s : State) : Out :=
  if ch < 8 then .next (s.setLfChan ch { s.lfChan ch with hot := false }) else .next s

/-- Strokes in a regulatory window (R212). -/
def State.regWindow (s : State) : Nat := s.secStrokes 3600

/-- REGULATORY_WINDOW: at a boundary whose stroke number is a multiple of 3,600 s of strokes, every duty budget restarts
(R212, R245).
DEDUCED, log entry 74, unsafe. -/
def execRegulatoryWindow (s : State) : Out :=
  if s.sys.stroke % s.regWindow = 0 then
    .next { s with
      lf := { s.lf with chans := s.lf.chans.map fun c => (c.1, { c.2 with dutyUs := 0 }) }
      radio := { s.radio with bandUs := [], uwbUs := 0 } }
  else .next s

/-- LF_CARRIER_CHANGE: LF_CARRIER takes effect at a Commit with no LF activity running or pending (R210). -/
def execLfCarrierChange (s : State) : Out :=
  if s.committing && s.lf.running.isNone && s.lf.next.isNone then
    .next { s with lf := { s.lf with carrier := s.num 0x200001 } }
  else .next s

/-- A write of LF_CHANNEL_CLEAR: 1 ends the channel's LATCHED_OFF state at its Commit (R223). -/
def opLfChannelClear (ch : Nat) (v : Bytes) : OpResult :=
  .ok (if beNat v = 1 then [.lfClear ch] else [])

/-! ## The cradle uplink (R222) -/

/-- UPLINK_STATUS and payload of a recovered uplink: SYNC 0xD2, LEN, payload, CRC-8 over LEN and payload (R215, R222).
DEDUCED, log entry 81, unsafe. -/
def uplinkParse (rx : Bytes) : Nat × Bytes :=
  let n := byteAt rx 1
  if byteAt rx 0 ≠ 0xD2 then (2, [])
  else if n = 0 ∨ 16 < n ∨ rx.length < n + 3 ∨ crc8 (slice rx 1 (n + 1)) ≠ byteAt rx (n + 2) then (3, [])
  else (0, slice rx 2 n)

/-- The burst of the uplink that a cradle exchange listens for, with the run it belongs to and the bursts after it. -/
def State.uplinkBurst (s : State) : Option (LfRun × Burst × List Burst) :=
  match s.lf.running with
  | some run => match run.bursts with
    | b :: rest => if b.kind = 3 then some (run, b, rest) else none
    | [] => none
  | none => none

/-- Microseconds of carrier held while an uplink is listened for: 8 bit times without one; else 2 to 8 bit times, free, before it
and its bits, with no more than SYNC where that does not match (R221, R222).
DESIGN CHOICE, log entry 79, unsafe. -/
def State.uplinkUs (s : State) (status len : Nat) : Nat × State :=
  if status = 1 then (halfBitsUs s.lf.carrier 16, s)
  else
    let x := s.freeNat
    (halfBitsUs s.lf.carrier 4 + x.1 % (halfBitsUs s.lf.carrier 12 + 1) +
      halfBitsUs s.lf.carrier (if status = 2 then 16 else 2 * (24 + 8 * len)), x.2)

/-- The cradle exchange goes on from its uplink with the cradle item (kind 3); with the last one the carrier stops. A channel
that does not drive hears nothing (R221, R222, R277). -/
def State.cradleItem (s : State) (x : LfRun × Burst × List Burst) (status len current : Nat) (phase : Int) (payload : Bytes) : State :=
  let t := { s with lf := { s.lf with running := some { x.1 with bursts := x.2.2 } } }
  let t := if s.lfBar (x.2.1.chan % 8) = 0 then
      let u := t.uplinkUs status len
      u.2.lfReport x.1 x.2.1 current phase 0 u.1 status payload
    else t.lfReport x.1 x.2.1 current phase 0 0 1 []
  if x.2.2 = [] then t.lfEnd else t

/-- CRADLE_UPLINK: the bytes recovered from the antenna current are checked and delivered as a cradle item (R222). -/
def execCradleUplink (rx : Bytes) (current : Nat) (phase : Int) (s : State) : Out :=
  match s.uplinkBurst with
  | some x => let p := uplinkParse rx; .next (s.cradleItem x p.1 (byteAt rx 1) current phase p.2)
  | none => .next s

/-- CRADLE_UPLINK_TIMEOUT: no uplink began within its window (R222). -/
def execCradleUplinkTimeout (current : Nat) (phase : Int) (s : State) : Out :=
  match s.uplinkBurst with
  | some x => .next (s.cradleItem x 1 0 current phase [])
  | none => .next s

/-! ## Handle sense (R225-R228) -/

/-- A handle channel. -/
def State.hsChan (s : State) (c : Nat) : HsChan := (alookup c s.lf.hs).getD ⟨0, 0, 0, 0, 0, 0, 0, 0⟩

/-- A handle channel replaced. -/
def State.setHs (s : State) (c : Nat) (h : HsChan) : State := { s with lf := { s.lf with hs := ainsert c h s.lf.hs } }

/-- The item of a handle event (R227): kind, DELTA, baseline. -/
def hsItem (kind : Nat) (delta : Int) (baseline : Nat) : Bytes := beBytes 1 kind ++ beInt 4 delta ++ beBytes 4 baseline

/-- A handle event deposited. A TOUCH in Bivouac mode is logged and starts nothing (R227).
DEDUCED, log entry 81, unsafe. -/
def State.hsEvent (s : State) (c kind : Nat) (h : HsChan) : State :=
  let s := if kind = 1 then s.countUp (26 + c) 1 else s
  s.offer 6 (32 * s.sys.cascId + c) (hsItem kind h.delta h.baseline) (if kind = 1 && !s.bivouac then [2] else [1, 12, 0, c])

/-- One measurement of a channel and its state machine (R226).
DEDUCED, log entry 82, safe. -/
def State.hsScan (s : State) (c m : Nat) : State :=
  let h := s.hsChan c
  let thr := s.num (0x240801 + c)
  let rel100 : Int := (thr * s.num (0x240901 + c) : Nat)
  let d := s.num 0x240004
  let h := { h with delta := (m : Int) - h.baseline }
  match h.state with
  | 0 => s.setHs c { h with state := 1, scans := 0, sum := 0, hits := 0, lows := 0 }
  | 1 =>
    let h := { h with scans := h.scans + 1, sum := h.sum + m }
    if 8 ≤ h.scans then
      let q := s.divOpen h.sum 8
      q.2.setHs c { h with state := 2, baseline := q.1.toNat, scans := 0, sum := 0, hits := 0, lows := 0 }
    else s.setHs c h
  | 2 =>
    let hits := if (thr : Int) ≤ h.delta then h.hits + 1 else 0
    let lows := if h.delta ≤ -(thr : Int) then h.lows + 1 else 0
    if d ≤ hits then
      let h := { h with state := 3, hits := 0, lows := 0, since := s.sys.stroke }
      (s.setHs c h).hsEvent c 1 h
    else if 8 ≤ lows then s.setHs c { h with state := 1, scans := 0, sum := 0, hits := 0, lows := 0 }
    else
      let small := decide (100 * h.delta < rel100) && decide (-rel100 < 100 * h.delta)
      let q := if small then s.divOpen h.delta 64 else (0, s)
      q.2.setHs c { h with baseline := ((h.baseline : Int) + q.1).toNat, hits := hits, lows := lows }
  | 3 =>
    let lows := if 100 * h.delta < rel100 then h.lows + 1 else 0
    if d ≤ lows then
      let h := { h with state := 2, hits := 0, lows := 0 }
      (s.setHs c h).hsEvent c 2 h
    else s.setHs c { h with lows := lows }
  | _ =>
    if h.scans < 8 then
      let h := { h with scans := h.scans + 1, sum := h.sum + m }
      if 8 ≤ h.scans then
        let q := s.divOpen h.sum 8
        q.2.setHs c { h with baseline := q.1.toNat, lows := 0 }
      else s.setHs c h
    else
      let lows := if 100 * h.delta ≤ -rel100 then h.lows + 1 else 0
      if d ≤ lows then
        let h := { h with state := 1, scans := 0, sum := 0, hits := 0, lows := 0 }
        (s.setHs c h).hsEvent c 4 h
      else s.setHs c { h with lows := lows }

/-- The handle-sense objects of a channel show its state (R230). -/
def State.hsShow (s : State) (c : Nat) : State :=
  let h := s.hsChan c
  ((s.setNum (0x240A01 + c) h.baseline).setRaw (0x240B01 + c) (beInt 4 h.delta)).setNum (0x240C01 + c) h.state

/-- HANDLE_SCAN: every enabled channel takes its measurement, in order 0 to 3; a disabled one is OFF (R225, R226). The
measurements are capacitances in fF. Scanning begins at the first stroke and goes on through dark strokes and standby
(R228).
DEDUCED, log entry 82, safe. -/
def execHandleScan (m0 m1 m2 m3 : Nat) (s : State) : Out :=
  if s.sys.power = .running ∨ s.sys.power = .dark ∨ s.sys.power = .coreHeld ∨ s.sys.power = .standby then
    .next ((List.range 4).foldl (fun s c =>
      if (s.num 0x240001).testBit c then (s.hsScan c ([m0, m1, m2, m3].getD c 0)).hsShow c
      else if (s.hsChan c).state = 0 then s
      else (s.setHs c ⟨0, 0, 0, 0, 0, 0, 0, 0⟩).hsShow c) s)
  else .next s

/-- HS_STUCK: a channel TOUCHED for HS_STUCK_S seconds enters STUCK, its baseline to be the mean of the next 8 scans
(R226).
DEDUCED, log entry 82, safe. -/
def execHsStuck (ch : Nat) (s : State) : Out :=
  let h := s.hsChan ch
  if ch < 4 ∧ h.state = 3 ∧ h.since + s.secStrokes (s.num 0x240005) ≤ s.sys.stroke then
    let h := { h with state := 4, scans := 0, sum := 0, hits := 0, lows := 0 }
    .next (((s.setHs ch h).hsEvent ch 3 h).hsShow ch)
  else .next s

/-- A change to HS_ENABLE takes effect at its Commit: a channel enabled starts ACQUIRING, one disabled is OFF (R228). -/
def State.hsEnable (s : State) (old : Nat) : State :=
  (List.range 4).foldl (fun s c =>
    let now := (s.num 0x240001).testBit c
    if now && !old.testBit c then (s.setHs c { s.hsChan c with state := 1, scans := 0, sum := 0 }).hsShow c
    else if !now && old.testBit c then (s.setHs c ⟨0, 0, 0, 0, 0, 0, 0, 0⟩).hsShow c
    else s) s

/-- Scanning begins with every enabled channel ACQUIRING, at the first stroke after a power-on or AO reset (R228). -/
def State.hsBegin (s : State) : State := { s with lf := { s.lf with hs := [] } }.hsEnable 0

end Sys2Proof.Machine
end

