-- ==== Sys2Proof/Machine/Radio.lean ====
section
/-!
DEFINITION. Radio.lean: the radio front end (R231-R255): schedule lists, the regulatory checker, activities and their items,
calibration, sniffing and coexistence.
-/

namespace Sys2Proof.Machine

/-! ## The regulatory region (R243-R246) -/

/-- One band entry: START_HZ, END_HZ, MAX_POWER, MOD_MASK, DUTY_MS. -/
structure Band where
  lo : Nat
  hi : Nat
  power : Int
  mask : Nat
  dutyMs : Nat
  deriving DecidableEq, Repr

/-- Band entry `i` of REG_SUBGHZ_BANDS, none where it is all zero. -/
def bandOf (b : Bytes) (i : Nat) : Option Band :=
  let e := slice b (16 * i) 16
  if e.all (· == 0) then none
  else some ⟨beNat (slice e 0 4), beNat (slice e 4 4), intOf (slice e 8 1), byteAt e 9, beNat (slice e 12 4)⟩

/-- Allow-list frequency `i`. -/
def allowOf (b : Bytes) (i : Nat) : Nat := beNat (slice b (4 * i) 4)

/-- A legal REG_SUBGHZ_BANDS (R244). -/
def bandsLegal (b : Bytes) : Bool :=
  (List.range 8).all fun i => match bandOf b i with
    | none => true
    | some x => decide (300000000 ≤ x.lo ∧ x.lo < x.hi ∧ x.hi ≤ 960000000) && decide (-40 ≤ x.power ∧ x.power ≤ 28) &&
        decide (x.mask ≠ 0 ∧ x.mask < 4) && decide (beNat (slice b (16 * i + 10) 2) = 0)

/-- Each used allow-list frequency lies inside a used band (R244).
DEDUCED, log entry 91, unsafe. -/
def allowLegal (bands b : Bytes) : Bool :=
  (List.range 32).all fun i =>
    let f := allowOf b i
    f == 0 || (List.range 8).any fun k => (bandOf bands k).elim false fun x => decide (x.lo ≤ f ∧ f ≤ x.hi)

/-- A legal value of regulatory object `n` (0-4) beside the others of the private copy (R243, R244). -/
def State.regLegal (s : State) (n : Nat) (v : Bytes) : Bool :=
  match n with
  | 0 => (v.drop 4).all (· == 0)
  | 1 => bandsLegal v && allowLegal v (s.raw 0x288003)
  | 2 => allowLegal (s.raw 0x288002) v
  | 3 => (v.take 8).all fun x => decide (x.toNat ≤ 63)
  | _ => decide (byteAt v 0 < 4) && decide (byteAt v 1 ≤ 63) && (v.drop 6).all (· == 0)

/-- The checker's shadow copy loaded from the region's current copies (R232, R243). -/
def State.regLoad (s : State) : State :=
  let len (n : Nat) : Nat := [16, 128, 128, 40, 8].getD n 0
  let reg := (List.range 5).map fun n => ((s.ink.payload (pairPage 1 n)).map fun b => b.take (len n)).getD []
  { s with radio := { s.radio with reg := reg } }

/-- The regulatory objects as the region stores them, put where reads find them (R255).
DEDUCED, log entry 91, unsafe. -/
def State.regRead (s : State) : State :=
  (List.range 5).foldl (fun s n => s.setRaw (0x288001 + n)
    ((s.ink.payload (pairPage 1 n)).elim (defaultOf (0x288001 + n)) fun b => padTo (defaultOf (0x288001 + n)).length b)) s

/-- REG_STATE (R246). -/
def State.regState (s : State) : Nat := if s.regBlocked then 0 else 1

/-- REG_DIGEST: SHA-256 over the five objects in pair order, as stored (R244). -/
def State.regDigest (s : State) : Bytes :=
  sha256 ((List.range 5).flatMap fun n => s.raw (0x288001 + n))

/-! ## Items (R252, R253) -/

/-- A class 0x08 item's 74 bytes. -/
def uhfItem (kind entry flags : Nat) (power rssi off : Int) (payload : Bytes) : Bytes :=
  beBytes 1 kind ++ beBytes 1 entry ++ beBytes 2 flags ++ beInt 1 power ++ beInt 2 rssi ++ beInt 2 off ++
    beBytes 1 payload.length ++ padTo 64 payload

/-- A class 0x09 item's 30 bytes. -/
def uwbItem (kind entry flags role quality : Nat) (stamps : Bytes) (fp rx : Int) : Bytes :=
  beBytes 1 kind ++ beBytes 1 entry ++ beBytes 2 flags ++ beBytes 1 role ++ beBytes 1 quality ++ padTo 20 stamps ++
    beInt 2 fp ++ beInt 2 rx

/-- Flags of a regulatory refusal or of coexistence, whose items stream 7 records (R443). -/
def radioLogged (flags : Nat) : Nat := if flags &&& 29 ≠ 0 then 7 else 99

/-- A sub-GHz item deposited. -/
def State.uhfDone (s : State) (kind entry flags : Nat) (power rssi off : Int) (payload : Bytes) : State :=
  if kind = 4 then s.offer 8 0 (uhfItem kind entry flags power rssi off payload) [3]
  else s.offerEvent 8 0 (uhfItem kind entry flags power rssi off payload) (radioLogged flags) 0 0

/-! ## Schedule lists (R239, R240) -/

/-- Bits on air of a packet with `len` payload bytes (R234). -/
def State.packetBits (s : State) (len : Nat) : Nat := (s.num 0x280008 + 7 + len) * 8

/-- Duration of a packet in 100 ns (R234). -/
def packetTicks (preamble len rate : Nat) : Nat := (preamble + 7 + len) * 8 * 10000000 / max 1 rate

/-- Microseconds on air, whole (R234, R245).
DEDUCED, log entry 83, unsafe. -/
def packetUs (e : RadioEntry) : Nat := (e.preamble + 7 + e.buffer.length) * 8 * 1000000 / max 1 e.rate

/-- Microseconds on air of the frames a ranging entry sends: 72 symbols of 508 chips and the STS segment, two frames of
an initiator and one of a responder (R235; frame lengths of the standard, log entry 12). -/
def uwbUs (e : RadioEntry) : Nat :=
  (if e.action = 3 then 2 else 1) * ((72 * 508 + e.sts * 512) * 10 / 4992)

/-- Whether an entry's fields lie in the ranges of R233, R235 and R240. -/
def entryLegal (e : RadioEntry) : Bool :=
  decide (10 ≤ e.window ∧ e.window ≤ 100000) && decide (e.buffer.length ≤ 64) &&
  (if e.radio = 0 then
    decide (e.action ≤ 2) && decide (300000000 ≤ e.channel ∧ e.channel ≤ 960000000) && decide (e.modulation ≤ 1) &&
      decide (4800 ≤ e.rate ∧ e.rate ≤ 200000) && decide (600 ≤ e.deviation ∧ e.deviation ≤ 100000) &&
      decide (-40 ≤ e.power ∧ e.power ≤ 28) && (e.action == 1 || decide (1 ≤ e.buffer.length))
  else
    decide (e.radio = 1) && decide (e.action = 3 ∨ e.action = 4) && decide (e.channel = 5 ∨ e.channel = 9) &&
      decide (9 ≤ e.code ∧ e.code ≤ 12) && decide (e.sts = 64 ∨ e.sts = 128) && decide (0 ≤ e.power ∧ e.power ≤ 63))

/-- Time an entry takes from its start, in 100 ns: packets on air and its window. -/
def entrySpan (e : RadioEntry) : Nat :=
  let air := (packetTicks e.preamble e.buffer.length e.rate) + 1
  if e.radio = 1 then 10 * (uwbUs e + 1) + 10 * e.window
  else match e.action with
    | 0 => air
    | 1 => 10 * e.window
    | _ => air + 300 + 10 * e.window

/-- The least gap in 100 ns before an entry: the maximum times out to STANDBY, to SYNTH and to RX or TX, and for a UWB
transmission a step of its grid (R236, R237, R240). -/
def entryGap (e : RadioEntry) : Nat :=
  if e.radio = 0 then (if e.action = 1 then 710 else 750) else (if e.action = 4 then 770 else 751)

/-- No two entries of one radio overlap, with maximum transition times between them (R237, R240).
DEDUCED, log entry 84, unsafe. -/
def State.listSeparate (s : State) (l : List RadioEntry) : Bool :=
  (l.foldl (fun (acc : Bool × Nat × List (Nat × Nat)) e =>
    let t := if e.relative then acc.2.1 + e.offset else e.start * (10 * s.strokeUs) + e.offset
    let gap := entryGap e
    let prev := alookup e.radio acc.2.2
    let ok := prev.elim true fun p => decide (p + gap ≤ t)
    (acc.1 && ok, t + entrySpan e, ainsert e.radio (t + entrySpan e) acc.2.2)) (true, 0, [])).1

/-- A list checked when it is applied: up to 32 entries, each legal, none overlapping (R240). -/
def State.listLegal (s : State) (l : RadioList) : Bool :=
  decide (l.entries.length ≤ 32) && l.entries.all entryLegal && s.listSeparate l.entries

/-- A committed list becomes the pending one, or is rejected with an item flagged SCHED_REJECTED (R239, R240). -/
def State.listApply (s : State) (l : RadioList) : State :=
  if s.listLegal l then { s with radio := { s.radio with next := some l } }
  else (s.countUp 38 1).uhfDone 6 0xFF 64 0 0 0 []

/-! ## The checker (R245) -/

/-- Synthesiser step nearest a frequency (R233). -/
def synthStep (hz : Nat) : Nat := (hz * 2 ^ 20 + 40000000) / 80000000

/-- The synthesised frequency lies within 1 kHz of an allow-list entry.
DEDUCED, log entry 91, unsafe. -/
def State.allowed (s : State) (e : RadioEntry) : Bool :=
  let f := synthStep e.channel * 40000000
  (List.range 32).any fun i =>
    let a := allowOf (s.radio.reg.getD 2 []) i
    a != 0 && decide (f ≤ (a + 1000) * 2 ^ 19) && decide ((a - 1000) * 2 ^ 19 ≤ f)

/-- The band whose limits hold the occupied span and permit the modulation.
DEDUCED, log entry 91, unsafe. -/
def State.bandFor (s : State) (e : RadioEntry) : Option (Nat × Band) :=
  let f := synthStep e.channel * 80000000
  let half := (2 * e.deviation + e.rate) * 2 ^ 19
  ((List.range 8).filterMap fun i => (bandOf (s.radio.reg.getD 1 []) i).map fun b => (i, b)).find? fun x =>
    decide (x.2.lo * 2 ^ 20 + half ≤ f) && decide (f + half ≤ x.2.hi * 2 ^ 20) && x.2.mask.testBit e.modulation

/-- What the checker decides of a transmission: flags, power, microseconds charged, and to which band (8: UWB); flags 1
and 4 refuse it.
DEDUCED, log entry 83, unsafe. -/
def State.checkTx (s : State) (e : RadioEntry) : Nat × Int × Nat × Nat :=
  if s.regBlocked then (1, e.power, 0, 0)
  else if e.radio = 0 then
    if !s.allowed e then (1, e.power, 0, 0)
    else match s.bandFor e with
      | none => (1, e.power, 0, 0)
      | some (i, b) =>
        let us := packetUs e
        let used := (alookup i s.radio.bandUs).getD 0
        let p := min e.power b.power
        let cap := if p < e.power then 2 else 0
        if 1000 * b.dutyMs < used + us then (4 + cap, p, 0, i) else (cap, p, us, i)
  else
    let lim := s.radio.reg.getD 4 []
    if !((byteAt lim 0).testBit (if e.channel = 5 then 0 else 1)) then (1, e.power, 0, 8)
    else
      let p : Int := min e.power (byteAt lim 1)
      let cap := if p < e.power then 2 else 0
      let us := uwbUs e
      if 1000 * beNat (slice lim 2 4) < s.radio.uwbUs + us then (4 + cap, p, 0, 8) else (cap, p, us, 8)

/-- Duty charged to a band or to UWB.
DEDUCED, log entry 83, unsafe. -/
def State.chargeTx (s : State) (band us : Nat) : State :=
  { s with radio :=
    if band = 8 then { s.radio with uwbUs := s.radio.uwbUs + us }
    else { s.radio with bandUs := ainsert band ((alookup band s.radio.bandUs).getD 0 + us) s.radio.bandUs } }

/-! ## States and activities -/

/-- The domain of a radio. -/
def radioDomain (r : Nat) : Nat := if r = 0 then 8 else 9

/-- A radio's state set, with the front-end leads of the sub-GHz radio (R237). -/
def State.radioTo (s : State) (r st : Nat) : State :=
  if r = 0 then { s with radio := { s.radio with uhf := st, txen := st == 4, rxen := st == 3 } }
  else { s with radio := { s.radio with uwb := st } }

/-- A radio's state. -/
def State.radioState (s : State) (r : Nat) : Nat := if r = 0 then s.radio.uhf else s.radio.uwb

/-- Whether a radio's activities take part in coexistence (R250). -/
def State.coexScope (s : State) (r : Nat) : Bool := decide (s.num 0x28000F ≠ 0) && (s.num 0x280012).testBit r

/-- The running list and its next entry, the pending list where none runs. -/
def State.radioHead (s : State) : Option (RadioList × Nat) :=
  match s.radio.running with
  | some x => some x
  | none => s.radio.next.map fun l => (l, 0)

/-- RADIO_WAKE: a radio with an activity due leaves SLEEP (R237, R238). -/
def execRadioWake (radio : Nat) (s : State) : Out :=
  if radio < 2 ∧ s.radioState radio = 0 ∧ s.domReady (radioDomain radio) = true then
    match s.radioHead with
    | some (l, i) => if (l.entries.drop i).any (·.radio == radio) then .next (s.radioTo radio 1) else .next s
    | none => .next s
  else .next s

/-- RADIO_ACTIVITY_START: the next entry of the running list, or the first of the pending one, enters TX or RX at its
start, if its stroke has come and its radio is free. Regulation, the key port and COEX_GNT (`gnt`) are judged (R238,
R240, R245, R250, R251).
DEDUCED, log entry 86, unsafe.
DEDUCED, log entry 89, unsafe. -/
def execRadioActivityStart (gnt : Bool) (s : State) : Out :=
  match s.radioHead with
  | none => .next s
  | some (l, i) =>
    match l.entries[i]? with
    | none => .next s
    | some e =>
      if (alookup e.radio s.radio.act).isSome || !(e.relative || decide (e.start ≤ s.sys.stroke)) then .next s
      else
        let s := if s.radio.running.isSome then { s with radio := { s.radio with running := some (l, i + 1) } }
          else { s with radio := { s.radio with running := some (l, 1), next := none } }
        let scope := s.coexScope e.radio
        let obey := scope && decide (s.num 0x28000F = 2)
        let on := s.domReady (radioDomain e.radio)
        let tx := e.action != 1
        let key := if e.radio = 1 ∧ s.radio.keyPort = none then 256 else 0
        let chk := if tx then s.checkTx e else (0, e.power, 0, 0)
        let denied := if obey && !gnt then 8 else 0
        let lost := if scope && !obey && !gnt then 16 else 0
        let bar := key ≠ 0 ∨ chk.1 % 2 = 1 ∨ chk.1 / 4 % 2 = 1 ∨ denied ≠ 0 ∨ on = false
        let flags := key + chk.1 + denied + lost
        let s := if denied = 0 then s else s.countUp 36 1
        let s := if chk.1 % 2 = 1 ∨ chk.1 / 4 % 2 = 1 then s.countUp 37 1 else s
        let s := if bar then s else s.chargeTx chk.2.2.2 chk.2.2.1
        let s := if e.radio = 1 ∧ !bar then { s with radio := { s.radio with antsel := e.antsel } } else s
        let s := if scope then { s with radio := { s.radio with coexReq := true, coexPri := e.pri } } else s
        let s := s.radioTo e.radio (if on then (if bar then 1 else if e.action = 1 ∨ e.action = 4 then 3 else 4) else 0)
        .next { s with radio := { s.radio with
          act := ainsert e.radio ⟨i, e, if e.action = 1 then 1 else 0, flags, if tx then chk.2.1 else 0, bar, []⟩ s.radio.act } }

/-- CAL_STALE as a flag of a radio's items (R242, R252): calibrations 0-2 are of the sub-GHz radio, 3 of UWB. -/
def State.calFlag (s : State) (r : Nat) : Nat :=
  if s.radio.cals.any fun c => c.2.2.2 && (if r = 0 then decide (c.1 < 3) else decide (c.1 = 3)) then 128 else 0

/-- The list ends with its last entry; the key port is zeroed at the end of a ranging session (R231). -/
def State.listEnd (s : State) : State :=
  match s.radio.running with
  | some (l, i) =>
    if l.entries.length ≤ i ∧ s.radio.act = [] then
      { s with radio := { s.radio with
        running := none, keyPort := if l.entries.any (·.radio == 1) then none else s.radio.keyPort } }
    else s
  | none => s

/-- A radio's activity leaves it: its leads negated but for those the other radio's activity holds, STANDBY where its domain is
on (R237, R250).
DEDUCED, log entry 89, unsafe. -/
def State.actClose (s : State) (r : Nat) : State :=
  let s := s.radioTo r (if s.domReady (radioDomain r) then 1 else 0)
  let left := aerase r s.radio.act
  let other := left.find? fun x => s.coexScope x.1
  { s with radio := { s.radio with act := left, coexReq := other.isSome, coexPri := other.elim false (·.2.what.pri) } }.listEnd

/-- RADIO_ACTIVITY_END: the activity of a radio ends and produces its item; a transmit-then-receive entry goes on to
receive. A window's packets are reported when it ends. For UWB the round ends as measured: KIND, STS quality, timestamps, powers (R237, R252, R253).
DEDUCED, log entry 85, unsafe.
DEDUCED, log entry 86, unsafe.
DEDUCED, log entry 92, unsafe. -/
def execRadioActivityEnd (radio kind quality : Nat) (stamps : Bytes) (fp rx : Int) (s : State) : Out :=
  match alookup radio s.radio.act with
  | none => .next s
  | some a =>
    let flags := a.flags + s.calFlag radio
    if radio = 0 then
      if a.entry = 0xFF then .next (s.actClose 0)
      else if a.refused then
        let s := s.uhfDone 5 a.entry flags a.power 0 0 []
        let s := if a.what.action = 2 then s.uhfDone 5 a.entry flags 0 0 0 [] else s
        .next (s.actClose 0)
      else if a.part = 0 then
        let s := (s.countUp 30 1).uhfDone 0 a.entry flags a.power 0 0 []
        if a.what.action = 2 then
          .next { s.radioTo 0 3 with radio := { (s.radioTo 0 3).radio with
            act := ainsert 0 { a with part := 1, power := 0, flags := a.flags / 16 % 2 * 16 } s.radio.act } }
        else .next (s.actClose 0)
      else
        let s := if a.heard = [] then s.uhfDone 2 a.entry flags a.power 0 0 []
          else a.heard.foldl (fun s h =>
            s.uhfDone h.1 a.entry flags a.power (intOf (slice h.2.1 0 2)) (intOf (slice h.2.1 2 2)) h.2.2) s
        .next (s.actClose 0)
    else
      let role := if a.what.action = 3 then 0 else 1
      let on := s.domReady 9
      let v := if !on then uwbItem 1 a.entry flags role 0 [] 0 0
        else if a.refused then uwbItem 2 a.entry flags role 0 [] 0 0
        else uwbItem (if kind = 0 ∨ kind = 3 then kind else 1) a.entry flags role (min quality 100) stamps fp rx
      .next ((s.offerEvent 9 (32 * s.sys.cascId) v (radioLogged flags) 0 0).actClose 1)

/-- Every activity aborted: items flagged ABORTED, radios in STANDBY (R239).
DEDUCED, log entry 87, unsafe. -/
def State.radioAbortNow (s : State) : State :=
  let s := s.radio.act.foldl (fun s x =>
    let a := x.2
    let s := if x.1 = 0 then (if a.entry = 0xFF then s else s.uhfDone (if a.part = 0 then 0 else 2) a.entry (a.flags + 32) a.power 0 0 [])
      else s.offerEvent 9 (32 * s.sys.cascId) (uwbItem 1 a.entry (a.flags + 32) (if a.what.action = 3 then 0 else 1) 0 [] 0 0) 99 0 0
    s.radioTo x.1 (if s.domReady (radioDomain x.1) then 1 else 0)) s
  { s with radio := { s.radio with running := none, act := [], keyPort := none, coexReq := false, coexPri := false } }

/-- A packet's bytes checked: LEN 1-64 and CRC-16 over LEN and payload (R234). -/
def packetParse (rx : Bytes) : Option Bytes :=
  let n := byteAt rx 0
  if 1 ≤ n ∧ n ≤ 64 ∧ n + 3 ≤ rx.length ∧ crc16 (slice rx 0 (n + 1)) = beNat (slice rx (n + 1) 2) then some (slice rx 1 n)
  else none

/-- A payload matches the sniff pattern under its mask (R249). -/
def State.sniffMatch (s : State) (p : Bytes) : Bool :=
  let m := s.raw 0x28000C
  let v := s.raw 0x28000B
  decide (4 ≤ p.length) && (List.range 4).all fun i => (byteAt p i &&& byteAt m i) == (byteAt v i &&& byteAt m i)

/-- PACKET_RECEIVED: the bytes after SYNC of a packet heard while the sub-GHz receiver is open. In a list's window they
are the activity's result; in a sniff window a match is a wake telegram, which in standby counts only where it may
wake the device (R234, R249, R252).
DEDUCED, log entry 85, unsafe.
DEDUCED, log entry 88, unsafe.
DEDUCED, log entry 92, unsafe. -/
def execPacketReceived (rx : Bytes) (rssi off : Int) (s : State) : Out :=
  match alookup 0 s.radio.act with
  | none => .next s
  | some a =>
    if a.part ≠ 1 ∨ a.refused then .next s
    else
      let p := packetParse rx
      let s := if p.isSome then s.countUp 31 1 else s.countUp 32 1
      if a.entry = 0xFF then
        match p with
        | some b =>
          if s.sniffMatch b && (s.sys.power != .standby || (s.num 0x120008).testBit 1) then
            .next ((s.countUp 35 1).uhfDone 4 0xFF (s.calFlag 0) 0 rssi off b)
          else .next s
        | none => .next s
      else
        let h := match p with
          | some b => (1, beInt 2 rssi ++ beInt 2 off, b)
          | none => (3, beInt 2 0 ++ beInt 2 0, [])
        .next { s with radio := { s.radio with act := ainsert 0 { a with heard := a.heard ++ [h] } s.radio.act } }

/-- RADIO_SLEEP: a radio in STANDBY with no activity due within 1,000 µs returns to SLEEP (R237). -/
def execRadioSleep (radio : Nat) (s : State) : Out :=
  let due := match s.radioHead with
    | none => false
    | some (l, i) => (l.entries.drop i).any fun e => e.radio == radio && (e.relative || decide (e.start ≤ s.sys.stroke + s.msStrokes 1))
  if radio < 2 ∧ s.radioState radio = 1 ∧ (alookup radio s.radio.act).isNone ∧ due = false then .next (s.radioTo radio 0)
  else .next s

/-- CALIBRATION: a due calibration (0 DC offset, 1 image rejection, 2 PA, 3 UWB TX power) runs in an idle gap; `temp` is
the sensor's reading (R242).
DEDUCED, log entry 90, unsafe. -/
def execCalibration (n : Nat) (temp : Int) (s : State) : Out :=
  let r := if n < 3 then 0 else 1
  let last := alookup n s.radio.cals
  let due := last.elim true fun x =>
    decide (x.1 + s.secStrokes (s.num 0x280013) ≤ s.sys.stroke) || decide ((s.num 0x280014 : Int) ≤ |temp - x.2.1|)
  let exch := (s.radio.running.elim false (·.1.exchange)) || (s.radio.next.elim false (·.exchange))
  let soon := s.radioHead.elim false fun x => (x.1.entries.drop x.2).any fun e => e.radio == r && decide (e.start ≤ s.sys.stroke + 1)
  let s := { s with radio := { s.radio with temp := temp } }
  if n < 4 ∧ due = true ∧ exch = false ∧ soon = false ∧ s.radioState r ≤ 1 ∧ (alookup r s.radio.act).isNone ∧
      s.domReady (radioDomain r) = true then
    .next { s with radio := { s.radio with cals := ainsert n (s.sys.stroke, temp, false) s.radio.cals } }
  else .next s

/-- CAL_STALE: a calibration due for longer than four intervals is stale until it runs (R242).
DEDUCED, log entry 90, unsafe. -/
def execCalStale (n : Nat) (s : State) : Out :=
  let x := (alookup n s.radio.cals).getD (0, 0, false)
  if n < 4 ∧ x.2.2 = false ∧ x.1 + s.secStrokes (5 * s.num 0x280013) < s.sys.stroke then
    let s := { s with radio := { s.radio with cals := ainsert n (x.1, x.2.1, true) s.radio.cals } }
    .next (s.later (s.recEvent 7 0 n))
  else .next s

/-- CAL_STATE (R254). -/
def State.calState (s : State) : Nat :=
  (List.range 4).foldl (fun v n => setBit v n ((alookup n s.radio.cals).elim false (·.2.2))) 0

/-- SNIFF_WINDOW: every 250 ms, a 2,000 µs receive window opens while sniffing is permitted, unless it would overlap an
entry of a list with the 75 µs that enter it, in which case it is skipped and counted (R248). While strokes run it takes part in coexistence with PRI 0, and
in obey mode a low COEX_GNT (`gnt`) denies it (R250, R251).
DEDUCED, log entry 84, unsafe.
DEDUCED, log entry 88, unsafe. -/
def execSniffWindow (gnt : Bool) (s : State) : Out :=
  let due := s.sys.power == .standby || (s.sys.power == .running && decide (s.sys.stroke % s.msStrokes 250 = 0))
  if s.num 0x28000A = 1 ∧ s.regBlocked = false ∧ due = true ∧ (s.sys.power = .standby ∨ s.domReady 8 = true) then
    let tick := 10 * s.strokeUs
    let near (e : RadioEntry) : Bool :=
      e.radio == 0 && (e.relative || decide (e.start * tick + e.offset < s.sys.stroke * tick + 20000 + 750))
    let clash := (alookup 0 s.radio.act).isSome || s.radioHead.elim false fun x => (x.1.entries.drop x.2).any near
    let pend := s.radio.running.isSome && s.radio.next.elim false fun l => l.entries.any near
    let scope := s.coexScope 0 && s.sys.power == .running
    if clash || pend then .next (s.countUp 34 1)
    else if scope && decide (s.num 0x28000F = 2) && !gnt then .next (s.countUp 36 1)
    else
      let e : RadioEntry := ⟨0, 1, false, s.sys.stroke, 0, s.num 0x280003, s.num 0x280004, s.num 0x280005, s.num 0x280006,
        0, 0, 0, [], 2000, false, false, s.num 0x280008⟩
      let s := (s.countUp 33 1).radioTo 0 3
      let s := if scope then { s with radio := { s.radio with coexReq := true, coexPri := false } } else s
      .next { s with radio := { s.radio with act := ainsert 0 ⟨0xFF, e, 1, 0, 0, false, []⟩ s.radio.act } }
  else .next s

/-- COEX_GNT_LOST: COEX_GNT falls during an activity in scope: COEX_LOST is flagged, and in obey mode a transmission ends
(R251). -/
def execCoexGntLost (s : State) : Out :=
  .next (s.radio.act.foldl (fun s x =>
    if s.coexScope x.1 && !x.2.refused then
      let s := { s with radio := { s.radio with
        act := ainsert x.1 { x.2 with flags := x.2.flags ||| 16 } s.radio.act } }
      if s.num 0x28000F = 2 ∧ x.2.part = 0 then s.radioTo x.1 1 else s
    else s) s)

end Sys2Proof.Machine
end

