-- ==== Sys2Proof/Machine/Tokens.lean ====
section
/-!
DEFINITION. Tokens.lean: the token banks and key records of Inkwell (R284-R288), roles, validity windows, Countersign
membership and protection (R289, R290).
-/

namespace Sys2Proof.Machine

/-! ## The banks (R285, R286) -/

/-- LEARN_EPOCH (R284). -/
def State.epoch (s : State) : Nat := s.tally 8

/-- The 3,360 bytes of a bank; none where a pair has no complete copy. -/
def State.bank (s : State) (b : Nat) : Option Bytes :=
  (List.range 14).foldl (fun acc i => match acc, s.ink.payload (pairPage 0 (14 * b + i)) with
    | some x, some y => some (x ++ padTo 240 y)
    | _, _ => none) (some [])

/-- Every pair of a bank is empty, as manufactured. -/
def State.bankEmpty (s : State) (b : Nat) : Bool :=
  (List.range 28).all fun i => (alookup (pairPage 0 (14 * b) + i) s.ink.pages).isNone

/-- The digest a bank's header carries over bytes 40-3,239. -/
def bankDigest (b : Bytes) : Bytes := sha256 (slice b 40 3200)

/-- Whether a bank is valid for an epoch (R286). -/
def State.bankValid (s : State) (b epoch : Nat) : Bool :=
  (epoch == 0 && s.bankEmpty b) ||
    match s.bank b with
    | none => false
    | some x => leNat (slice x 0 4) == epoch % 2 ^ 32 && slice x 4 32 == bankDigest x

/-- The active bank (R286). -/
def State.activeBank (s : State) : Nat := s.epoch % 2

/-- Record `slot` of the active bank: 50 bytes, zeros where the bank is empty. -/
def State.tokenRec (s : State) (slot : Nat) : Bytes :=
  match s.bank s.activeBank with
  | some x => slice x (40 + 50 * slot) 50
  | none => zeros 50

/-- KEY_STATE of a token slot: BAD while the active bank is invalid (R286). -/
def State.tokenState (s : State) (slot : Nat) : Nat :=
  if !s.tether.setValid then 2 else if byteAt (s.tokenRec slot) 33 = 1 then 1 else 0

/-- Role of a slot, 0xFF where it is not LOADED (R308). -/
def State.tokenRole (s : State) (slot : Nat) : Nat := if s.tokenState slot = 1 then byteAt (s.tokenRec slot) 32 else 0xFF

/-- A validity bound: boot count and sheet number (R285). -/
def bound (r : Bytes) (i : Nat) : Nat × Nat := (leNat (slice r i 4), leNat (slice r (i + 4) 4))

/-- Lexicographic order of pairs. -/
def pairLe (a b : Nat × Nat) : Bool := decide (a.1 < b.1) || (a.1 == b.1 && decide (a.2 ≤ b.2))

/-- An open-ended UNTIL. -/
def openEnded (u : Nat × Nat) : Bool := u == (2 ^ 32 - 1, 2 ^ 32 - 1)

/-- The stamp of the running stroke lies in a slot's validity window (R288). -/
def State.inWindow (s : State) (slot : Nat) : Bool :=
  let r := s.tokenRec slot
  let now := (s.boot, min (s.sys.stroke / 64) (2 ^ 32 - 1))
  let u := bound r 42
  pairLe (bound r 34) now && (openEnded u || (pairLe now u && decide (s.boot ≠ 2 ^ 32 - 1)))

/-- FROM then UNTIL as the Ledger reads them: fields most significant byte first (R100, R308). -/
def State.tokenValidity (s : State) (slot : Nat) : Bytes :=
  let r := s.tokenRec slot
  let f := bound r 34
  let u := bound r 42
  beBytes 4 f.1 ++ beBytes 4 f.2 ++ beBytes 4 u.1 ++ beBytes 4 u.2

/-- A role's rights (R287): bit 0 entry, 1 start by remote token, 2 start by cradle. -/
def State.roleRights (s : State) (role : Nat) : Nat := if role < 4 then byteAt (s.raw 0x300003) role else 0

/-! ## Key records of slots 0x40-0xFF (R285) -/

/-- Offset and length of a slot's record in the byte stream of pairs 28-63. -/
def keyRecAt (slot : Nat) : Nat × Nat :=
  if slot < 0x48 then (38 * (slot - 0x40), 38)
  else if slot < 0x50 then (228 + 38 * (slot - 0x48), 38)
  else (532 + 46 * (slot - 0x50), 46)

/-- Length code of CTL. -/
def lenCode (n : Nat) : Nat := match n with | 16 => 1 | 24 => 2 | 32 => 3 | _ => 0

/-- A record's bytes. -/
def keyRecBytes (slot : Nat) (k : KeySlot) : Bytes :=
  padTo 32 k.key ++ leBytes 2 (k.modes + lenCode k.key.length * 2 ^ 10 + k.state * 2 ^ 12) ++ leBytes 4 k.gen ++
    (if slot < 0x50 then [] else leBytes 8 k.map)

/-- A slot from its record's bytes. -/
def keyRecOf (slot : Nat) (b : Bytes) : KeySlot :=
  let ctl := leNat (slice b 32 2)
  let n := [0, 16, 24, 32].getD (ctl / 2 ^ 10 % 4) 0
  ⟨b.take n, ctl / 2 ^ 12 % 4, leNat (slice b 34 4), if slot < 0x50 then 0 else leNat (slice b 38 8), ctl % 2 ^ 10⟩

/-- Payload of pair 28 + `i` of the key records, zeros where it was never written. -/
def State.keyPair (s : State) (i : Nat) : Bytes := padTo 240 ((s.ink.payload (pairPage 0 (28 + i))).getD [])

/-- A pair that was written and cannot be read (R163, R189). -/
def State.keyPairBad (s : State) (i : Nat) : Bool :=
  (s.ink.payload (pairPage 0 (28 + i))).isNone &&
    ((alookup (pairPage 0 (28 + i)) s.ink.pages).isSome || (alookup (pairPage 0 (28 + i) + 1) s.ink.pages).isSome)

/-- The payload of such a pair as the units of this stroke have staged it, so that two records of one pair both stand. -/
def State.keyPairNow (s : State) (i : Nat) : Bytes :=
  (s.staged.flatMap (·.pairs)).foldl (fun b w => if w.region = 0 ∧ w.pair = 28 + i then padTo 240 w.payload else b) (s.keyPair i)

/-- The pairs written to store a slot's record, with their contents (R285). -/
def State.keyWrites (s : State) (slot : Nat) (k : KeySlot) : List PairWrite :=
  let at' := keyRecAt slot
  let p0 := at'.1 / 240
  let p1 := (at'.1 + at'.2 - 1) / 240
  let both := s.keyPairNow p0 ++ s.keyPairNow (p0 + 1)
  let o := at'.1 % 240
  let new := both.take o ++ keyRecBytes slot k ++ both.drop (o + at'.2)
  ⟨0, 28 + p0, new.take 240⟩ :: (if p1 = p0 then [] else [⟨0, 28 + p1, slice new 240 240⟩])

/-- The slots read back from their records at boot; BAD where a record is unreadable (R189). -/
def State.keysRead (s : State) : State :=
  let one (slot : Nat) : Option (Nat × KeySlot) :=
    if slot = 0x46 ∨ slot = 0x47 then none
    else
      let a := keyRecAt slot
      let p0 := a.1 / 240
      let p1 := (a.1 + a.2 - 1) / 240
      if s.keyPairBad p0 || s.keyPairBad p1 then some (slot, ⟨[], 2, 0, 0, 0⟩)
      else
        let k := keyRecOf slot (slice (s.keyPair p0 ++ s.keyPair (p0 + 1)) (a.1 % 240) a.2)
        if k = ⟨[], 0, 0, 0, 0⟩ then none else some (slot, k)
  { s with quill := { s.quill with slots := (List.range 192).filterMap fun i => one (0x40 + i) } }

/-- A key slot as an operation reads it: token slots from the active bank, with LEARN_EPOCH as generation (R284, R189). -/
def State.slotView (s : State) (n : Nat) : KeySlot :=
  if n < 64 then
    let st := s.tokenState n
    ⟨if st = 1 then (s.tokenRec n).take 32 else [], st, s.epoch % 2 ^ 32, 0, 0⟩
  else s.keySlot n

/-! ## Protection and membership (R289, R290) -/

/-- SEALED: Tally counter 11 is not zero. -/
def State.isSealed (s : State) : Bool := s.tally 11 != 0

/-- Whether a principal is a member as committed: a LOADED admin slot, or a LOADED host slot with its bit set. -/
def State.isMember (s : State) (p : Nat) : Bool :=
  if p < 0x40 then s.tokenRole p == 2
  else decide (p < 0x44) && (s.num 0x680002).testBit (p - 0x40) && (s.slotView p).state == 1

/-- CS_MEMBERS_COUNT. -/
def State.members (s : State) : Nat := ((List.range 0x44).filter s.isMember).length

end Sys2Proof.Machine
end

