-- ==== Sys2Proof/Machine/Tether.lean ====
section
/-!
DEFINITION. Tether.lean: polls and exchanges, their plan, messages, keyed ranging, zone maps, the decision and the lockout
ladder (R256-R283).
-/

namespace Sys2Proof.Machine

/-! ## Configuration digest (R47) -/

/-- The keys of the RW and RWC objects Inkwell persists, ascending: those of Ledger persistence, the regulatory objects
and the maps and masks of the key records. -/
def configKeys : List Nat :=
  ((objTable.filter fun d => (d.acc == .rw || d.acc == .rwc) && (d.persisted || (decide (d.idxLo = 0x2880)) ||
      decide (0x3842 ≤ d.idxLo ∧ d.idxHi ≤ 0x3845))).flatMap fun d =>
    (List.range (d.idxHi + 1 - d.idxLo)).flatMap fun i => (List.range (d.subHi + 1 - d.subLo)).map fun j =>
      (d.idxLo + i) * 256 + d.subLo + j).mergeSort fun a b => decide (a ≤ b)

/-- Slot and field of a KEY_TENANTS or KEY_MODES object: the slot number. -/
def keyObjSlot (key : Nat) : Nat := key % 256 - 1 + (key / 256 % 2) * 128

/-- The committed value of a configuration object. -/
def State.configValue (s : State) (key : Nat) : Bytes :=
  if 0x3842 ≤ key / 256 ∧ key / 256 ≤ 0x3843 then beBytes 8 (s.slotView (keyObjSlot key)).map
  else if 0x3844 ≤ key / 256 ∧ key / 256 ≤ 0x3845 then beBytes 2 (s.slotView (keyObjSlot key)).modes
  else s.raw key

/-- CONFIG_DIGEST: SHA-256 over index, sub-index and value of each, in ascending order. -/
def State.configDigest (s : State) : Bytes :=
  sha256 (configKeys.flatMap fun k => beBytes 3 k ++ s.configValue k)

/-! ## Lockout state (R279-R282) -/

/-- Lockout is active while LOCK_IMPOSED_S exceeds LOCK_SERVED_S. -/
def State.lockedOut (s : State) : Bool := decide (s.tally 6 < s.tally 5)

/-- A lockout counter has stuck, which makes every exchange refuse (R279).
DEDUCED, log entry 101, unsafe. -/
def State.lockStuck (s : State) : Bool := (List.range 7).any fun i => decide (2 ^ 48 - 1 ≤ s.tally (i + 1))

/-- What a counted failure raises, and the window after it (R280).
DEDUCED, log entry 101, unsafe. -/
def State.countFailure (s : State) : List CellWrite × Option Nat × Bool :=
  let f := s.tally 1 + 1
  let w := if f = s.tally 2 + 1 then some s.sys.stroke else s.tether.window
  if w.isSome && decide (s.num 0x340001 ≤ f - s.tally 2) then
    let l := s.tally 3 - s.tally 4
    ([.tally 1 f, .tally 5 (min (2 ^ 48 - 1) (s.tally 5 + min (s.num 0x340003 * 2 ^ l) (s.num 0x340004))), .tally 3 (s.tally 3 + 1), .tally 2 f],
      none, true)
  else ([.tally 1 f], w, false)

/-- LOCKOUT_WINDOW_CLOSE: a window whose LOCKOUT_WINDOW_S has passed closes, and its failures are discharged (R280).
DEDUCED, log entry 19, unsafe. -/
def execLockoutWindowClose (s : State) : Out :=
  match s.tether.window with
  | some w =>
    if s.working && decide (w + s.secStrokes (s.num 0x340002) ≤ s.sys.stroke) then
      .next (s.stage { plainUnit 0x0E000000 [.lockWindow none] [] with cells := [.tally 2 (s.tally 1)] })
    else .next s
  | none => .next s

/-- LOCKOUT_SECOND_SERVED: while lockout is active, the Commit that ends a second of strokes raises LOCK_SERVED_S by one
(R281).
DEDUCED, log entry 101, unsafe. -/
def execLockoutSecondServed (s : State) : Out :=
  if s.working && s.lockedOut && decide ((s.sys.stroke + 1) % s.secStrokes 1 = 0) then
    .next (s.stage { plainUnit 0x0E000000 [] [] with cells := [.tally 6 (s.tally 6 + 1)] })
  else .next s

/-- A countersigned LOCKOUT_CLEAR of 1: served up to imposed, discharged up to failures, base up to lockouts, CLEARS up
by one (R282). -/
def State.opLockoutClear (s : State) (v : Bytes) : OpResult :=
  if beNat v = 1 then
    ⟨stOK, [.lockWindow none], [],
      [.tally 6 (s.tally 5), .tally 2 (s.tally 1), .tally 4 (s.tally 3), .tally 7 (min (2 ^ 48 - 1) (s.tally 7 + 1))], []⟩
  else .ok []

/-! ## Wake telegrams (R256, R258) -/

/-- The three bytes of CAR_ID as packets carry them. -/
def State.carId (s : State) : Bytes := (s.raw 0x2C0001).drop 1

/-- Slot and TN of a wake telegram for this car.
DEDUCED, log entry 98, unsafe. -/
def State.wakeParse (s : State) (p : Bytes) : Option (Nat × Bytes) :=
  if p.length = 12 ∧ byteAt p 0 = 1 ∧ slice p 1 3 = s.carId ∧ byteAt p 4 < 64 then some (byteAt p 4, slice p 6 6) else none

/-- A gathered item as an input (R451). -/
def State.input (s : State) (i : Item) : Input := ⟨s.sys.stroke, i.key, i.val⟩

/-- A wake telegram that a gathered item carries is held for its slot (R258).
DEDUCED, log entry 23, unsafe. -/
def State.holdWake (s : State) (i : Item) : State :=
  let p := slice i.val 10 (byteAt i.val 9)
  if i.cls = 8 ∧ (byteAt i.val 0 = 4 ∨ byteAt i.val 0 = 1) then
    match s.wakeParse p with
    | some (slot, tn) => { s with tether := { s.tether with held := ainsert slot ⟨s.sys.stroke, tn, s.input i, s.configDigest⟩ s.tether.held } }
    | none => s
  else s

/-- The held telegram gathered most recently, the lowest slot among those of one stroke (R259).
DEDUCED, log entry 98, unsafe. -/
def State.newestWake (s : State) : Option (Nat × Wake) :=
  s.tether.held.foldl (fun best w =>
    if w.2.stroke + s.secStrokes 30 < s.sys.stroke then best
    else match best with
      | none => some w
      | some b => if b.2.stroke < w.2.stroke then some w else some b) none

/-- HELD_TELEGRAM_EXPIRY: a telegram gathered 30 s ago is no longer held (R258).
DEDUCED, log entry 98, unsafe. -/
def execHeldTelegramExpiry (slot : Nat) (s : State) : Out :=
  match alookup slot s.tether.held with
  | some w =>
    if w.stroke + s.secStrokes 30 ≤ s.sys.stroke then .next { s with tether := { s.tether with held := aerase slot s.tether.held } }
    else .next s
  | none => .next s

/-! ## The plan (R260, R261, R268) -/

/-- Slots of a pattern that are reported (R260). -/
def reported (p : Bytes) : Nat := min (byteAt p 3) 13

/-- Duration of `n` LF bit times in 100 ns, rounded up. -/
def lfTicks (carrier n : Nat) : Nat := if carrier = 0 then n * 2560 else (n * 3400000 + 1341) / 1342

/-- Duration of the sub-GHz packet with `len` payload bytes in 100 ns. -/
def State.airTicks (s : State) (len : Nat) : Nat := s.packetBits len * 10000000 / max 1 (s.num 0x280005)

/-- Start of the challenge and end of the response, in 100 ns from the boundary that opens stroke a + 1 (R261). -/
def State.plan (s : State) (pattern : Nat) : Nat × Nat :=
  let p := s.raw (0x201001 + pattern)
  let l := 10 * s.strokeUs
  let bits := 28 + 8 * 4 + byteAt p 3 * (1 + byteAt p 2)
  let dur := (s.packetBits 30 + s.packetBits (23 + 3 * reported p)) * 10000000 / max 1 (s.num 0x280005) + 4000
  let eMin := 2000 + lfTicks s.lf.carrier bits + 2000 + dur
  let off := l / 10 + l / 2
  let e := (eMin - off + l - 1) / l * l + off
  (e - dur, e)

/-- The response stroke r of an exchange that starts in stroke `a`. -/
def State.responseStroke (s : State) (a pattern : Nat) : Nat := a + 2 + (s.plan pattern).2 / (10 * s.strokeUs)

/-- Anchors per exchange (R268). -/
def State.anchorLimit (s : State) : Nat := match s.sys.len with | 0 => 2 | 1 => 5 | _ => 8

/-- The commissioning run in progress on a pattern (R307). -/
def State.commissioning (s : State) (pattern : Nat) : Bool :=
  (s.openEntry 7).isSome && byteAt (s.raw 0x2C2101) 0 == pattern

/-- The zone maps of a pattern: number and value. -/
def State.zoneMaps (s : State) (pattern : Nat) : List Bytes :=
  ((List.range 8).map fun i => s.raw (0x2C1001 + i)).filter fun z => byteAt z 0 != 0 && byteAt z 1 == pattern

/-- ANCHOR and MAX_CM of entry `k` of a zone map. -/
def zoneAnchor (z : Bytes) (k : Nat) : Nat × Nat := (byteAt z (28 + 3 * k), beNat (slice z (29 + 3 * k) 2))

/-- The anchors of an exchange, ascending, up to the limit; every admitted anchor while commissioning (R268, R307). -/
def State.exchangeAnchors (s : State) (pattern : Nat) : List Nat :=
  let named := if s.commissioning pattern then
      (List.range 8).filterMap fun n => if n = s.sys.cascId ∨ s.slaveUp n = true then some (32 * n) else none
    else (s.zoneMaps pattern).flatMap fun z => ((List.range 8).map fun k => (zoneAnchor z k).1).filter (· != 0xFF)
  (((List.range 256).filter fun a => named.contains a)).take s.anchorLimit

/-- A radio entry of the committed sub-GHz profile.
DESIGN CHOICE, log entry 95, unsafe. -/
def State.uhfEntry (s : State) (action start offset : Nat) (buf : Bytes) (window : Nat) : RadioEntry :=
  ⟨0, action, false, start, offset, s.num 0x280003, s.num 0x280004, s.num 0x280005, s.num 0x280006, s.int 0x280007, 0, 0, buf,
    window, false, Config.exchangePri, s.num 0x280008⟩

/-- A ranging entry of this exchange: round `k` at O + 700 µs × k, O 200 µs into stroke r + 2 (R261, R269).
DESIGN CHOICE, log entry 95, unsafe. -/
def State.roundEntry (s : State) (r k : Nat) : RadioEntry :=
  let t := 2000 + 7000 * k
  let l := 10 * s.strokeUs
  ⟨1, 3, false, r + 2 + t / l, t % l, s.num 0x28000D, 0, 0, 0, (s.num 0x28000E : Nat), 9 + Config.rangeCode.val, 64, [], 690,
    Config.rangeAntsel, Config.exchangePri, 0⟩

/-- The LF telegram payload (R262). -/
def lfPayload (slot : Nat) (p ln : Bytes) : Bytes := beBytes 1 slot ++ beBytes 1 (byteAt p 2 * 32 + reported p) ++ ln

/-- The challenge payload (R263). -/
def State.challenge (s : State) (slot na : Nat) (c dn : Bytes) : Bytes :=
  [2] ++ s.carId ++ beBytes 1 slot ++ beBytes 1 na ++ c ++ dn

/-- A slave's LF part: the telegram if it carries it, then each of its bursts with start and length in CK_LF cycles
from the boundary (R425). -/
def State.slaveLf (s : State) (n : Nat) (p payload : Bytes) : Bytes :=
  let bit := if s.lf.carrier = 0 then 2048 else 2176
  let start := if s.lf.carrier = 0 then 1600 else 1718
  let tel := byteAt p 0
  let telBits := 28 + 8 * payload.length
  let mine (b : Nat) : Bool := b != 0xFF && b / 32 == n
  (if mine tel then beBytes 1 payload.length ++ payload ++ beBytes 1 tel ++ beBytes 1 (byteAt p 1) ++ beBytes 4 start ++ beBytes 4 (telBits * bit)
    else [0]) ++
    (List.range (byteAt p 3)).flatMap fun k =>
      let at' := start + (telBits + k * (1 + byteAt p 2) + 1) * bit
      ([byteAt p (4 + 3 * k), byteAt p (5 + 3 * k)].filter mine).flatMap fun b =>
        beBytes 1 b ++ beBytes 1 (byteAt p (6 + 3 * k)) ++ beBytes 4 at' ++ beBytes 4 (byteAt p 2 * bit)

/-- A slave's UWB entry as RADIO_LIST carries it (log entry 13): stroke, offset in 100 ns, channel, preamble code, STS
units, power code. -/
def entryBytes (e : RadioEntry) : Bytes :=
  beBytes 6 e.start ++ beBytes 4 e.offset ++ beBytes 1 e.channel ++ beBytes 1 e.code ++ beBytes 1 e.sts ++ beInt 1 e.power

/-- The exchange's schedules: LF pattern, radio list, and every slave's parts (R261, R433). The response window opens no earlier
than 72 µs after the challenge, so that the list passes R240 at every stroke length.
DEDUCED, log entry 94, unsafe. -/
def State.planEffects (s : State) (x : Exchange) : List Effect :=
  let p := s.raw (0x201001 + x.pattern)
  let pl := s.plan x.pattern
  let l := 10 * s.strokeUs
  let r := s.responseStroke x.a x.pattern
  let tr := s.airTicks (23 + 3 * reported p)
  let lead := min (l / 4) 3280
  let w := pl.2 - tr - lead
  let rounds := x.anchors.zipIdx
  let own := (rounds.filter fun y => y.1 / 32 == s.sys.cascId).map fun y => s.roundEntry r y.2
  let payload := lfPayload x.slot p x.ln
  let list : RadioList := ⟨[s.uhfEntry 0 (x.a + 1 + pl.1 / l) (pl.1 % l) (s.challenge x.slot x.anchors.length x.c x.dn) 10,
    s.uhfEntry 1 (x.a + 1 + w / l) (w % l) [] ((tr + lead + l / 4) / 10)] ++ own, true⟩
  let slaves := (List.range 8).filter fun n => n != s.sys.cascId && s.slaveUp n
  [.lfSchedule ⟨1, x.pattern, x.a + 1, 200, payload, []⟩, .radioList list] ++
    slaves.flatMap fun n =>
      let lf := s.slaveLf n p payload
      let rs := (rounds.filter fun y => y.1 / 32 == n).flatMap fun y => entryBytes (s.roundEntry r y.2)
      (if lf = [0] then [] else [.poleSend ⟨4, n, false, x.a + 1, lf⟩]) ++ (if rs = [] then [] else [.poleSend ⟨5, n, false, x.a + 1, rs⟩])

/-! ## Starting an exchange (R259, R276, R277) -/

/-- A fresh exchange of a kind in the running stroke. -/
def State.newExchange (s : State) (kind origin pattern : Nat) (pos : Option Nat) (inputs : List Input) : Exchange :=
  ⟨kind, origin, pos, .running, s.sys.stroke, 0, false, pattern, [], [], [], [], [], none, none, s.lockedOut,
    s.epoch % 2 ^ 32, false, s.quill.drbgOk, none, none, none, false, false, s.configDigest, s.img.pair, 0, inputs⟩

/-- The input entry of the random bytes a unit took (R451). -/
def State.entropyInput (s : State) (b : Bytes) : Input := ⟨s.sys.stroke, 0x02000000, b⟩

/-- The exchange planned with the telegram chosen, under the configuration in force when its first input was gathered (R47);
none where the entropy block has too few bytes left.
DEDUCED, log entry 23, unsafe. -/
def State.startWith (s : State) (x : Exchange) (slot : Nat) (w : Wake) : Option (State × List Effect) :=
  match s.takeEntropy 26 with
  | none => none
  | some (b, s') =>
    let r := s.responseStroke s.sys.stroke x.pattern
    let x := { x with
      phase := .running, a := s.sys.stroke, slot := slot, found := true, anchors := s.exchangeAnchors x.pattern
      tn := w.tn, ln := b.take 2, c := slice b 2 16, dn := slice b 18 8, resp := some r, due := some (r + 6)
      lockout := s.lockedOut, gen := s.epoch % 2 ^ 32, badAtA := s.tokenState slot != 1, entropyOk := s.quill.drbgOk
      config := if w.stroke < x.a then w.config else x.config
      inputs := w.input :: x.inputs ++ [s.entropyInput b] }
    some (s', .exchange (some x) :: s.planEffects x)

/-- A refusal in preparation: no telegram was found, so no exchange starts, and the decision falls where a full exchange's
would (R276).
DEDUCED, log entry 93, unsafe. -/
def State.startEmpty (s : State) (x : Exchange) : List Effect :=
  [.exchange (some { x with phase := .answered, a := s.sys.stroke, found := false, lockout := false
                            due := some (s.responseStroke s.sys.stroke x.pattern + 6) })]

/-- A cradle exchange: D1 with CAR_ID and DN, D2 with C, or C′ for a countersign exchange (R277, R294). -/
def State.startCradle (s : State) (x : Exchange) (c : Option Bytes) : Option (State × List Effect) :=
  match s.takeEntropy (if c.isSome then 8 else 24) with
  | none => none
  | some (b, s') =>
    let dn := b.take 8
    let x := { x with
      kind := if c.isSome then 4 else 3, phase := .running, a := s.sys.stroke, found := true, c := c.getD (b.drop 8), dn := dn
      lockout := c.isNone && s.lockedOut, gen := s.epoch % 2 ^ 32, entropyOk := s.quill.drbgOk
      inputs := x.inputs ++ [s.entropyInput b] }
    let d1 : Bytes := [if c.isSome then 0x21 else 0x11] ++ s.carId ++ dn
    some (s', [.exchange (some x), .lfSchedule ⟨2, 0, s.sys.stroke + 1, 200, d1, x.c⟩])

/-- LF_CRADLE_CHANNEL names a channel. -/
def State.hasCradle (s : State) : Bool := s.num 0x200003 != 0xFF

/-- The receive window of a poll with no telegram held: WAKE_LISTEN_MS from offset 0 of the next stroke (R259). -/
def State.listenEffects (s : State) (x : Exchange) : List Effect :=
  [.exchange (some { x with phase := .listening }),
    .radioList ⟨[s.uhfEntry 1 (s.sys.stroke + 1) 0 [] (1000 * s.num 0x2C0003)], false⟩]

/-- The first step of a poll or start request (R259, R277).
DEDUCED, log entry 100, unsafe. -/
def State.begin (s : State) (x : Exchange) : Option (State × List Effect) :=
  if x.kind != 1 && s.bivouac then (if s.hasCradle then s.startCradle x none else some (s, s.startEmpty x))
  else match s.newestWake with
    | some (slot, w) => s.startWith x slot w
    | none => some (s, s.listenEffects x)

/-- ENTRY_ROUTE's pattern for a handle (R260).
DEDUCED, log entry 102, unsafe. -/
def State.route (s : State) (idx : Nat) : Option Nat :=
  (List.range 8).findSome? fun i =>
    let p := byteAt (s.raw (0x2C0801 + i)) 1
    if byteAt (s.raw (0x2C0801 + i)) 0 = idx ∧ p < 16 then some p else none

/-- POLL_START: the unit of a gathered TOUCH. It joins a running poll, is logged where a start exchange runs or is held
or no route names its handle, and else starts an exchange or opens a listen window (R25, R227, R259, R260). -/
def execPollStart (s : State) : Out :=
  match s.gathered.find? fun i => i.cls == 6 && i.aux == [2] with
  | none => .next s
  | some i =>
    if !s.working then .next s
    else
      let idx := i.idx
      let log := (s.consume i).stage (plainUnit i.key [] [s.recItem 12 i])
      match s.tether.run, s.tether.waiting, s.route idx with
      | none, none, some p =>
        let x := s.newExchange 1 idx p none [s.input i]
        match s.begin x with
        | some (s', effs) => .next ((s'.consume i).stage (plainUnit i.key effs []))
        | none => .next ((s.consume i).cancelItem i)
      | some x, none, _ => if x.kind = 1 then .next (s.consume i) else .next log
      | _, _, _ => .next log

/-- Whether a release of the start lock is in progress (R343). -/
def State.releasing (s : State) : Bool := (s.openEntry 2).isSome

/-- A write of 1 to START_REQUEST (R25, R111, R168, R259, R343, R479). OVERRUN: the entropy block has too few bytes left, so that the
whole unit runs again (R38). -/
def State.opStartRequest (s : State) (r : Requester) (v : Bytes) : OpResult × State :=
  if beNat v ≠ 1 then (.ok [], s)
  else if s.released then (.ok [], s)
  else if s.bivouac && !s.hasCradle then (.refuse stNOT_IN_BIVOUAC, s)
  else if s.releasing || s.tether.waiting.isSome || s.holdBlocks then (.refuse stBUSY, s)
  else match s.inflightSlot with
    | none => (.refuse stBUSY, s)
    | some pos =>
      let e := Effect.inflight pos (s.newEntry 2 3 0 0 r)
      match s.tether.run with
      | some _ => (.start [e, .holdStart (some ⟨some pos, 0⟩)], s)
      | none =>
        match s.begin (s.newExchange 2 0xFE (s.num 0x2C0004) (some pos) []) with
        | some (s', effs) => (.start (e :: effs), s')
        | none => (.refuse stOVERRUN, s)

/-- WAKE_LISTEN_END: the listen window's items are gathered. The exchange starts with the telegram chosen; a start with
none runs the cradle exchange where a channel is named; else the refusal is prepared (R259, R276, R277). -/
def execWakeListenEnd (s : State) : Out :=
  match s.tether.run with
  | some x =>
    let items := s.gathered.filter fun i => i.cls == 8 && byteAt i.val 0 != 4
    match items with
    | [] => .next s
    | i :: _ =>
      if s.working && x.phase == .listening then
        let x := { x with inputs := x.inputs ++ items.map s.input }
        let done := fun (s : State) => items.foldl State.consume s
        match s.newestWake with
        | some (slot, w) =>
          match s.startWith { x with inputs := x.inputs.filter fun j => j != w.input } slot w with
          | some (s', effs) => .next ((done s').stage (plainUnit i.key effs []))
          | none => .next (s.consume i |>.cancelItem i)
        | none =>
          if x.kind = 2 ∧ s.hasCradle = true then
            match s.startCradle x none with
            | some (s', effs) => .next ((done s').stage (plainUnit i.key effs []))
            | none => .next (s.consume i |>.cancelItem i)
          else .next ((done s).stage (plainUnit i.key (s.startEmpty x) []))
      else .next s
  | none => .next s

/-! ## The response (R264, R265, R267) -/

/-- N of an exchange: TN, LN and DN; TN and DN in a cradle exchange. -/
def Exchange.nonce (x : Exchange) : Bytes := x.tn ++ x.ln ++ x.dn

/-- Whether the exchange runs over the cradle. -/
def Exchange.cradle (x : Exchange) : Bool := x.kind == 3 || x.kind == 4

/-- The cradle items of the exchange, in order: U1 then U2. -/
def Exchange.uplinks (x : Exchange) : List Bytes :=
  (x.inputs.filter fun i => decide (i.key / 2 ^ 24 = 7) && byteAt i.val 0 == 3).map (·.val)

/-- Payload of an uplink item whose status is OK. -/
def uplinkPayload (v : Bytes) : Option Bytes :=
  if byteAt v 10 = 0 then some (slice v 12 (byteAt v 11)) else none

/-- The answer of an exchange as SLOT, CTR, NS, FV and MAC: the first packet of TYPE 0x03 for the challenged slot, or U1
and U2 (R264, R277).
DEDUCED, log entry 99, unsafe. -/
def Exchange.response (x : Exchange) : Option Bytes :=
  if x.cradle then
    match x.uplinks with
    | a :: b :: _ => match uplinkPayload a, uplinkPayload b with
      | some u1, some u2 => if u1.length = 11 ∧ u2.length = 16 then some ([0x13] ++ u1.take 5 ++ [0] ++ u2) else none
      | _, _ => none
    | _ => none
  else
    ((x.inputs.filter fun i => decide (i.key / 2 ^ 24 = 8) && byteAt i.val 0 == 1).map fun i => slice i.val 10 (byteAt i.val 9)).find?
      fun p => byteAt p 0 == 3 && byteAt p 1 == x.slot && decide (23 ≤ p.length)

/-- SLOT, CTR, NS, FV and MAC of an answer. -/
def answerSlot (p : Bytes) : Nat := byteAt p 1
def answerCtr (p : Bytes) : Nat := beNat (slice p 2 4)
def answerNs (p : Bytes) : Nat := byteAt p 6
def answerFv (p : Bytes) : Bytes := (p.drop 7).take (p.length - 23)
def answerMac (p : Bytes) : Bytes := p.drop (p.length - 16)

/-- The message M of R265.
DEDUCED, log entry 99, unsafe. -/
def State.macMessage (s : State) (x : Exchange) (p : Bytes) : Bytes :=
  let ty : Byte := if x.kind = 4 then 0x23 else if x.kind = 3 then 0x13 else 0x03
  [ty] ++ s.carId ++ beBytes 1 (answerSlot p) ++ x.c ++ slice p 2 4 ++ x.nonce ++ beBytes 1 (answerNs p) ++ answerFv p

/-- The label of the UWB session key (R267). -/
def stsLabel : Bytes := [0x54, 0x45, 0x54, 0x48, 0x45, 0x52, 0x2D, 0x53, 0x54, 0x53]

/-- RESPONSE_GATHERED: at stroke r the response is taken, the CMAC verification and the key derivation are queued on
queue 0 with the generation of stroke a, and the key context goes to every ACTIVE slave whose anchor takes part
(R264, R267, R278, R435). A lockout exchange verifies nothing.
DEDUCED, log entry 100, unsafe. -/
def execResponseGathered (s : State) : Out :=
  match s.tether.run with
  | some x =>
    if s.working && x.phase == .running && x.found && x.resp == some s.sys.stroke then
      let ans := x.response
      let x := { x with
        phase := .answered, answer := ans, due := some (s.sys.stroke + 6)
        slot := if x.cradle then ans.elim 0xFF answerSlot else x.slot
        badAtA := if x.cradle then ans.elim x.badAtA (fun p => s.tokenState (answerSlot p) != 1) else x.badAtA }
      let x := if x.cradle then { x with tn := ((x.uplinks.head?.bind uplinkPayload).getD []).drop 5 } else x
      let mac := match ans with
        | some p => if x.lockout then [] else
          [Effect.quillQueue ⟨0, 1, 9, answerSlot p, some x.gen, [], [], s.macMessage x p, answerMac p, 0, []⟩]
        | none => []
      let kdf := if x.cradle then [] else
        [Effect.quillQueue ⟨0, 2, 10, x.slot, some x.gen, [], [], stsLabel ++ [0] ++ x.c ++ x.nonce, [], 32, []⟩]
      let ctx := ((x.anchors.map (· / 32)).filter fun n => n != s.sys.cascId && s.slaveUp n).map fun n =>
        Effect.poleSend ⟨7, n, false, s.sys.stroke + 1, beBytes 1 x.slot ++ beBytes 4 x.gen ++ x.c ++ x.nonce⟩
      .next (s.stage (plainUnit 0x08000000 ((.exchange (some x) :: mac ++ kdf) ++ (if x.cradle then [] else ctx)) []))
    else .next s
  | none => .next s

/-! ## Distance and field (R270-R273) -/

/-- The distance of a ranging item in centimetres, none where it yields no distance (R270). -/
def State.distance (s : State) (anchor : Nat) (v : Bytes) : Option Int :=
  let t (i : Nat) : Nat := beNat (slice v (6 + 5 * i) 5)
  if byteAt v 0 ≠ 0 ∨ byteAt v 5 < s.num 0x2C0005 then none
  else
    let a : Int := ((t 1 + 2 ^ 40 - t 0) % 2 ^ 40 : Nat)
    let q : Int := ((t 3 + 2 ^ 40 - t 1) % 2 ^ 40 : Nat)
    if 2237 < q - 22364160 ∨ q - 22364160 < -2237 then none
    else
      let tof := (a - 4 * q / 7 - (s.num (0x2C1801 + anchor / 32) : Nat)) / 2
      let d := tof * 29979245800 / 63897600000
      if d < -30 then none else some d

/-- T of R271 for k from 0 to 24. -/
def fieldT : List Nat := [6, 6, 5, 5, 4, 4, 4, 3, 3, 3, 2, 2, 2, 2, 2, 1, 1, 1, 1, 1, 1, 1, 1, 1, 1]

/-- comb of R271. -/
def comb (p q : Nat) : Nat := min 255 (p + fieldT.getD (p - q) 0)

/-- The field magnitude of three axes (R271). -/
def fieldMagnitude (x y z : Nat) : Nat :=
  if x = 0 ∧ y = 0 ∧ z = 0 then 0
  else
    let hi := max x (max y z)
    let lo := min x (min y z)
    comb (comb hi (x + y + z - hi - lo)) lo

/-- M of a reported slot. -/
def slotM (fv : Bytes) (k : Nat) : Nat := fieldMagnitude (byteAt fv (3 * k)) (byteAt fv (3 * k + 1)) (byteAt fv (3 * k + 2))

/-- The flags that fail a slot: OPEN, SHORT, UNDERDRIVE, THERMAL, VLF_UNDER, VLF_OVER, LATCHED_OFF, ABSENT, ABORTED
(R273). -/
def slotFaults : Nat := 1 + 2 + 4 + 16 + 32 + 64 + 512 + 1024 + 2048

/-- Whether every item of slot `k` is present without a fault (R273). -/
def State.slotClean (s : State) (x : Exchange) (k : Nat) : Bool :=
  let p := s.raw (0x201001 + x.pattern)
  let chans := [byteAt p (4 + 3 * k), byteAt p (5 + 3 * k)].filter (· != 0xFF)
  chans != [] && chans.all fun c => x.inputs.any fun i =>
    decide (i.key / 2 ^ 16 = 0x700 + c) && byteAt i.val 0 == 1 && byteAt i.val 2 == k && (beNat (slice i.val 8 2) &&& slotFaults) == 0

/-- The ranging item of an anchor. -/
def Exchange.ranging (x : Exchange) (anchor : Nat) : Option Bytes :=
  (x.inputs.find? fun i => decide (i.key / 2 ^ 16 = 0x900 + anchor)).map (·.val)

/-- Whether a zone map is near (R273).
DEDUCED, log entry 99, unsafe.
DEDUCED, log entry 102, unsafe. -/
def State.near (s : State) (x : Exchange) (fv z : Bytes) : Bool :=
  ((List.range 13).all fun k =>
    let lo := byteAt z (2 + 2 * k)
    let hi := byteAt z (3 + 2 * k)
    (lo == 0xFF && hi == 0xFF) || (s.slotClean x k && decide (3 * k + 3 ≤ fv.length) && decide (lo ≤ slotM fv k ∧ slotM fv k ≤ hi))) &&
  (List.range 8).all fun k =>
    let a := zoneAnchor z k
    a.1 == 0xFF ||
      let lim := if k = 0 ∧ byteAt z 0 ≤ 3 then min a.2 (s.num 0x2C0002) else a.2
      ((x.ranging a.1).bind (s.distance a.1)).elim false fun d => decide (d ≤ (lim : Int))

/-- The resulting zone: the first accepted of cabin, boot, left, right; 0 none (R274). -/
def State.zone (s : State) (x : Exchange) (fv : Bytes) : Nat :=
  ([4, 3, 1, 2].find? fun n => (s.zoneMaps x.pattern).any fun z => byteAt z 0 == n && s.near x fv z).getD 0

/-! ## The decision (R274, R275) -/

/-- What a decision finds: reason, zone, whether a failure counts, whether MAC and counter were accepted. -/
structure Verdict where
  reason : Nat
  zone : Nat
  failure : Bool
  accepted : Bool
  deriving DecidableEq, Repr

/-- The epoch tag in force. -/
def State.epochTag (s : State) : Nat := s.epoch % 16

/-- A counter is accepted: stored < CTR ≤ stored + 65,536 (R266). -/
def ctrAccepted (stored ctr : Nat) : Bool := decide (stored < ctr) && decide (ctr ≤ stored + 65536)

/-- The conditions of R274 in their order.
DEDUCED, log entry 96, unsafe. -/
def State.judge (s : State) (x : Exchange) : Verdict :=
  let no (r : Nat) (f : Bool) : Verdict := ⟨r, 0, f, false⟩
  let stored := s.rolling x.slot s.epochTag
  if x.lockout then no 0x01 false
  else if !x.found then no 0x02 false
  else if s.quill.state != 0 || !x.entropyOk || x.missed || x.abandoned || s.lockStuck then no 0x0E false
  else match x.answer with
    | none => no 0x03 false
    | some p =>
      let st := s.tokenState x.slot
      if st ≠ 1 then no 0x04 x.badAtA
      else if x.gen ≠ s.epoch % 2 ^ 32 then no 0x08 false
      else match x.mac with
        | none => no 0x0E false
        | some (status, tag) =>
          if status = stKEY_STALE then no 0x08 false
          else if status = stNO_SUCH_OBJECT then no 0x04 false
          else if tag = 1 then no 0x05 true
          else if status ≠ stOK ∨ tag ≠ 0 then no 0x0E false
          else if 2 ^ 32 - 1 ≤ stored then no 0x07 false
          else if !ctrAccepted stored (answerCtr p) then no 0x06 true
          else
            let sts := !x.cradle && x.inputs.any fun i => decide (i.key / 2 ^ 24 = 9) && byteAt i.val 0 == 3
            let z := if x.cradle then 4 else s.zone x (answerFv p)
            let right := (s.roleRights (s.tokenRole x.slot)).testBit (x.kind - 1)
            let v (r : Nat) (f : Bool) : Verdict := ⟨r, z, f, true⟩
            if sts then v 0x09 true
            else if z = 0 then v 0x0A false
            else if (x.kind = 1 && z == 4) || (x.kind != 1 && z != 4) then v 0x0B false
            else if !right then v 0x0C false
            else if !s.inWindow x.slot then v 0x0D false
            else v 0 false

/-- The first break whose withdrawn strokes meet the exchange's span (R49, R450).
DEDUCED, log entry 24, unsafe. -/
def State.breakIn (s : State) (first : Nat) : Nat :=
  ((s.sys.spans.find? fun b => decide (first ≤ b.last ∧ b.first ≤ s.sys.stroke)).map (·.cause)).getD
    (if s.sys.pllSince.isSome then 6 else 0)

/-- The stroke of an exchange's first input. -/
def Exchange.first (x : Exchange) : Nat := x.inputs.foldl (fun m i => min m i.stroke) x.a

/-- An input entry of R451. -/
def inputEntry (first : Nat) (i : Input) : Bytes :=
  leBytes 2 (i.stroke - first) ++ leBytes 4 i.key ++ beBytes 1 i.val.length ++ i.val

/-- Input entries cut into parts of at most 200 bytes, none split (R451). -/
def inputParts (entries : List Bytes) : List Bytes :=
  let r := entries.foldl (fun (acc : List Bytes × Bytes) e =>
    if acc.2 ≠ [] ∧ 200 < acc.2.length + e.length then (acc.1 ++ [acc.2], e) else (acc.1, acc.2 ++ e)) ([], [])
  r.1 ++ [r.2]

/-- Order of inputs: stroke, then key. -/
def inputLe (a b : Input) : Bool := decide (a.stroke < b.stroke) || (a.stroke == b.stroke && decide (a.key ≤ b.key))

/-- The decision record (R450): part 0 and its input parts, with the REASON record of stream 1 (R452).
DEDUCED, log entry 16, safe. -/
def State.decisionRecs (s : State) (x : Exchange) (outcome zone reason after principal : Nat) (event : Bytes) : List NewRec :=
  let first := x.first
  let parts := inputParts ((x.inputs.mergeSort inputLe).map (inputEntry first))
  let n := parts.length + 1
  let brk := s.breakIn first
  let none' := x.slot = 0xFF ∨ !x.found
  let body := beBytes 1 x.kind ++ beBytes 1 outcome ++ beBytes 1 zone ++ beBytes 1 x.origin ++
    beBytes 1 (if none' then 0xFF else x.slot) ++ beBytes 1 (b2n (brk != 0)) ++ beBytes 1 brk ++ beBytes 1 n ++
    leBytes 6 first ++ zeros 2 ++ x.config ++ padTo 8 x.firmware ++ leBytes 4 (s.tally 8) ++ leBytes 4 x.gen ++
    leBytes 4 (if none' then 0 else s.rolling x.slot s.epochTag) ++ leBytes 4 after ++
    beBytes 1 (if none' then 0xFF else s.tokenRole x.slot) ++ beBytes 1 (if none' then 0 else s.tokenState x.slot) ++
    (if none' then zeros 16 else slice (s.tokenRec x.slot) 34 16) ++ ((List.range 7).flatMap fun i => leBytes 6 (s.tally (i + 1))) ++
    event ++ zeros 4
  ⟨0, 0x20, s.stamp, 0, body⟩ ::
    (parts.zipIdx.map fun p => ⟨0, 0x21, s.stamp, (p.2 + 1) + (if p.2 + 2 = n then 128 else 0), zeros 8 ++ p.1⟩) ++
    [⟨1, 0x13, s.stamp, 0x80, List.replicate 8 0xFF ++ beBytes 1 reason ++ beBytes 1 principal⟩]

/-- ACCESS_EVENT (R275). -/
def accessEvent (kind zone origin : Nat) : Bytes := beBytes 1 kind ++ beBytes 1 zone ++ beBytes 1 origin ++ zeros 5

/-- The sample an exchange adds to COMMISSION_RESULT (R307).
DEDUCED, log entry 113, unsafe. -/
def State.commissionSample (s : State) (x : Exchange) (fv : Bytes) : Bytes :=
  let r := s.raw 0x2C2101
  let slots := (List.range 13).flatMap fun k =>
    let lo := byteAt r (2 + 2 * k)
    let hi := byteAt r (3 + 2 * k)
    if s.slotClean x k ∧ 3 * k + 3 ≤ fv.length then
      let m := slotM fv k
      beBytes 1 (if hi < lo then m else min lo m) ++ beBytes 1 (if hi < lo then m else max hi m)
    else beBytes 1 lo ++ beBytes 1 hi
  let anchors := x.anchors.foldl (fun (l : List (Nat × Nat × Nat)) a =>
    match (x.ranging a).bind (s.distance a) with
    | none => l
    | some d =>
      let d := d.toNat
      if l.any (·.1 == a) then l.map fun e => if e.1 = a then (a, min e.2.1 d, max e.2.2 d) else e
      else if l.length < 8 then l ++ [(a, d, d)] else l)
    (((List.range 8).map fun k => (byteAt r (28 + 5 * k), beNat (slice r (29 + 5 * k) 2), beNat (slice r (31 + 5 * k) 2))).filter (·.1 != 0xFF))
  let cells := (List.range 8).flatMap fun k => match anchors[k]? with
    | some (a, lo, hi) => beBytes 1 a ++ beBytes 2 lo ++ beBytes 2 hi
    | none => [0xFF, 0, 0, 0, 0]
  beBytes 1 (byteAt r 0) ++ beBytes 1 (min 255 (byteAt r 1 + 1)) ++ slots ++ cells ++ zeros 12

/-- An empty COMMISSION_RESULT for a pattern (R307). -/
def commissionEmpty (pattern : Nat) : Bytes :=
  beBytes 1 pattern ++ [0] ++ ((List.replicate 13 [(0xFF : Byte), 0]).flatten) ++ ((List.replicate 8 [(0xFF : Byte), 0, 0, 0, 0]).flatten) ++ zeros 12

/-- The effects of a commissioning run at a decision (R307). -/
def State.commissionEffects (s : State) (x : Exchange) (accepted : Bool) : List Effect :=
  match s.openEntry 7, x.answer with
  | some (pos, e), some p =>
    if accepted && !x.cradle && s.commissioning x.pattern then
      let v := s.commissionSample x (answerFv p)
      .obj 0x2C2101 v ::
        (if s.tether.target ≤ byteAt v 1 then [.inflight pos (s.closed (s.phased e 2) 2 stOK)] else [])
    else []
  | _, _ => []

/-- A rolling counter's advance, and the counter-high event it raises once (R266, R306). -/
def State.advance (s : State) (slot ctr : Nat) : List CellWrite × List Effect × List NewRec :=
  let v := min ctr (2 ^ 32 - 1)
  ([.rolling slot s.epochTag v],
    if 0xFF000000 < v ∧ s.tether.high.contains slot = false then [.counterHigh slot, .fault 0x14 (64 + slot)] else [],
    if 0xFF000000 < v ∧ s.tether.high.contains slot = false then [s.recEvent 5 0x14 (64 + slot)] else [])

/-- The decision unit of an entry or start exchange: its staged results for every outcome (R23, R274-R280, R340).
DEDUCED, log entry 97, unsafe. -/
def State.decideUnit (s : State) (x : Exchange) : Staged :=
  let v := s.judge x
  let grant := v.reason == 0
  let stored := s.rolling x.slot s.epochTag
  let ctr := x.answer.elim 0 answerCtr
  let adv := if v.accepted then s.advance x.slot ctr else ([], [], [])
  let after := if v.accepted then min ctr (2 ^ 32 - 1) else if x.slot < 64 then stored else 0
  let fail := if v.failure then s.countFailure else ([], s.tether.window, false)
  let kind := if grant then (if x.kind = 1 then 1 else 2) else 3
  let zone := if grant then v.zone else 0
  let ev := accessEvent kind zone x.origin
  let refused := accessEvent 3 0 x.origin
  let common := [Effect.exchange none, .count 39 1, .lockWindow fail.2.1] ++ adv.2.1 ++ s.commissionEffects x v.accepted
  let entry (grant : Bool) (res : Nat) : List Effect := match x.pos with
    | none => []
    | some p => [.inflight p (if grant then s.phased (s.inflightAt p) 1 else s.closed (s.inflightAt p) 6 res)]
  let out (e : Bytes) : List Effect := [.obj 0x2C0101 e, .event [0x2C0101] 7]
  let cells := adv.1 ++ fail.1
  ⟨0x0E000000, if grant then .grant else .plain, common ++ out ev ++ entry grant stDENIED,
    s.decisionRecs x kind zone v.reason after 0xFF ev ++ adv.2.2, cells ++ (if grant then [.tally 4 (s.tally 3)] else []), [],
    common ++ out refused ++ entry false stINKWELL_LOW_HOLD, common ++ out refused ++ entry false stBUSY,
    s.decisionRecs x 3 0 0 after 0xFF refused ++ adv.2.2, cells⟩

/-! ## Gathering for Tether -/

/-- What Tether takes from the items of a stroke: wake telegrams held, the items of the running exchange as inputs, the
outcomes of its Quill requests, and the stroke r of a cradle exchange (R258, R259, R277, R451).
DEDUCED, log entry 102, unsafe. -/
def State.tetherGather (s : State) : State :=
  let s := s.gathered.foldl State.holdWake s
  match s.tether.run with
  | none => s
  | some x =>
    let mine (i : Item) : Bool := x.phase != .listening &&
      (i.cls == 7 || i.cls == 9 || (i.cls == 8 && byteAt i.val 0 != 4) || (i.cls == 5 && i.idx == 0))
    let items := s.gathered.filter mine
    let x := { x with inputs := x.inputs ++ items.map s.input }
    let x := items.foldl (fun (x : Exchange) i =>
      if i.cls = 5 then
        match i.aux with
        | [_, 1] => { x with mac := some (byteAt i.val 0, byteAt i.val 1) }
        | [_, 2] => { x with kdf := some (byteAt i.val 0) }
        | _ => x
      else x) x
    let x := if x.cradle && x.resp.isNone && decide (2 ≤ x.uplinks.length) then { x with resp := some s.sys.stroke, due := some (s.sys.stroke + 6) } else x
    { s with tether := { s.tether with run := some x } }

end Sys2Proof.Machine
end

