-- ==== Sys2Proof/Machine/Learn.lean ====
section
/-!
DEFINITION. Learn.lean: the staging image, the Learn transaction with its five phases, its dispositions, and the set a
slave holds of its master's (R300-R305, R439).
-/

namespace Sys2Proof.Machine

/-! ## The staging image (R300) -/

/-- A Learn is running or resuming. -/
def State.learning (s : State) : Bool := (s.openEntry 1).isSome

/-- Record `n` of the staging image. -/
def State.imageRec (s : State) (n : Nat) : Bytes := (alookup n s.people.image).getD (zeros 80)

/-- LEARN_STAGED_DIGEST. -/
def State.stagedDigest (s : State) : Bytes := sha256 ((List.range 64).flatMap s.imageRec)

/-- The image with a record written; a record of zeros is not listed. -/
def State.putImage (s : State) (n : Nat) (v : Bytes) : State :=
  { s with people := { s.people with
    image := if v = zeros 80 then aerase n s.people.image else ainsert n v s.people.image } }

/-- A write of LEARN_RECORD `n`. -/
def State.opLearnRecord (s : State) (n : Nat) (v : Bytes) : OpResult :=
  if s.learning then .refuse stBUSY else .ok [.learnRecord n v]

/-- A write of LEARN_RECORD_CLEAR. -/
def State.opLearnClear (s : State) (v : Bytes) : OpResult :=
  if beNat v ≠ 1 then .ok [] else if s.learning then .refuse stBUSY else .ok [.learnClear]

/-! ## Starting a Learn (R301) -/

/-- Fields of a record of the image. -/
def recUsed (r : Bytes) : Bool := (byteAt r 0).testBit 0
def recWrapped (r : Bytes) : Bool := (byteAt r 0).testBit 1
def recFrom (r : Bytes) : Nat × Nat := (beNat (slice r 4 4), beNat (slice r 8 4))
def recUntil (r : Bytes) : Nat × Nat := (beNat (slice r 12 4), beNat (slice r 16 4))

/-- Whether a record breaks a rule of R301. -/
def recWrong (plainAllowed : Bool) (r : Bytes) : Bool :=
  byteAt r 0 / 4 != 0 || slice r 2 2 != zeros 2 ||
    if recUsed r then
      decide (3 < byteAt r 1) || !pairLe (recFrom r) (recUntil r) || (byteAt r 1 == 3 && openEnded (recUntil r)) ||
        (!recWrapped r && (!plainAllowed || slice r 20 12 != zeros 12 || slice r 64 16 != zeros 16))
    else r != zeros 80

/-- The used records of the image that carry the admin role. -/
def State.imageAdmins (s : State) : Nat :=
  ((List.range 64).filter fun n => recUsed (s.imageRec n) && byteAt (s.imageRec n) 1 == 2).length

/-- The unwrap of a record's key on queue 3. -/
def unwrapRequest (n : Nat) (r : Bytes) : IntReq :=
  ⟨3, 4, 5, 0x45, none, slice r 20 12, beBytes 1 n ++ r.take 20, slice r 32 32, slice r 64 16, 0, [n]⟩

/-- LEARN_START as it is applied.
DEDUCED, log entry 104, unsafe. -/
def State.opLearnStart (s : State) (r : Requester) (v : Bytes) : OpResult :=
  let recs := (List.range 64).map fun n => (n, s.imageRec n)
  let used := recs.filter fun x => recUsed x.2
  let hosts := ((List.range 4).filter fun p => s.isMember (0x40 + p)).length
  let denied := slice v 0 32 != s.stagedDigest || beNat (slice v 32 4) != s.epoch % 2 ^ 32 ||
    recs.any (fun x => recWrong (s.num 0x380008 == 1) x.2) || decide (8 < s.imageAdmins) ||
    (s.isSealed && decide (s.imageAdmins + hosts < 2))
  let codes := (if denied then [stDENIED] else []) ++ (if s.learning then [stBUSY] else []) ++
    (if s.epoch % 2 ^ 32 = 2 ^ 32 - 1 then [stCOUNTER_STUCK] else [])
  if codes ≠ [] then .refuse (firstRefusal codes)
  else match s.inflightSlot with
    | none => .refuse stBUSY
    | some pos =>
      let wrapped := used.filter fun x => recWrapped x.2
      let keys := (used.filter fun x => !recWrapped x.2).map fun x => (x.1, slice x.2 32 32)
      .start ([.inflight pos (s.newEntry 1 5 (s.epoch + 1) 0 r),
        .learn (some ⟨pos, s.epoch, keys, wrapped.map (·.1), 0, 0, none, [], [], 0, false⟩), objN 0x301003 stPENDING] ++
        wrapped.map fun x => .quillQueue (unwrapRequest x.1 x.2))

/-! ## Progress -/

/-- The Learn as the stroke's units have staged it so far. -/
def State.learnNow (s : State) : Option Learn :=
  s.effects.foldl (fun l e => match e with
    | .learn l' => l'
    | _ => l) s.people.learn

/-- PHASE of the Learn: of its entry, or SCRUB to come for a slave's own (R304). -/
def State.learnPhaseOf (s : State) (l : Learn) : Nat := if l.pos < 16 then (s.inflightAt l.pos).phase else 3

/-- The in-flight effect of a Learn with an entry. -/
def State.learnEntry (s : State) (l : Learn) (f : Inflight → Inflight) : List Effect :=
  if l.pos < 16 then [.inflight l.pos (f (s.inflightAt l.pos))] else []

/-- A Learn ended before COMMIT (R302): the image is zeroed.
DEDUCED, log entry 105, unsafe. -/
def State.learnFails (s : State) (l : Learn) (result : Nat) : List Effect :=
  s.learnEntry l (fun e => s.closed e 3 result) ++ [.learn none, .learnClear, objN 0x301003 result]

/-- The record of a phase of a Learn with an entry: the value of LEARN_PHASE (R443).
DEDUCED, log entry 112, unsafe. -/
def State.learnRec (s : State) (l : Learn) (phase : Nat) : List NewRec :=
  if l.pos < 16 then [s.recObj 0 0x301002 4 0 (beBytes 1 phase)] else []

/-- A unit of the Learn: its Gather key is that of a timed unit of the main core. -/
def learnUnit (effs : List Effect) : Staged := plainUnit 0x0E010000 effs []

/-- The record of a slot in the staged bank (R285). -/
def stagedRecord (r key : Bytes) : Bytes :=
  if recUsed r then
    let f := recFrom r
    let u := recUntil r
    padTo 32 key ++ beBytes 1 (byteAt r 1) ++ [1] ++ leBytes 4 f.1 ++ leBytes 4 f.2 ++ leBytes 4 u.1 ++ leBytes 4 u.2
  else zeros 50

/-- The staged bank's 3,360 bytes (R285, R302). -/
def State.stagedBank (s : State) (l : Learn) : Bytes :=
  let body := (List.range 64).flatMap fun n => stagedRecord (s.imageRec n) ((alookup n l.keys).getD [])
  let used := ((List.range 64).filter fun n => recUsed (s.imageRec n)).length
  padTo 3360 (leBytes 4 (l.epoch + 1) ++ sha256 body ++ beBytes 1 used ++ beBytes 1 s.imageAdmins ++ zeros 2 ++ body)

/-- The first pair of a bank. -/
def bankPair (b : Nat) : Nat := 14 * (b % 2)

/-- Admitted slaves, CONVERGING or ACTIVE (R432). -/
def State.slavesUp (s : State) : List Nat := (List.range 8).filter fun n => (s.slaveRec n).state == 1 || (s.slaveRec n).state == 2

/-- A LEARN_PAGE frame: pair number, copy, payload (R425, R439).
DEDUCED, log entry 106, unsafe. -/
def State.pageFrame (s : State) (n pair : Nat) (payload : Bytes) : Effect :=
  let copy := s.ink.target (pairPage 0 pair) - pairPage 0 pair
  .poleSend ⟨8, n, false, s.sys.stroke + 1, beBytes 1 pair ++ beBytes 1 copy ++ padTo 240 payload⟩

/-- Unwraps of a Learn that this stroke gathered. -/
def Item.isUnwrap (i : Item) : Bool := i.cls == 5 && i.idx == 3 && i.aux.head? == some 100 && i.aux.getD 1 0 == 4

/-- The Learn with its gathered unwraps taken: a key where the tag verified, else a failure. -/
def Learn.take (l : Learn) (items : List Item) : Learn :=
  items.foldl (fun l i =>
    let n := i.aux.getD 2 64
    let l := { l with awaiting := l.awaiting.filter (· != n) }
    if byteAt i.val 0 = stOK then { l with keys := ainsert n (toBytes (i.aux.drop 4)) l.keys } else { l with failed := true }) l

/-- A slave admitted with a differing digest is sent the master's active set (R439).
DEDUCED, log entry 106, unsafe. -/
def State.restage (s : State) : Option (List Effect) :=
  (s.slavesUp.find? fun n => (s.slaveRec n).restage).bind fun n =>
    (s.bank s.activeBank).map fun b =>
      ((List.range 14).map fun i => s.pageFrame n (bankPair s.activeBank + i) (slice b (240 * i) 240)) ++
        [.slaveRestage n false]

/-- LEARN_STAGE: unwrapped keys are taken; once all are there, up to 4 pages of the staged bank are written and sent to
every admitted slave, the header page last (R302, R304, R439). With no Learn running, a slave to be staged again is sent
the active set. -/
def execLearnStage (s : State) : Out :=
  if !s.working then .next s
  else match s.learnNow with
    | none => match s.restage with
      | some effs => .next (s.stage (learnUnit effs))
      | none => .next s
    | some l =>
      if s.learnPhaseOf l ≠ 0 ∨ 14 ≤ l.written then .next s
      else
        let items := s.gathered.filter Item.isUnwrap
        let l1 := l.take items
        let s1 := items.foldl State.consume s
        if l1.failed then .next (s1.stage (learnUnit (s.learnFails l1 stDENIED)))
        else
          let s2 := if items = [] then s1 else s1.stage (learnUnit [.learn (some l1)])
          if l1.awaiting ≠ [] ∨ s.staged.any (fun u => u.need == .phase) then .next s2
          else
            let order := (List.range 14).map fun i => (i + 1) % 14
            let now := (order.drop l1.written).take 4
            let bank := s.stagedBank l1
            let base := bankPair (l1.epoch + 1)
            let pairs := now.map fun i => (⟨0, base + i, slice bank (240 * i) 240⟩ : PairWrite)
            let frames := s.slavesUp.flatMap fun n => pairs.map fun w => s.pageFrame n w.pair w.payload
            let w := l1.written + now.length
            let effs := Effect.learn (some { l1 with written := w, refused := 0 }) :: frames ++
              (if w = 14 then s.learnEntry l1 (fun e => s.phased e 1) else [])
            .next (s2.stage { learnUnit effs with
              need := .phase, pairs := pairs, held := [.learn (some { l1 with refused := l1.refused + 1 })]
              recs := if w = 14 then s.learnRec l1 1 else [] })

/-- LEARN_VERIFY: the staged bank is checked under its own EPOCH; once that and every slave's report have passed, PHASE
2 stands (R302). -/
def execLearnVerify (s : State) : Out :=
  match s.learnNow with
  | none => .next s
  | some l =>
    if s.working && s.learnPhaseOf l == 1 && decide (l.pos < 16) then
      if l.checked.isNone && !s.bankValid ((l.epoch + 1) % 2) (l.epoch + 1) then
        .next (s.stage (learnUnit (s.learnFails l stDENIED)))
      else
        let l := { l with checked := some (l.checked.getD s.sys.stroke) }
        let all := s.slavesUp.all fun n => l.reports.contains n || l.left.contains n
        .next (s.stage { learnUnit (.learn (some l) :: (if all then s.learnEntry l (fun e => s.phased e 2) else [])) with
        recs := if all then s.learnRec l 2 else [] })
    else .next s

/-- LEARN_SLAVE_TIMEOUT: a slave that has not reported within 32 strokes of the local check is left out and is to be
staged again at its next admission (R302). -/
def execLearnSlaveTimeout (n : Nat) (s : State) : Out :=
  match s.learnNow with
  | none => .next s
  | some l =>
    match l.checked with
    | none => .next s
    | some c =>
      if s.working && s.learnPhaseOf l == 1 && decide (c + 32 ≤ s.sys.stroke) && s.slavesUp.contains n && !l.reports.contains n then
        .next (s.stage (learnUnit [.learn (some { l with left := l.left ++ [n] }), .slaveRestage n true]))
      else .next s

/-- LEARN_PHASE_COMMIT: LEARN_EPOCH is raised by one cell word in the group that records PHASE 3, only where the VHOLD
check passes; the slaves are told (R302, R304, R439).
DEDUCED, log entry 106, unsafe. -/
def execLearnPhaseCommit (s : State) : Out :=
  match s.learnNow with
  | none => .next s
  | some l =>
    if s.working && s.learnPhaseOf l == 2 && decide (l.pos < 16) && !s.staged.any (fun u => u.need == .phase) then
      let digest := slice (s.stagedBank l) 4 8
      let frames := (s.slavesUp.filter l.reports.contains).map fun n => Effect.poleSend ⟨9, n, false, s.sys.stroke + 1, digest⟩
      .next (s.stage { learnUnit (.learn (some { l with refused := 0 }) :: .checkSet :: frames ++ s.learnEntry l (fun e => s.phased e 3)) with
        need := .phase, cells := [.tally 8 (l.epoch + 1)], recs := s.learnRec l 3
        held := [.learn (some { l with refused := l.refused + 1 })] })
    else .next s

/-- The value a rolling counter has after what this stroke has staged (R305). -/
def State.rollingStaged (s : State) (slot tag : Nat) : Nat :=
  (s.staged.flatMap (·.cells)).foldl (fun v c => match c with
    | .rolling n t w => if n = slot ∧ t % 16 = tag % 16 then max v w else v
    | _ => v) (s.rolling slot tag)

/-- The cells of counter page `p` that carry an old tag, rewritten (R176). -/
def State.retagPage (s : State) (p tag : Nat) : List CellWrite :=
  (List.range 32).filterMap fun i =>
    let slot := 4 * p + i / 8
    let k := i % 8
    let w := (alookup (rollAddr slot k) s.ink.cells).getD (rollWord slot k 0 0)
    if w / 2 ^ 48 % 16 = tag % 16 then none else some (.retag slot k tag (s.rollingStaged slot tag))

/-- LEARN_SCRUB: four page-equivalents of SCRUB: the old bank's pages written empty, then the pages of counter cells
retagged; the last brings PHASE 4 (R302, R305). -/
def execLearnScrub (s : State) : Out :=
  match s.learnNow with
  | none => .next s
  | some l =>
    if s.working && s.learnPhaseOf l == 3 && !s.staged.any (fun u => u.need == .phase) then
      let now := (List.range 30).drop l.scrub |>.take 4
      let base := bankPair l.epoch
      let pairs := (now.filter (· < 14)).map fun i => (⟨0, base + i, zeros 240⟩ : PairWrite)
      let cells := (now.filter (14 ≤ ·)).flatMap fun i => s.retagPage (i - 14) (l.epoch + 1)
      let done := decide (30 ≤ l.scrub + 4)
      let next := if done && decide (16 ≤ l.pos) then none else some { l with scrub := l.scrub + now.length }
      .next (s.stage { learnUnit (.learn next :: (if done then s.learnEntry l (fun e => s.phased e 4) else [])) with
        need := .phase, pairs := pairs, cells := cells, recs := if done then s.learnRec l 4 else [], held := [.learn (some l)] })
    else .next s

/-- LEARN_DONE: the Commit after SCRUB closes the entry DONE and zeroes the image (R302). -/
def execLearnDone (s : State) : Out :=
  match s.learnNow with
  | none => .next s
  | some l =>
    if s.working && s.learnPhaseOf l == 4 then
      .next (s.stage { learnUnit (s.learnEntry l (fun e => s.closed (s.phased e 5) 2 stOK) ++
        [.learn none, .learnClear, objN 0x301003 stOK]) with recs := s.learnRec l 5 })
    else .next s

/-- LEARN_HOLD_TIMEOUT: 1,000 checks in a row have refused the Learn's pages before COMMIT (R302). -/
def execLearnHoldTimeout (s : State) : Out :=
  match s.learnNow with
  | none => .next s
  | some l =>
    if s.working && decide (s.learnPhaseOf l < 3) && decide (1000 ≤ l.refused) then
      .next (s.stage (learnUnit (s.learnFails l stINKWELL_LOW_HOLD)))
    else .next s

/-! ## After a reset (R303) -/

/-- The disposition of a Learn's entry: the counter, not PHASE, decides whether COMMIT happened.
DEDUCED, log entry 104, unsafe. -/
def State.disposeLearn (s : State) (pos : Nat) (e : Inflight) : List Effect :=
  let raised := decide (s.epoch % 2 ^ 16 = e.inst)
  if raised then
    if 4 ≤ e.phase then [.inflight pos (s.closed { e with phase := 5 } 2 stOK), objN 0x301003 stOK]
    else
      [.inflight pos { s.phased e 3 with state := 4 },
        .learn (some ⟨pos, s.epoch - 1, [], [], 14, 0, none, [], [], 0, false⟩), objN 0x301003 stPENDING]
  else [.inflight pos (s.closed e 3 stDENIED), .learnErase (some ((s.epoch + 1) % 2, 0)), objN 0x301003 stDENIED]

/-- The next four pages of a rolled-back bank written empty (R303). -/
def State.eraseStep (s : State) : Option Staged :=
  s.people.erase.map fun x =>
    let now := ((List.range 14).drop x.2).take 4
    let next := if 14 ≤ x.2 + 4 then none else some (x.1, x.2 + 4)
    { learnUnit [.learnErase next] with
      need := .phase, pairs := now.map fun i => ⟨0, bankPair x.1 + i, zeros 240⟩, held := [.learnErase (some x)] }

/-! ## A slave's own bank (R304, R439) -/

/-- The header's EPOCH of a page of pair 0 set to a slave's own. -/
def ownEpoch (pair epoch : Nat) (payload : Bytes) : Bytes :=
  if pair % 14 = 0 then leBytes 4 epoch ++ payload.drop 4 else payload

/-- LEARN_PHASE (R302, R308): PHASE of the newest entry of type 0x01. -/
def State.learnPhase (s : State) : Nat :=
  ((s.inflight.filter fun e => e.2.op == 1).foldl (fun (best : Option Inflight) e => match best with
    | none => some e.2
    | some b => if stampLt b.started e.2.started then some e.2 else some b) none).elim 0 (·.phase)

end Sys2Proof.Machine
end

