-- ==== Sys2Proof/Machine/Feed.lean ====
section
/-!
DEFINITION. Feed.lean: the Feed regulator's state machine, undervoltage and hiccup, PG, synchronisation, load steps,
configuration and status items (R310-R329).
-/

namespace Sys2Proof.Machine

/-! ## Flags and items (R328) -/

/-- The VID target in millivolts (R318). -/
def vidMv (vid : Nat) : Nat := 400 + 5 * vid

/-- FLAGS of R328. -/
def Feed.flags (f : Feed) : Nat :=
  if f.state = 0 then 0
  else b2n f.pg + f.sticky + 16 * b2n f.lost + 32 * b2n (!f.locked) + 128 * b2n (f.state == 9)

/-- A sticky bit of FLAGS set: 1 PG_DROPPED, 2 ILIM, 3 UV_EVENT, 6 LS_FIRED. -/
def Feed.stick (f : Feed) (bit : Nat) : Feed := { f with sticky := setBit f.sticky bit true }

/-- PG negated (R325). -/
def Feed.dropPg (f : Feed) : Feed := if f.pg then { f.stick 1 with pg := false } else f

/-- Feed left the switching states: ACK, the Feedline state and the last command are forgotten (R336, R337).
DEDUCED, log entry 116, unsafe. -/
def Feed.off (f : Feed) (state : Nat) : Feed :=
  { f.dropPg with state := state, switching := false, watch := false, link := 0, ack := false, last := none }

/-- V_REF as it can stand in the state it is taken in (R319): `v` is the level measured.
DEDUCED, log entry 115, safe. -/
def State.refAt (s : State) (v : Nat) : Nat :=
  let f := s.feed
  let t := vidMv f.vid
  match f.state with
  | 3 => min v t
  | 4 | 5 => if s.feedCfg 8 = 2 then t else min v t
  | 6 | 7 => min v (vidMv 255)
  | _ => 0

/-- A Feed item: deposited while strokes run, else queued in PD12: 8 status items, the newest taking the sticky bits of the
one it replaces, and 16 events, the oldest lost (R328, R339). -/
def State.feedItem (s : State) (v : Bytes) : State :=
  if s.sys.power = .running then s.offer 3 0 v
  else
    let q := s.feed.queue
    let event (b : Bytes) : Bool := decide (128 ≤ byteAt b 0)
    if event v then
      if 16 ≤ (q.filter event).length then
        let q' := q.eraseIdx ((q.findIdx? event).getD 0)
        { s.countUp 48 1 with feed := { s.feed with queue := q' ++ [v] } }
      else { s with feed := { s.feed with queue := q ++ [v] } }
    else if 8 ≤ (q.filter fun b => !event b).length then
      let i := q.length - 1 - (q.reverse.findIdx? fun b => !event b).getD 0
      let old := q.getD i []
      let v' := slice v 0 1 ++ beBytes 1 (byteAt v 1 ||| (byteAt old 1 &&& 0x4E)) ++ v.drop 2
      { s with feed := { s.feed with queue := q.eraseIdx i ++ [v'] } }
    else { s with feed := { s.feed with queue := q ++ [v] } }

/-- Items queued during dark strokes handed over at the first full stroke (R84). -/
def State.feedFlush (s : State) : State :=
  let q := s.feed.queue
  q.foldl (fun s v => s.offer 3 0 v) { s with feed := { s.feed with queue := [] } }

/-- The status item of the stroke a boundary ends, with V_REF measured and whether a phase reached its limit (R324,
R328).
DEDUCED, log entry 115, safe. -/
def State.feedBoundary (s : State) (ref : Nat) (ilim : Bool) : State :=
  let f := s.feed
  if f.state = 0 then s
  else
    let lim := ilim && f.switching
    let s := if lim then s.countUp 42 1 else s
    let f := if lim then f.stick 2 else f
    let r := s.refAt ref
    let v := beBytes 1 f.state ++ beBytes 1 f.flags ++ beBytes 1 f.vid ++ beBytes 1 f.cause ++ beBytes 2 r ++
      beBytes 1 f.pointer ++ [0]
    { s with feed := { f with sticky := 0, refMv := r } }.feedItem v

/-! ## Configuration (R327) -/

/-- The committed values of 0x4810. -/
def State.feedCommitted (s : State) : List Nat := (List.range 20).map fun i => s.num (0x481001 + i)

/-- CONFIG_PENDING.
DEDUCED, log entry 119, unsafe. -/
def State.feedPending (s : State) : Bool := s.feed.state != 0 && s.feed.cfg != s.feedCommitted

/-- The applied configuration replaced by the committed one. -/
def State.feedApply (s : State) : State := { s with feed := { s.feed with cfg := s.feedCommitted } }

/-- FEED_CONFIG_APPLY: pending values apply at the first Commit at which Feed is in IDLE or LATCHED_OFF. -/
def execFeedConfigApply (s : State) : Out :=
  if s.feed.state = 1 ∨ s.feed.state = 9 then .next s.feedApply else .next s

/-- PD12 powered up, or Feed reset: IDLE, unlocked, configured from the committed Ledger (R320, R327).
DEDUCED, log entry 116, unsafe. -/
def State.feedPowerUp (s : State) : State :=
  { s with feed := { Feed.reset with state := 1, cfg := s.feedCommitted, fsync := s.feed.fsync, queue := s.feed.queue } }

/-- PD12 switched off (R320). -/
def State.feedPowerDown (s : State) : State := { s with feed := Feed.reset }

/-- The Feed subsystem reset: a latch-off is cleared and Feed is IDLE (R326); PD12 keeps its clock.
DEDUCED, log entry 116, unsafe. -/
def State.feedReset (s : State) : State :=
  if s.feed.state = 0 then s
  else { s with feed := { s.feed.off 1 with cause := 0, attempts := 0, pointer := 0, vid := 0, lsArmed := true } }

/-! ## The state machine (R320) -/

/-- START entered: VID is FEED_BOOT_VID, the pointer 0 (R317, R318). -/
def State.feedStart (s : State) : State :=
  { s with feed := { s.feed with
    state := 2, vid := s.feedCfg 3, pointer := 0, lsArmed := true, switching := false, watch := false, ack := false
    last := none, link := 0 } }

/-- FEED_ENABLE: FEED_EN is asserted and Feed, locked, is IDLE: START. -/
def execFeedEnable (s : State) : Out :=
  if s.feedEn && s.feed.locked && s.feed.state == 1 then .next s.feedStart else .next s

/-- FEED_START_DELAY: FEED_START_DELAY_US have elapsed: RAMP. -/
def execFeedStartDelay (s : State) : Out :=
  if s.feed.state = 2 then .next { s with feed := { s.feed with state := 3 } } else .next s

/-- SWITCHING_BEGINS: V_REF exceeds V_SENSE by 10 mV: the phases are enabled; a TRACK_IN of `track` mV below 50 mV holds
Feed in RAMP (R319). -/
def execSwitchingBegins (track : Nat) (s : State) : Out :=
  if s.feed.state = 3 ∧ ¬(s.feedCfg 8 ≠ 2 ∧ track < 50) then .next { s with feed := { s.feed with switching := true } }
  else .next s

/-- RAMP_COMPLETE: V_RAMP reaches the target: PG_WAIT, and the undervoltage watch is armed (R321). -/
def execRampComplete (s : State) : Out :=
  if s.feed.state = 3 ∧ s.feed.switching = true then
    .next { s with feed := { s.feed with state := 4, watch := true } }
  else .next s

/-- PG_DELAY: the PG condition has held for FEED_PG_DELAY_US: RUN, PG true; PG becomes true again in RUN and TRANSITION only
so (R325). -/
def execPgDelay (s : State) : Out :=
  if s.feed.state = 4 then .next { s with feed := { s.feed with state := 5, pg := true } }
  else if s.feed.state = 5 ∨ s.feed.state = 6 then .next { s with feed := { s.feed with pg := true } }
  else .next s

/-- PG_DROP: the output has left the window (R325). -/
def execPgDrop (s : State) : Out :=
  if s.feed.state = 5 ∨ s.feed.state = 6 then .next { s with feed := s.feed.dropPg } else .next s

/-- FEED_DISABLE: FEED_EN is negated: STOP, or IDLE from HICCUP.
DEDUCED, log entry 118, safe. -/
def execFeedDisable (s : State) : Out :=
  if s.feedEn then .next s
  else if 2 ≤ s.feed.state ∧ s.feed.state ≤ 6 then .next { s with feed := { s.feed.dropPg with state := 7 } }
  else if s.feed.state = 8 then .next { s with feed := { s.feed with state := 1 } }
  else .next s

/-- STOP_COMPLETE: V_RAMP is below 50 mV: IDLE. -/
def execStopComplete (s : State) : Out :=
  if s.feed.state = 7 then .next { s with feed := s.feed.off 1 } else .next s

/-- What an undervoltage event or start timeout does, by FEED_UV_ACTION (R323, R326). -/
def State.feedFails (s : State) (cause : Nat) : State :=
  if s.feedCfg 16 = 0 then { s with feed := { s.feed.off 9 with cause := cause } }
  else if s.feedCfg 18 ≠ 0 ∧ s.feedCfg 18 ≤ s.feed.attempts then { s with feed := { s.feed.off 9 with cause := 3 } }
  else { s.countUp 41 1 with feed := { s.feed.off 8 with attempts := s.feed.attempts + 1 } }

/-- UNDERVOLTAGE_EVENT: V_SENSE below the threshold for FEED_UV_DELAY_US while the watch is armed (R321).
DEDUCED, log entry 115, safe.
DEDUCED, log entry 118, safe. -/
def execUndervoltageEvent (s : State) : Out :=
  if s.feed.watch then
    let s := s.countUp 40 1
    .next ({ s with feed := s.feed.stick 3 }.feedFails 1)
  else .next s

/-- START_TIMEOUT: Feed entered START and has not reached RUN in time (R322). -/
def execStartTimeout (s : State) : Out :=
  if 2 ≤ s.feed.state ∧ s.feed.state ≤ 4 then .next (s.feedFails 2) else .next s

/-- HICCUP_OFF_END: FEED_HICCUP_OFF_MS have elapsed: START. -/
def execHiccupOffEnd (s : State) : Out :=
  if s.feed.state = 8 ∧ s.feedEn = true then .next s.feedStart else .next s

/-- HICCUP_COUNT_RESET: 1 s in the switching states since RUN was reached (R323). -/
def execHiccupCountReset (s : State) : Out :=
  if s.feed.state = 5 ∨ s.feed.state = 6 then .next { s with feed := { s.feed with attempts := 0 } } else .next s

/-- A write of FEED_FAULT_CLEAR (R326). -/
def State.opFeedFaultClear (s : State) (v : Bytes) : OpResult :=
  if beNat v ≠ 1 then .ok [] else if s.feedEn then .refuse stBUSY else .ok [.feedClear]

/-- A latch-off cleared at its Commit.
DEDUCED, log entry 117, unsafe. -/
def State.feedClearNow (s : State) : State :=
  if s.feed.state = 9 then { s with feed := { s.feed with state := 1, cause := 0, attempts := 0 } } else s

/-! ## Synchronisation (R313, R314) -/

/-- SYNC_IN at `f` Hz meets R313 with the applied divider. -/
def State.syncMeets (s : State) (f : Nat) : Bool :=
  let d := max 1 (s.feedCfg 1)
  decide (400000 ≤ f) && decide (f ≤ 9000000) && decide (200000 * d ≤ f) && decide (f ≤ 1500000 * d)

/-- FEED_LOCK: SYNC_IN at `f` Hz meets the conditions and the PLL has settled. -/
def execFeedLock (f : Nat) (s : State) : Out :=
  if s.feed.state ≠ 0 ∧ s.feed.locked = false ∧ s.syncMeets f = true then
    .next { s with feed := { s.feed with locked := true, lost := false, fsync := f } }
  else .next s

/-- SYNC_IN_LOSS: holdover; regulation goes on unchanged. -/
def execSyncInLoss (s : State) : Out :=
  if s.feed.locked && !s.feed.lost then .next { s.countUp 43 1 with feed := { s.feed with lost := true } } else .next s

/-- RELOCK: SYNC_IN at `f` Hz is back and the phase error is one cycle or less. -/
def execRelock (f : Nat) (s : State) : Out :=
  if s.feed.locked && s.feed.lost && s.syncMeets f then .next { s with feed := { s.feed with lost := false, fsync := f } }
  else .next s

/-! ## Load steps (R317) -/

/-- LOAD_STEP: a load step is detected; the first phase in rotation among those `ready` (PWM low, minimum off time past) fires
and the pointer moves past it.
DEDUCED, log entry 117, unsafe. -/
def execLoadStep (ready : Nat) (s : State) : Out :=
  let f := s.feed
  let n := max 1 (s.feedCfg 0)
  if (f.state = 5 ∨ f.state = 6) ∧ s.feedCfg 19 ≠ 0 ∧ f.lsArmed = true then
    match ((List.range n).map fun i => (f.pointer + i) % n).find? ready.testBit with
    | some p => .next { s.countUp 44 1 with feed := { f.stick 6 with pointer := (p + 1) % n, lsArmed := false } }
    | none => .next { s with feed := { f with lsArmed := false } }
  else .next s

/-- LOAD_STEP_REARM: V_SENSE has recovered for 1 µs. -/
def execLoadStepRearm (s : State) : Out := .next { s with feed := { s.feed with lsArmed := true } }

/-! ## Leads (R312, R325) -/

/-- PHENn: the phases in use are enabled together while Feed switches. -/
def State.phen (s : State) (n : Nat) : Bool := s.feed.switching && decide (n < s.feedCfg 0)

/-- The PG lead: released while the signal is true, else driven low. -/
def State.pgLead (s : State) : Bool := s.feed.pg

end Sys2Proof.Machine
end

