-- ==== Sys2Proof/Machine/Feedline.lean ====
section
/-!
DEFINITION. Feedline.lean: Feedline requests and their answers, acknowledgement, loss of the link, and the start-lock
release (R330-R349).
-/

namespace Sys2Proof.Machine

/-! ## Frames (R332, R333) -/

/-- The response frame: SYNC, CMD, SEQ, VID, STATE, ACCEPTED, REFUSED, ACK, PG, CRC. -/
def Feed.response (f : Feed) (cmd seq : Nat) (accepted refused : Bool) : Nat :=
  let top := 2 ^ 22 + cmd % 8 * 2 ^ 19 + seq % 8 * 2 ^ 16 + f.vid * 2 ^ 8 + f.state * 16 + b2n accepted * 8 + b2n refused * 4 +
    b2n f.ack * 2 + b2n f.pg
  top * 256 + crc8 (beBytes 3 top)

/-- A Feedline item (R339). -/
def State.linkItem (s : State) (kind seq slew ref reason : Nat) : State :=
  s.feedItem (beBytes 1 kind ++ beBytes 1 (seq % 8) ++ beBytes 1 s.feed.vid ++ beBytes 1 slew ++ beBytes 2 (s.refAt ref) ++
    beBytes 1 reason ++ [0])

/-- A valid request: the link is ACTIVE from the first after START; after a loss, an item says so (R337). -/
def State.linkValid (s : State) (ref : Nat) : State :=
  if 2 ≤ s.feed.state ∧ s.feed.state ≤ 7 then
    let s' := { s with feed := { s.feed with link := 1 } }
    if s.feed.link = 2 then s'.linkItem 0x85 0 0 ref 0 else s'
  else s

/-- The answer driven. -/
def State.linkReply (s : State) (cmd seq : Nat) (accepted refused : Bool) : State :=
  { s with feed := { s.feed with reply := s.feed.response cmd seq accepted refused } }

/-- A request refused: counted, an item with its reason, nothing changed (R334, R339). -/
def State.linkRefuse (s : State) (cmd seq slew ref reason : Nat) : State :=
  ((s.countUp 46 1).linkItem 0x83 seq slew ref reason).linkReply cmd seq false true

/-- STATUS: nothing changes (R334). `ref` is V_REF measured, for an item. -/
def execStatus (seq ref : Nat) (s : State) : Out :=
  if s.feed.state = 0 then .next s else .next ((s.linkValid ref).linkReply 1 seq false false)

/-- SET_VID: a repeat is answered and changes nothing more; else the command is accepted in RUN or TRANSITION with VID and
SLEW in range; a transition of zero length leaves RUN as it is (R334, R335).
DEDUCED, log entry 120, unsafe. -/
def execSetVid (seq vid slew ref : Nat) (s : State) : Out :=
  if s.feed.state = 0 then .next s
  else
    let seq := seq % 8
    let s := s.linkValid ref
    if s.feed.last = some (seq, vid, slew) then .next (s.linkReply 2 seq true false)
    else if s.feed.state ≠ 5 ∧ s.feed.state ≠ 6 then .next (s.linkRefuse 2 seq slew ref 1)
    else if vid < s.feedCfg 4 ∨ s.feedCfg 5 < vid then .next (s.linkRefuse 2 seq slew ref 2)
    else if slew < 1 ∨ 40 < slew then .next (s.linkRefuse 2 seq slew ref 3)
    else
      let s := { s with feed := { s.feed with
        vid := vid, ack := false, last := some (seq, vid, slew)
        state := if s.feed.state = 5 ∧ vid = s.feed.vid then 5 else 6 } }
      .next ((s.linkItem 0x81 seq slew ref 0).linkReply 2 seq true false)

/-- FEEDLINE_UNKNOWN_CMD: answered as a refusal with reason 4 (R334). -/
def execFeedlineUnknownCmd (cmd seq slew ref : Nat) (s : State) : Out :=
  if s.feed.state = 0 ∨ cmd % 8 = 1 ∨ cmd % 8 = 2 then .next s
  else .next ((s.linkValid ref).linkRefuse (cmd % 8) seq slew ref 4)

/-- FEEDLINE_CRC_ERROR: SYNC or CRC of a complete request failed; FL_DAT is not driven (R333). -/
def execFeedlineCrcError (s : State) : Out :=
  if s.feed.state = 0 then .next s else .next { s.countUp 45 1 with feed := { s.feed with reply := 0 } }

/-- EXCHANGE_CUT: FL_CLK stayed low before the 66th clock: the response is cut after the bits driven, and a request with
fewer than 32 bits had no effect (R331). -/
def execExchangeCut (clocks : Nat) (s : State) : Out :=
  if clocks < 66 then
    let k := 66 - max 34 clocks
    .next { s with feed := { s.feed with reply := if clocks ≤ 34 then 0 else s.feed.reply / 2 ^ k * 2 ^ k } }
  else .next s

/-- TRANSITION_END: V_REF equals the target: RUN (R334). -/
def execTransitionEnd (s : State) : Out :=
  if s.feed.state = 6 then .next { s with feed := { s.feed with state := 5 } } else .next s

/-- ACK_SET: in RUN with V_SENSE within 5 mV of the target, ACK latches; its item names the last accepted command (R336).
DEDUCED, log entry 121, unsafe. -/
def execAckSet (ref : Nat) (s : State) : Out :=
  if s.feed.state = 5 ∧ s.feed.ack = false then
    let l := s.feed.last.getD (0, 0, 0)
    let s := { s with feed := { s.feed with ack := true } }
    .next (s.linkItem 0x82 l.1 l.2.2 ref 0)
  else .next s

/-- FEEDLINE_LOST: FEEDLINE_TIMEOUT_MS without a valid request (R337, R338). -/
def execFeedlineLost (ref : Nat) (s : State) : Out :=
  if s.feed.link = 1 then
    let s := { s.countUp 47 1 with feed := { s.feed with link := 2 } }
    .next (s.linkItem 0x84 0 0 ref 0)
  else .next s

/-! ## The release (R340-R346) -/

/-- What publishes START_LOCK_EVENT: its value, its ports, its record (R346). -/
def lockEvent (kind bits : Nat) : Bytes := beBytes 1 kind ++ beBytes 1 bits ++ zeros 6
def State.publishLock (s : State) (kind bits : Nat) : List Effect × List NewRec :=
  ([.obj 0x482009 (lockEvent kind bits), .event [0x482009] 7], [s.recObj 0 0x482009 4 0 (lockEvent kind bits)])

/-- The release in flight, by position. -/
def State.releaseEntry (s : State) : Option (Nat × Inflight) := s.openEntry 2

/-- The release an abandonment closes, at the phase committed: a step staged in the same stroke does not stand (R26, R342).
DEDUCED, log entry 122, unsafe. -/
def State.releaseReached (s : State) : Option (Nat × Inflight) :=
  match s.inflight.find? fun e => e.2.op == 2 && e.2.isOpen with
  | some e => if (s.inflightAt e.1).isOpen || (s.inflightAt e.1).state == 2 then some e else none
  | none => s.releaseEntry

/-- A release abandoned: its entry, its count, its fault and records with the phase reached (R342). -/
def State.abandonRelease (s : State) : List Effect × List NewRec :=
  match s.releaseReached with
  | none => ([], [])
  | some (pos, e) =>
    let p := s.publishLock 4 0
    (.inflight pos (s.closed e 5 stBUSY) :: .count 49 1 :: .fault 0x25 e.phase :: p.1, s.recEvent 0 0x25 e.phase :: p.2)

/-- GUY_LATCH after a change, as its record names it. -/
def State.latchByte (s : State) (bits : Nat) : Nat := 4 * b2n s.guy.gateOpen + bits

/-- A write of IGNITION_OFF: both fields clear, a release in flight is abandoned (R26, R342, R345). -/
def State.opIgnitionOff (s : State) (v : Bytes) : OpResult :=
  if beNat v ≠ 1 then .ok []
  else if !s.released && !s.feedEn && s.releaseReached.isNone && latchOps s.effects = [] then .ok []
  else
    let a := s.abandonRelease
    let l := if s.released then s.publishLock 2 0 else ([], [])
    let set := s.released || s.feedEn || latchOps s.effects != []
    ⟨stOK, .latch .clear :: a.1 ++ l.1, (if set then [s.recLatch (s.latchByte 0) 3] else []) ++ a.2 ++ l.2, [], []⟩

/-- A timed unit of the release. -/
def releaseUnit (effs : List Effect) (recs : List NewRec) : Staged := plainUnit 0x0E020000 effs recs

/-- RELEASE_FEED_ENABLE: the stroke after the granted decision sets FEED_EN, cause 0x01, and PHASE 2 with the PG count at
zero (R340). -/
def execReleaseFeedEnable (s : State) : Out :=
  match s.releaseEntry with
  | some (pos, e) =>
    if s.working && e.phase == 1 && (alookup pos s.inflight == some e) then
      .next (s.stage (releaseUnit [.inflight pos (s.phased e 2), .latch .setFeedEn, .pgCount 0, .releaseSince s.sys.stroke]
        [s.recLatch (s.latchByte 1) 1]))
    else .next s
  | none => .next s

/-- The PG count as this stroke's units have staged it. -/
def State.pgNow (s : State) : Nat :=
  s.effects.foldl (fun n e => match e with
    | .pgCount k => k
    | _ => n) s.release.count

/-- RELEASE_OUTPUTS: the PG count has reached 2: RELEASED, cause 0x02, the entry DONE, the event published (R340, R341). -/
def execReleaseOutputs (s : State) : Out :=
  match s.releaseEntry with
  | some (pos, e) =>
    if s.working && e.phase == 2 && decide (2 ≤ s.pgNow) then
      let p := s.publishLock 1 3
      .next (s.stage (releaseUnit ([.inflight pos (s.closed (s.phased e 3) 2 stOK), .latch .setReleased] ++ p.1)
        (s.recLatch (s.latchByte 3) 2 :: p.2)))
    else .next s
  | none => .next s

/-- RELEASE_TIMEOUT: RELEASE_TIMEOUT_MS since the phase 2 Commit without the count reaching 2 (R342). -/
def execReleaseTimeout (s : State) : Out :=
  match s.releaseEntry with
  | some (_, e) =>
    if s.working && e.phase == 2 && decide (s.pgNow < 2) &&
        decide (s.release.since + s.msStrokes (s.num 0x482003) ≤ s.sys.stroke) then
      let a := s.abandonRelease
      .next (s.stage (releaseUnit (.latch .clear :: a.1) (s.recLatch (s.latchByte 0) 3 :: a.2)))
    else .next s
  | none => .next s

/-- The Guy latch written whole: its three copies, GUY_LATCH_CAUSE and GUY_LATCH_STAMP (R88, R89). -/
def State.setLatch (s : State) (released feedEn : Bool) (cause : Nat) : State :=
  let s := { s with guy := { s.guy with released := Tri.all released, feedEn := Tri.all feedEn } }
  (s.setNum 0x12000C cause).setRaw 0x12000D (stampBytes s.stamp)

/-- FEED_LATCH_OFF_CLEAR: at a stroke-timer boundary, Feed's latch-off clears RELEASED and FEED_EN with cause 0x04, whether
or not the core runs; the next Commit publishes it and closes a release (R89, R326, R342). -/
def execFeedLatchOffClear (s : State) : Out :=
  if s.feed.state = 9 ∧ (s.released = true ∨ s.feedEn = true) then
    let was := b2n s.released
    let s := s.setLatch false false 4
    let s := s.later (s.recLatch (s.latchByte 0) 4)
    .next (s.offer 1 0 (beBytes 1 4 ++ beBytes 1 was) [9, was])
  else .next s

/-- The unit of the item a latch-off leaves (R342, R346). -/
def State.latchOffUnit (s : State) (i : Item) : Staged :=
  let a := s.abandonRelease
  let l := if i.aux = [9, 1] then s.publishLock 3 0 else ([], [])
  plainUnit i.key (a.1 ++ l.1) (a.2 ++ l.2)

/-! ## Gathered Feed items (R338, R341) -/

/-- The PG count after the status items a stroke gathered. -/
def pgCountAfter (count : Nat) (items : List Bytes) : Nat :=
  if items = [] then 0 else items.foldl (fun n v => if byteAt v 1 % 4 = 1 then min 2 (n + 1) else 0) count

/-- The unit of a gathered Feed item: FEEDLINE_STATUS with a loss or return of the link, the faults of a status item that
starts them, and the record of an event or of a changed status (R338, R485). -/
def State.feedUnit (s : State) (i : Item) (prev : Bytes) : Staged :=
  let v := i.val
  if 128 ≤ byteAt v 0 then
    let effs := if byteAt v 0 = 0x84 then [objN 0x482005 stFEEDLINE_LOST, Effect.fault 0x24 0]
      else if byteAt v 0 = 0x85 then [objN 0x482005 stOK] else []
    plainUnit i.key effs [s.recItem 6 i]
  else
    let rose (bit : Nat) : Bool := (byteAt v 1).testBit bit && !(byteAt prev 1).testBit bit
    let effs := (if rose 7 then [Effect.fault 0x21 (byteAt v 3)] else []) ++
      (if (byteAt v 1).testBit 3 || (rose 7 && byteAt v 3 == 2) then [Effect.fault 0x22 (byteAt v 3)] else []) ++
      (if rose 4 then [Effect.fault 0x23 0] else [])
    plainUnit i.key effs (if v.take 4 = prev.take 4 then [] else [s.recItem 6 i])

/-- What Feed's items do at Gather: each one's unit, and the PG count of a release at PHASE 2 (R341). -/
def State.feedGather (s : State) : State :=
  let items := s.gathered.filter (·.cls == 3)
  let r := items.foldl (fun (acc : State × Bytes) i =>
    ((acc.1.consume i).stage (acc.1.feedUnit i acc.2), if byteAt i.val 0 < 128 then i.val else acc.2)) (s, s.release.status)
  let s' := { r.1 with release := { r.1.release with status := r.2 } }
  match s.releaseEntry with
  | some (_, e) =>
    if e.phase = 2 then
      s'.stage (releaseUnit [.pgCount (pgCountAfter s.release.count ((items.map (·.val)).filter fun v => byteAt v 0 < 128))] [])
    else s'
  | none => s'

/-- The disposition of a release entry after a core reset, by its phase and the latch found (R347), or after a power-on or
AO reset (R348). FEED_EN found clear at PHASE 2 means that a Feed latch-off ended it (R90), which is an abandonment of R342.
DEDUCED, log entry 123, unsafe. -/
def State.disposeRelease (s : State) (pos : Nat) (e : Inflight) (core : Bool) : List Effect :=
  if e.phase = 3 then [.inflight pos (s.closed e 2 stOK)]
  else if core && e.phase == 2 && s.released then [.inflight pos (s.closed { e with phase := 3 } 2 stOK)]
  else if core && e.phase == 2 && s.feedEn then
    [.inflight pos { s.phased e 2 with state := 4 }, .pgCount 0, .releaseSince s.sys.stroke]
  else
    .inflight pos (s.closed e 5 stBUSY) :: (if core && e.phase == 2 then [.count 49 1, .fault 0x25 e.phase] else [])

/-- START_LOCK_STATE (R349). -/
def State.startLockState (s : State) : Nat := if s.released then 2 else if s.feedEn then 1 else 0

end Sys2Proof.Machine
end

