-- ==== Sys2Proof/Machine/HostPort.lean ====
section
/-!
DEFINITION. HostPort.lean: SPI transfers, the address map, isolation and violations, rings and descriptors, granules,
interrupts, tenant reset, core-reset request and ring re-grant (R126-R153), and the boot-load window's registers (R477).
-/

namespace Sys2Proof.Machine

/-! ## Owners (R135, R138) -/

/-- The owner number of a page: tenant 0-63, 64 the global page. -/
def pageOwner (p : Nat) : Nat := if p = 0 then 64 else p - 1

/-- The page of an owner number. -/
def ownerPage (o : Nat) : Nat := if o = 64 then 0 else o + 1

/-- A tenant is enabled (R153). -/
def State.tenantOn (s : State) (t : Nat) : Bool := (s.num 0x3A0001).testBit t

/-- TENANT_STATE: 0 READY, 1 RESETTING, 2 DISABLED (R134, R150). -/
def State.tenantState (s : State) (t : Nat) : Nat :=
  if !s.tenantOn t then 2 else if s.host.resets.any (·.1 == t) then 1 else 0

/-- RING_COUNT of a page (R138). -/
def State.ringCount (s : State) (p : Nat) : Nat :=
  (alookup (pageOwner p) s.host.counts).getD (s.num (0x6A0001 + pageOwner p))

/-- The owner of a granule. -/
def State.granuleOwner (s : State) (g : Nat) : Nat := s.num (0x3A1201 + g)

/-- A buffer of `len` bytes at an address lies wholly within granules of the page's owner, with PD3 on (R143). -/
def State.ownsRun (s : State) (p addr len : Nat) : Bool :=
  decide (addr < 2 ^ 19) && s.domReady 3 &&
    (len == 0 || (List.range ((addr + len - 1) / 4096 + 1 - addr / 4096)).all fun i =>
      let g := addr / 4096 + i
      decide (g < 96) && s.granuleOwner g == pageOwner p)

/-- Bytes of a buffer, zeros where its owner no longer holds it (R147). -/
def State.bufRead (s : State) (p addr len : Nat) : Bytes :=
  if s.ownsRun p addr len then s.memRead addr len else zeros len

/-- Bytes written to a buffer, dropped where its owner no longer holds it (R147). -/
def State.bufWrite (s : State) (p addr : Nat) (b : Bytes) : State :=
  if s.ownsRun p addr b.length then s.memWrite addr b else s

/-- A shadow counter raised through the object that shows it (R178). -/
def State.countObj (s : State) (key k : Nat) : State :=
  match shadowOf key with
  | some n => s.countUp n k
  | none => s

/-! ## Rings (R139-R146) -/

/-- LOG2_SIZE of a ring: 3 to 12, other values taken as 3. -/
def Ring.log (r : Ring) : Nat := let l := bits r.cfg 7 4; if 3 ≤ l ∧ l ≤ 12 then l else 3

/-- Descriptors of a ring's table. -/
def Ring.size (r : Ring) : Nat := 2 ^ r.log

/-- TYPE of a ring. -/
def Ring.type (r : Ring) : Nat := bits r.cfg 3 1

/-- Address of the descriptor at a position (R141). -/
def Ring.descAddr (r : Ring) (i : Nat) : Nat := r.base + i % r.size * 32

/-- Positions between two indices, modulo twice the size (R141). -/
def Ring.dist (r : Ring) (a b : Nat) : Nat := (b + 2 * r.size - a) % (2 * r.size)

/-- Descriptors offered and not taken; on a completion ring, completions not yet freed. -/
def Ring.ready (r : Ring) : Nat := if r.type = 2 then r.dist r.hostIdx r.devIdx else r.dist r.devIdx r.hostIdx

/-- A ring that takes descriptors: active and not draining. -/
def Ring.takes (r : Ring) : Bool := r.active && !r.draining

/-- A ring with nothing offered and nothing taken (R152). -/
def Ring.idle (r : Ring) : Bool := !r.active || (r.ready == 0 && r.taken == [])

/-- ERROR of a ring set, with bit 2 of its page's IRQ_CAUSE where it changes (R139, R148). -/
def State.ringError (s : State) (r : Ring) (e : Nat) : State :=
  if r.error = e then s else (s.setRing { r with error := e }).irq r.page 2

/-- The descriptor at the head of a ring, with its position. -/
def State.ringHead (s : State) (r : Ring) : Option (Nat × Bytes) :=
  if r.takes && r.type != 2 && decide (0 < r.ready) && s.domReady 3 then
    some (r.devIdx, s.bufRead r.page (r.descAddr r.devIdx) 32)
  else none

/-- The owner of a ring holds the granules of the table position (R136). -/
def State.ownsTable (s : State) (r : Ring) (pos : Nat) : Bool := s.ownsRun r.page (r.descAddr pos) 32

/-- The head of a ring taken (R141, R142). -/
def State.takeHead (s : State) (r : Ring) : State :=
  s.setRing { r with devIdx := (r.devIdx + 1) % (2 * r.size), taken := r.taken ++ [r.devIdx] }

/-- The fields of a descriptor (R143). -/
def descTag (d : Bytes) : Nat := leNat (slice d 0 2)
def descBuf (d : Bytes) : Nat := leNat (slice d 4 4)
def descLen (d : Bytes) : Nat := leNat (slice d 8 2)
def descAux (d : Bytes) : Nat := leNat (slice d 12 4)
def descAuxLen (d : Bytes) : Nat := leNat (slice d 16 2)

/-- A completion written into the descriptor it answers: interim, or final with RESULT_LEN and STAMP (R143, R144). The
ring must still be the one the descriptor was taken from. -/
def State.completeDesc (s : State) (page n pos gen : Nat) (interim : Bool) (status len : Nat) (t : Stamp) : State :=
  let r := s.ring page n
  if r.active && r.gen == gen && r.taken.contains pos then
    let a := r.descAddr pos
    let s := (s.bufWrite page (a + 2) [if interim then 2 else 1]).bufWrite page (a + 3) (beBytes 1 status)
    let s := if interim then s
      else ((s.bufWrite page (a + 10) (leBytes 2 len)).bufWrite page (a + 18) (stampLe t)).setRing
        { r with taken := r.taken.filter (· != pos) }
    if r.cfg.testBit 8 then
      let g := s.page page
      s.setPage page { g with ringStatus := setBit g.ringStatus n true }
    else s
  else s

/-- The global page's Ledger-access ring with the lowest local number, which takes events (R146). -/
def State.eventRing (s : State) : Option Ring := s.host.rings.find? fun r => r.page == 0 && r.takes && r.type == 6

/-- An event message written into the first descriptor posted for events, or dropped and counted (R146).
DEDUCED, log entry 50, unsafe. -/
def State.hostEvent (s : State) (msg : Bytes) (t : Stamp) : State :=
  match s.eventRing.bind fun r => (s.host.events.find? (·.1 == r.gen)).map fun e => (r, e) with
  | some (r, e) =>
    let s := { s with host := { s.host with events := s.host.events.erase e } }
    let pos := e.2.1
    if msg.length ≤ e.2.2.2 then ((s.bufWrite 0 e.2.2.1 msg).completeDesc 0 r.num pos r.gen false stOK msg.length t)
    else ((s.completeDesc 0 r.num pos r.gen false stDENIED 0 t).countObj 0x3A0003 1).irq 0 4
  | none => (s.countObj 0x3A0003 1).irq 0 4

/-! ## Violations (R136, R137) -/

/-- A violation of a tenant page counted (R137).
DEDUCED, log entry 57, unsafe. -/
def State.violate (s : State) (p off : Nat) (write : Bool) : State :=
  if p = 0 then s
  else
    let t := p - 1
    let s := s.countObj (0x3A1001 + t) 1
    let g := s.page p
    let s := s.setPage p { g with lastViolation := off % 4096 + 4096 * b2n write + s.sys.stroke % 65536 * 65536 }
    let s := (s.irq p 1).irq 0 1
    { s with host := { s.host with violated := setBit s.host.violated t true } }

/-! ## Ledger descriptors taken at Gather close (R146) -/

/-- One descriptor of a Ledger-access ring taken: its request copied as an item, or completed with NO_SUCH_OBJECT and a
violation where a buffer lies outside the owner's granules (R143), DENIED at the Commit where the response cannot fit
being left to the transaction. A descriptor of the event ring shorter than any message is posted for events.
DEDUCED, log entry 55, unsafe.
DEDUCED, log entry 66, unsafe. -/
def State.takeLedger (s : State) (r : Ring) : State :=
  match s.ringHead r with
  | none => s
  | some (pos, d) =>
    let s' := s.takeHead r
    let p := r.page
    let key := 0x0D000000 + pageOwner p * 65536
    if p = 0 ∧ descLen d < 10 ∧ (s.eventRing.map (·.num)) = some r.num then
      { s' with host := { s'.host with events := s'.host.events ++ [(r.gen, pos, descAux d, descAuxLen d)] } }
    else if s.ownsTable r pos && s.ownsRun p (descBuf d) (descLen d) && s.ownsRun p (descAux d) (descAuxLen d) then
      s'.offer 0x0D (pageOwner p) (s.bufRead p (descBuf d) (descLen d)) [4, 0, p, r.num, pos, r.gen, descAux d, descAuxLen d]
    else (s'.violate p (0x200 + 4 * r.num) true).stage (plainUnit key [.complete p r.num pos r.gen stNO_SUCH_OBJECT 0] [])

/-- Up to four descriptors of each Ledger-access ring, tenants first, the global page last (R146). -/
def State.takeAllLedger (s : State) : State :=
  let order := (s.host.rings.filter (·.page != 0)) ++ (s.host.rings.filter (·.page == 0))
  order.foldl (fun s q =>
    if q.type = 6 then (List.range 4).foldl (fun s _ => s.takeLedger (s.ring q.page q.num)) s else s) s

/-! ## Interrupts (R148, R149) -/

/-- IRQ_CAUSE as read: bit 0 shows the ring completions that are enabled. -/
def State.irqCause (s : State) (p : Nat) : Nat :=
  let g := s.page p
  setBit g.irqCause 0 (decide ((g.ringStatus &&& g.ringEnable) ≠ 0))

/-- An owner's interrupt is pending (R148). -/
def State.irqPending (s : State) (p : Nat) : Bool :=
  let g := s.page p
  decide ((s.irqCause p &&& g.irqEnable) ≠ 0) || decide ((g.ringStatus &&& g.ringEnable) ≠ 0)

/-- The level of HIRQn_N: low while an owner routed to it is pending (R149). -/
def State.hirq (s : State) (n : Nat) : Bool :=
  !((List.range 65).any fun p => s.num (0x3A1101 + pageOwner p) == n && s.irqPending p)

/-! ## Register reads (R133, R134, R139) -/

/-- Word `i` of a byte string stored least significant byte first. -/
def leWord (b : Bytes) (i : Nat) : Nat := leNat (slice b (4 * i) 4)

/-- RING_CFG as read: the fields last written, ENABLE while the ring is enabled. -/
def Ring.cfgWord (r : Ring) : Nat := setBit r.cfg 0 r.takes

/-- RING_STATE (R139). -/
def Ring.stateWord (r : Ring) : Nat := r.error * 256 + 4 * b2n r.closing + 2 * b2n r.draining + b2n r.active

/-- Half of a granule that WINDOW maps: its pool address, none where the page does not own it (R147). -/
def State.windowAddr (s : State) (p : Nat) : Option Nat :=
  let w := (s.page p).window
  let g := bits w 6 0
  if g < 96 ∧ s.granuleOwner g = pageOwner p then some (g * 4096 + 2048 * bits w 8 8) else none

/-- The path of a page's tenant is the register page (R196). -/
def State.pathPage (s : State) (p : Nat) : Bool := p != 0 && s.num (0x383001 + (p - 1)) == 0

/-- A register word of a page at an offset below 0x200 (R134, R139, R199). -/
def State.ctrlWord (s : State) (p off : Nat) : Nat :=
  let g := s.page p
  let r := s.ring p g.ringSel
  let tenant := p != 0
  if off = 0x000 then 0x6464 + (1 + b2n Config.steppingIsB0) * 2 ^ 16 + p * 2 ^ 24 + (if p = 0 ∨ s.tenantOn (p - 1) then 2 ^ 31 else 0)
  else if off = 0x004 then ((shadowOf 0x120003).elim 0 s.shadowSeen) % 2 ^ 16 + s.boot % 2 ^ 16 * 2 ^ 16
  else if off = 0x008 then (shadowOf (if tenant then 0x3A1001 + (p - 1) else 0x3A0002)).elim 0 s.shadowSeen
  else if off = 0x00C then (if tenant then g.lastViolation else 0)
  else if off = 0x010 then s.irqCause p
  else if off = 0x014 then g.irqEnable
  else if off = 0x018 then (if tenant then s.tenantState (p - 1) else 0)
  else if 0x020 ≤ off ∧ off < 0x030 then g.ringStatus / 2 ^ (32 * ((off - 0x20) / 4)) % 2 ^ 32
  else if 0x030 ≤ off ∧ off < 0x040 then g.ringEnable / 2 ^ (32 * ((off - 0x30) / 4)) % 2 ^ 32
  else if off = 0x040 then g.window
  else if 0x044 ≤ off ∧ off < 0x050 then
    (List.range 32).foldl (fun v i => setBit v i (s.granuleOwner (8 * (off - 0x044) + i) == pageOwner p)) 0
  else if off = 0x050 then s.ringCount p
  else if 0x060 ≤ off ∧ off < 0x068 ∧ p = 0 then
    (List.range 32).foldl (fun v i => setBit v i (s.irqPending (8 * (off - 0x060) + i + 1))) 0
  else if 0x068 ≤ off ∧ off < 0x070 ∧ p = 0 then s.host.violated / 2 ^ (8 * (off - 0x068)) % 2 ^ 32
  else if off = 0x070 ∧ p = 0 then s.sys.stroke % 2 ^ 32
  else if 0x080 ≤ off ∧ off < 0x0A0 then (if s.pathPage p then leWord g.qpRequest ((off - 0x080) / 4) else 0)
  else if off = 0x0A4 then (if s.pathPage p then g.qpStatus else 0)
  else if 0x0C0 ≤ off ∧ off < 0x0E0 then (if s.pathPage p then leWord g.qpCompletion ((off - 0x0C0) / 4) else 0)
  else if off = 0x100 then g.ringSel
  else if off = 0x104 then r.cfgWord
  else if off = 0x108 then r.base
  else if off = 0x10C then r.stateWord
  else 0

/-- Whether an access to an offset of a page breaks isolation; none where it is confined without counting: an access
of the global page to what it does not own, the window with PD3 off (R136, R137, R147). -/
def State.confined (s : State) (p off : Nat) : Option Bool :=
  let tenant := p != 0
  if tenant && !s.tenantOn (p - 1) then some true
  else if (0x110 ≤ off ∧ off < 0x200) ∨ (0x600 ≤ off ∧ off < 0x800) then some tenant
  else if 0x200 ≤ off ∧ off < 0x600 ∧ s.ringCount p ≤ (off / 4) % 128 then some tenant
  else if 0x800 ≤ off then
    if !s.domReady 3 then some false else if s.windowAddr p = none then some tenant else none
  else none

/-- One word read at an offset of a page, and whether it violates isolation (R133-R137, R147). -/
def State.hostReadWord (s : State) (p off : Nat) : Nat × Bool :=
  match s.confined p off with
  | some v => (0, v)
  | none =>
    if off < 0x200 then (s.ctrlWord p off, false)
    else if off < 0x400 then ((s.ring p ((off - 0x200) / 4)).hostIdx, false)
    else if off < 0x600 then ((s.ring p ((off - 0x400) / 4)).devIdx, false)
    else
      match s.windowAddr p with
      | some a => (leNat (s.memRead (a + (off - 0x800)) 4), false)
      | none => (0, false)

/-! ## Register writes -/

/-- RING_CFG written with ENABLE set: the ring is activated if every condition of R140 holds, else ERROR becomes
NO_SUCH_OBJECT. A ring that is enabled ignores it. -/
def State.opRingEnable (s : State) (p v : Nat) : State :=
  let r := s.ring p (s.page p).ringSel
  if r.active || decide (s.ringCount p ≤ r.num) then s
  else
    let r := { r with cfg := v &&& 0x7F01FE }
    let compl := s.ring p (bits r.cfg 22 16)
    let ok := decide (1 ≤ r.type) && decide (r.type ≤ 6) &&
      (r.type != 1 || (compl.type == 2 && compl.active && decide (compl.num < s.ringCount p))) &&
      s.ownsRun p r.base (32 * r.size) && s.domReady 3
    if ok then
      let s := s.setRing { r with active := true, draining := false, hostIdx := 0, devIdx := 0, error := 0, taken := [], gen := s.host.gens + 1 }
      let s := if r.error = 0 then s else s.irq p 2
      { s with host := { s.host with gens := s.host.gens + 1 } }
    else (s.setRing r).ringError r stNO_SUCH_OBJECT

/-- RING_CFG written with ENABLE clear: an enabled ring stops taking descriptors and drains; another stores its
configuration (R139, R140). -/
def State.opRingDisable (s : State) (p v : Nat) : State :=
  let r := s.ring p (s.page p).ringSel
  if s.ringCount p ≤ r.num then s
  else if r.active then s.setRing { r with draining := true }
  else s.setRing { r with cfg := v &&& 0x7F01FE }

/-- HOST_IDX of a ring written: descriptors offered, or completion positions freed; dropped with ERROR DENIED where it
would pass the ring's size or move backwards, dropped silently on a closing ring (R141, R152). -/
def State.opHostIdx (s : State) (p n v : Nat) : State :=
  let r := s.ring p n
  let v := v % 2 ^ 13
  if !r.active || r.closing then s
  else
    let legal := decide (v < 2 * r.size) &&
      (if r.type = 2 then decide (r.dist v r.devIdx ≤ r.ready)
      else decide (r.ready ≤ r.dist r.devIdx v) && decide (r.dist r.devIdx v ≤ r.size))
    if legal then s.setRing { r with hostIdx := v } else s.ringError r stDENIED

/-- IRQ_CAUSE bits cleared by writing one; bit 0 is read only (R148).
DEDUCED, log entry 57, unsafe. -/
def State.opIrqClear (s : State) (p v : Nat) : State :=
  let g := s.page p
  s.setPage p { g with irqCause := (List.range 7).foldl (fun c i => if v.testBit i then setBit c i false else c) g.irqCause }

/-- RING_IRQ_STATUS bits of word `w` acknowledged (R148). -/
def State.opRingIrqClear (s : State) (p w v : Nat) : State :=
  let g := s.page p
  let left := (List.range 32).foldl (fun c i => if v.testBit i then setBit c (32 * w + i) false else c) g.ringStatus
  s.setPage p { g with ringStatus := left }

/-- TENANT_VIOLATED bits of word `w` cleared (R134). -/
def State.opViolatedClear (s : State) (w v : Nat) : State :=
  let left := (List.range 32).foldl (fun c i => if v.testBit i then setBit c (32 * w + i) false else c) s.host.violated
  { s with host := { s.host with violated := left } }

/-- TENANT_RESET written: with its key, the reset of a tenant is deposited for gathering (R150). -/
def State.opTenantResetReq (s : State) (v : Nat) : State :=
  if v / 256 = 0xA7 ∧ bits v 7 6 = 0 then s.offer 0x0D 64 [] [5, v % 64] else s

/-- CORE_RESET written: the two words in order deposit a core-reset request; any other value cancels (R151). -/
def State.opCoreReset (s : State) (v : Nat) : State :=
  if v = 0xC5 then { s with host := { s.host with coreSeq := true } }
  else
    let s' := { s with host := { s.host with coreSeq := false } }
    if v = 0x3A ∧ s.host.coreSeq = true then s'.offer 0x0D 64 [] [6] else s'

/-- The 32-byte completion of a Quill request (R198). -/
def quillCompletion (d : Bytes) (status len ring pos gen tagResult : Nat) : Bytes :=
  slice d 0 2 ++ [1] ++ beBytes 1 status ++ slice d 12 4 ++ zeros 2 ++ leBytes 2 len ++ beBytes 1 ring ++ [0] ++
    leBytes 2 pos ++ leBytes 4 gen ++ slice d 18 2 ++ beBytes 1 tagResult ++ zeros 9

/-- A register-page operation completes (R199). -/
def State.pageComplete (s : State) (p : Nat) (completion : Bytes) : State :=
  let g := s.page p
  (s.setPage p { g with
    qpStatus := 2 + byteAt completion 3 * 256 + leNat (slice completion 10 2) * 65536
    qpCompletion := completion }).irq p 6

/-- QP_GO written: 1 starts the register-page operation unless one is BUSY; with PD5 off it completes at once with BUSY
(R199, R200). -/
def State.opQpGo (s : State) (p v : Nat) : State :=
  let g := s.page p
  if s.pathPage p && decide (v = 1) && !g.qpStatus.testBit 0 then
    if s.domReady 5 then s.setPage p { g with qpStatus := 1 }
    else s.pageComplete p (quillCompletion (padTo 32 g.qpRequest) stBUSY 0 0 0 0 0xFF)
  else s

/-- A word of a byte string replaced, stored least significant byte first. -/
def putWord (b : Bytes) (i v : Nat) : Bytes := b.take (4 * i) ++ leBytes 4 v ++ b.drop (4 * i + 4)

/-- A 32-bit word of a wide field replaced. -/
def putField (f w v : Nat) : Nat := f % 2 ^ (32 * w) + v % 2 ^ 32 * 2 ^ (32 * w) + f / 2 ^ (32 * w + 32) * 2 ^ (32 * w + 32)

/-- A control register written (R134, R139, R199): registers that are read only or of the other kind of page ignore
it. -/
def State.writeCtrl (s : State) (p off v : Nat) : State :=
  let g := s.page p
  if off = 0x010 then s.opIrqClear p v
  else if off = 0x014 then s.setPage p { g with irqEnable := v % 128 }
  else if off = 0x018 ∧ p = 0 then s.opTenantResetReq v
  else if off = 0x01C ∧ p = 0 then s.opCoreReset v
  else if 0x020 ≤ off ∧ off < 0x030 then s.opRingIrqClear p ((off - 0x020) / 4) v
  else if 0x030 ≤ off ∧ off < 0x040 then s.setPage p { g with ringEnable := putField g.ringEnable ((off - 0x030) / 4) v }
  else if off = 0x040 then s.setPage p { g with window := v &&& 0x17F }
  else if 0x068 ≤ off ∧ off < 0x070 ∧ p = 0 then s.opViolatedClear ((off - 0x068) / 4) v
  else if 0x080 ≤ off ∧ off < 0x0A0 ∧ s.pathPage p = true then
    s.setPage p { g with qpRequest := putWord (padTo 32 g.qpRequest) ((off - 0x080) / 4) v }
  else if off = 0x0A0 then s.opQpGo p v
  else if off = 0x100 then (if v % 128 < s.ringCount p then s.setPage p { g with ringSel := v % 128 } else s)
  else if off = 0x104 then (if v.testBit 0 then s.opRingEnable p v else s.opRingDisable p v)
  else if off = 0x108 then
    let r := s.ring p g.ringSel
    if r.active || decide (s.ringCount p ≤ r.num) then s else s.setRing { r with base := v &&& 0x7FFE0 }
  else s

/-- One word written at an offset of a page, and whether it violates isolation (R133-R137). While a tenant is RESETTING
nothing is written and nothing counted.
DEDUCED, log entry 54, unsafe. -/
def State.hostWriteWord (s : State) (p off v : Nat) : State × Bool :=
  match s.confined p off with
  | some x => (s, x)
  | none =>
    if p ≠ 0 ∧ s.tenantState (p - 1) = 1 then (s, false)
    else if off = 0x100 ∧ p ≠ 0 ∧ s.ringCount p ≤ v % 128 then (s, true)
    else if off < 0x200 then (s.writeCtrl p off v, false)
    else if off < 0x400 then (s.opHostIdx p ((off - 0x200) / 4) v, false)
    else if off < 0x600 then (s, false)
    else
      match s.windowAddr p with
      | some a => (s.memWrite (a + (off - 0x800)) (leBytes 4 v), false)
      | none => (s, false)

/-! ## The boot-load window (R477) -/

/-- The slot the window targets: the one with the smaller ACTIVATION in a complete seal, slot B where they count alike. -/
def State.windowSlotB (s : State) : Bool :=
  let act (x : Slot) : Nat := if x.mark = .complete then x.sealPage.activation + 1 else 0
  decide (act s.img.slotB ≤ act s.img.slotA)

/-- Bytes of an image page as written (R157), zero bytes where nothing was written since delivery. -/
def Slot.page (x : Slot) (n : Nat) : Bytes := padTo 256 ((alookup n x.pages).getD [])

/-- Bytes written into a slot from an offset; bytes at or beyond 0x17F00 are dropped. -/
def Slot.write (x : Slot) (off : Nat) (b : Bytes) : Slot :=
  b.zipIdx.foldl (fun x y =>
    let a := off + y.2
    if a < 0x17F00 then
      { x with delivered := none, pages := ainsert (a / 256) ((x.page (a / 256)).set (a % 256) y.1) x.pages }
    else x) x

/-- BW_STATE (R477). -/
def State.bwState (s : State) : Nat := b2n s.host.bwOpen + 2 * b2n s.windowSlotB + s.host.bwStatus * 256

/-- Whether the window serves a word (R477): BW_OFFSET and BW_STATE, and BW_DATA for writes. -/
def bwServes (write : Bool) (off : Nat) : Bool :=
  off == 0x080 || (!write && off == 0x084) || (write && decide (0x800 ≤ off))

/-- A word written in the window: BW_OFFSET, or data into the target slot. -/
def State.bwWrite (s : State) (off v : Nat) : State :=
  if off = 0x080 then { s with host := { s.host with bwOffset := v } }
  else
    let put (x : Slot) : Slot := x.write (s.host.bwOffset + (off - 0x800)) (leBytes 4 v)
    { s with img := if s.windowSlotB then { s.img with slotB := put s.img.slotB } else { s.img with slotA := put s.img.slotA } }

/-! ## Transfers (R126-R132) -/

/-- The host port answers: the device is out of every reset that clears PD1 and not in standby (R132). -/
def State.portUp (s : State) : Bool :=
  s.sys.power == .running || s.sys.power == .waitVhold || s.sys.power == .bootWindow

/-- PAGE, OFFSET and the number of words of a command (R128). -/
def cmdPage (c : Bytes) : Nat := bits (beNat (slice c 1 3)) 18 12
def cmdOff (c : Bytes) : Nat := bits (beNat (slice c 1 3)) 11 0
def cmdWords (c : Bytes) : Nat := bits (beNat (slice c 4 2)) 9 0 + 1

/-- The status of a transfer judged by its 7 command bytes; `op` is the opcode its sequence belongs to, `dataOk` that the
CRC-16 of a write passed (R128, R131).
DEDUCED, log entry 54, unsafe. -/
def State.transferStatus (s : State) (op : Nat) (c : Bytes) (dataOk : Bool) : Nat :=
  let addr := beNat (slice c 1 3)
  let len := beNat (slice c 4 2)
  let page := cmdPage c
  let denied := byteAt c 0 != op || addr / 2 ^ 19 != 0 || len / 2 ^ 10 != 0 || cmdOff c % 4 != 0 ||
    (op == 0xE0 && len != 0) || decide (4096 < cmdOff c + 4 * cmdWords c)
  let window := s.sys.power == .bootWindow
  let write := op == 0xB1 || op == 0xB4
  let barred := window && op != 0xE0 &&
    (page != 0 || !((List.range (cmdWords c)).all fun i => bwServes write (cmdOff c + 4 * i)) ||
      (op == 0xB4 && !Config.steppingIsB0))
  let crc := crc8 (slice c 0 6) == byteAt c 6
  firstRefusal ((if 0x40 < page then [stNO_SUCH_OBJECT] else []) ++ (if denied || barred then [stDENIED] else []) ++
    (if crc && dataOk then [] else [stBUSY]))

/-- The STATUS pair of R130. -/
def statusPair (st : Nat) : Bytes := beBytes 1 st ++ beBytes 1 (255 - st)

/-- The answer driven on the lines kept, with the failed checks counted (R131). -/
def State.answer (s : State) (st : Nat) (rest : Bytes) : State :=
  let s := if st = stBUSY then s.countObj 0x3A0002 1 else s
  { s with host := { s.host with
    reply := statusPair st ++ rest, bwStatus := if s.sys.power = .bootWindow then st else s.host.bwStatus } }

/-- What the host reads while the device drives nothing (R132): zeros. -/
def State.silent (s : State) (n : Nat) : State := { s with host := { s.host with reply := zeros n } }

/-- A read transfer: status pair, data, CRC-16 over both; zeros as data where it is refused (R129-R131). A burst that
contains violating words counts as one violation, at its first (R137). -/
def State.hostRead (s : State) (op : Nat) (c : Bytes) : State :=
  let n := cmdWords c
  if !s.portUp then s.silent (4 + 4 * n)
  else
    let st := s.transferStatus op c true
    let offs := (List.range n).map fun i => cmdOff c + 4 * i
    if st = stOK then
      let p := cmdPage c
      let words := if s.sys.power = .bootWindow then offs.map fun o => (if o = 0x080 then s.host.bwOffset else s.bwState, false)
        else offs.map fun o => s.hostReadWord p o
      let data := words.flatMap fun w => beBytes 4 w.1
      let s := match (offs.zip words).find? (·.2.2) with
        | some w => s.violate p w.1 false
        | none => s
      s.answer st (data ++ beBytes 2 (crc16 (statusPair st ++ data)))
    else
      let data := zeros (4 * n)
      s.answer st (data ++ beBytes 2 (crc16 (statusPair st ++ data)))

/-- A write transfer: `data` is what followed the command, words and CRC-16 in wire order; one cut short has no effect
(R129-R132). -/
def State.hostWrite (s : State) (op : Nat) (c data : Bytes) : State :=
  let n := cmdWords c
  if !s.portUp then s.silent 2
  else if data.length < 4 * n + 2 then s
  else
    let body := data.take (4 * n)
    let st := s.transferStatus op c (crc16 body == beNat (slice data (4 * n) 2))
    if st = stOK then
      let p := cmdPage c
      let words := (List.range n).map fun i => (cmdOff c + 4 * i, beNat (slice body (4 * i) 4))
      if s.sys.power = .bootWindow then
        if words.any fun w => w.1 == 0x080 && (w.2 % 2048 != 0 || decide (0x17800 < w.2)) then s.answer stDENIED []
        else (words.foldl (fun s w => s.bwWrite w.1 w.2) s).answer st []
      else
        let r := words.foldl (fun (acc : State × Option Nat) w =>
          let x := acc.1.hostWriteWord p w.1 w.2
          (x.1, if x.2 && acc.2.isNone then some w.1 else acc.2)) (s, none)
        (match r.2 with
        | some o => r.1.violate p o true
        | none => r.1).answer st []
    else s.answer st []

/-- READ_SINGLE_LANE: opcode 0xA1 (R130). -/
def execReadSingleLane (cmd : Bytes) (s : State) : Out := .next (s.hostRead 0xA1 cmd)

/-- READ_QUAD: opcode 0xA4 (R130). -/
def execReadQuad (cmd : Bytes) (s : State) : Out := .next (s.hostRead 0xA4 cmd)

/-- WRITE_SINGLE_LANE: opcode 0xB1 (R130). -/
def execWriteSingleLane (cmd data : Bytes) (s : State) : Out := .next (s.hostWrite 0xB1 cmd data)

/-- WRITE_QUAD: opcode 0xB4 (R130). -/
def execWriteQuad (cmd data : Bytes) (s : State) : Out := .next (s.hostWrite 0xB4 cmd data)

/-- PROBE: opcode 0xE0, a status pair alone (R130). -/
def execProbe (cmd : Bytes) (s : State) : Out :=
  if s.portUp then .next (s.answer (s.transferStatus 0xE0 cmd true) []) else .next (s.silent 2)

/-! ## Register writes as commands -/

/-- One accepted register write of a page (R132), with its violation counted (R137). -/
def State.regWrite (s : State) (p off v : Nat) : State :=
  if s.sys.power == .bootWindow || !s.portUp || decide (64 < p) || decide (4096 ≤ off) || off % 4 != 0 then s
  else
    let x := s.hostWriteWord p off (v % 2 ^ 32)
    if x.2 then x.1.violate p off true else x.1

/-- REGISTER_WRITE (R132). -/
def execRegisterWrite (page off v : Nat) (s : State) : Out := .next (s.regWrite page off v)

/-- IRQ_CAUSE_CLEAR (R148). -/
def execIrqCauseClear (page v : Nat) (s : State) : Out := .next (s.regWrite page 0x010 v)

/-- RING_IRQ_STATUS_CLEAR of word `w`, 0-3 (R148). -/
def execRingIrqStatusClear (page w v : Nat) (s : State) : Out := .next (s.regWrite page (0x020 + 4 * (w % 4)) v)

/-- TENANT_VIOLATED_CLEAR of word `w`, 0-1 (R134). -/
def execTenantViolatedClear (w v : Nat) (s : State) : Out := .next (s.regWrite 0 (0x068 + 4 * (w % 2)) v)

/-- TENANT_RESET: the global page's register written (R150). -/
def execTenantReset (v : Nat) (s : State) : Out := .next (s.regWrite 0 0x018 v)

/-- CORE_RESET_REQUEST: one write of the global page's CORE_RESET (R151). -/
def execCoreResetRequest (v : Nat) (s : State) : Out := .next (s.regWrite 0 0x01C v)

/-- RING_ENABLE: RING_CFG written with ENABLE set (R140). -/
def execRingEnable (page v : Nat) (s : State) : Out := .next (s.regWrite page 0x104 (v ||| 1))

/-- RING_DISABLE: RING_CFG written with ENABLE clear (R140). -/
def execRingDisable (page v : Nat) (s : State) : Out := .next (s.regWrite page 0x104 (setBit v 0 false))

/-- HOST_IDX_WRITE of a local ring (R141). -/
def execHostIdxWrite (page ring v : Nat) (s : State) : Out := .next (s.regWrite page (0x200 + 4 * (ring % 128)) v)

/-- QP_GO (R199). -/
def execQpGo (page v : Nat) (s : State) : Out := .next (s.regWrite page 0x0A0 v)

/-- RING_DRAINED: a draining ring whose descriptors have all completed is no longer active (R140). -/
def execRingDrained (page ring : Nat) (s : State) : Out :=
  let r := s.ring page ring
  if r.draining && r.taken == [] then .next (s.setRing { r with draining := false, active := false }) else .next s

/-! ## Tenants, granules and quotas (R147, R150, R152, R153) -/

/-- A write of a host-port object that only classes 0 and 4 may make (R153). -/
def hostGuard (r : Requester) (x : OpResult) : OpResult := if r.cls = 0 ∨ r.cls = 4 then x else .refuse stDENIED

/-- TENANT_ENABLE written: tenants whose bit clears are reset and left DISABLED (R150, R153). -/
def State.opTenantEnable (s : State) (r : Requester) (v : Bytes) : OpResult :=
  hostGuard r (.ok (.obj 0x3A0001 v ::
    (((List.range 64).filter fun t => s.tenantOn t && !(beNat v).testBit t).map fun t => .tenantReset t true)))

/-- A granule is in use: an enabled ring of its owner has part of its descriptor table in it (R147). -/
def State.granuleInUse (s : State) (g : Nat) : Bool :=
  s.host.rings.any fun r => r.active && pageOwner r.page == s.granuleOwner g &&
    decide (r.base / 4096 ≤ g) && decide (g ≤ (r.base + 32 * r.size - 1) / 4096)

/-- GRANULE_OWNER written: a change clears the granule at its Commit (R147). -/
def State.opGranuleOwner (s : State) (r : Requester) (g : Nat) (v : Bytes) : OpResult :=
  hostGuard r (.ok (.obj (0x3A1201 + g) v :: (if beNat v = s.granuleOwner g then [] else [.granule g])))

/-- A tenant reset at its boundary (R150). Lanes and held completions of the tenant are dealt with by Quill. -/
def State.tenantResetNow (s : State) (t : Nat) : State :=
  let p := t + 1
  let mem := (List.range 96).foldl (fun m g => if s.granuleOwner g = t then Memory.clearGranule m g else m) s.mem
  { s with
    mem := mem
    host := { s.host with
      pages := aerase p s.host.pages
      rings := s.host.rings.filter (·.page != p)
      resets := ainsert t (s.sys.stroke + 2) s.host.resets } }

/-- TENANT_RESET_COMPLETE: at the Commit of stroke n + 2 the tenant is READY again, with bit 3 of both IRQ_CAUSE
registers (R150). -/
def execTenantResetComplete (t : Nat) (s : State) : Out :=
  match alookup t s.host.resets with
  | some due =>
    if s.sys.power == .running && s.sys.phase != .gather && decide (due ≤ s.sys.stroke) then
      .next (s.stage (plainUnit 0x0D400000 [.tenantReady t] []))
    else .next s
  | none => .next s

/-- The tenant is READY (R150).
DEDUCED, log entry 54, unsafe. -/
def State.tenantReadyNow (s : State) (t : Nat) : State :=
  let s := { s with host := { s.host with resets := aerase t s.host.resets } }
  if s.tenantOn t then (s.irq (t + 1) 3).irq 0 3 else s

/-- What a transaction that changes quotas brings, given the quotas after it: its in-flight entry at phase 1, and the ring
counts kept until phase 2; none where no quota changes, BUSY where no entry is free (R111, R152). -/
def State.opRegrant (s : State) (r : Requester) (inst : Nat) (quota : Nat → Nat) : OpResult :=
  let moved := (List.range 65).filter fun o => quota o != s.num (0x6A0001 + o)
  if moved = [] then .ok []
  else match s.inflightSlot with
    | none => .refuse stBUSY
    | some pos => .start [.inflight pos (s.newEntry 8 2 inst 1 r), .regrantClose pos (moved.map fun o => (o, s.ringCount (ownerPage o)))]

/-- Phase 1 of a re-grant at its boundary: the counts before it are kept, and the rings beyond the new quotas close
(R152).
DEDUCED, log entry 56, unsafe. -/
def State.regrantCloseNow (s : State) (pos : Nat) (counts : List (Nat × Nat)) : State :=
  { s with host := { s.host with
    counts := counts.foldl (fun l c => if (alookup c.1 l).isSome then l else ainsert c.1 c.2 l) s.host.counts
    regrants := s.host.regrants ++ [(pos, s.sys.stroke)]
    rings := s.host.rings.map fun r =>
      if s.num (0x6A0001 + pageOwner r.page) ≤ r.num then { r with closing := true } else r } }

/-- Positions a ring offers that nothing has taken. -/
def Ring.offered (r : Ring) : List Nat :=
  if r.type = 2 then [] else (List.range r.ready).map fun i => (r.devIdx + i) % (2 * r.size)

/-- The output buffer of a descriptor by its ring's type: address and length (R143, R146).
DEDUCED, log entry 67, unsafe. -/
def descOut (type : Nat) (d : Bytes) : Nat × Nat :=
  match type with
  | 3 | 5 => (descBuf d, descLen d)
  | 6 => (descAux d, descAuxLen d)
  | _ => (0, 0)

/-- Phase 2 at its boundary: descriptors still open complete with BUSY and zeroed outputs, the closing rings are cleared, and
the counts of the affected owners change, with bit 5 of their IRQ_CAUSE (R152). Request rings of Quill are ended before.
DEDUCED, log entry 67, unsafe. -/
def State.regrantMoveNow (s : State) : State :=
  let closing := s.host.rings.filter fun r => r.closing && r.type != 1
  let s := closing.foldl (fun s r =>
    let r := s.ring r.page r.num
    let open' := r.taken ++ r.offered
    let s := s.setRing { r with taken := open' }
    open'.foldl (fun s pos =>
      let o := descOut r.type (s.bufRead r.page (r.descAddr pos) 32)
      (s.bufWrite r.page o.1 (zeros o.2)).completeDesc r.page r.num pos r.gen false stBUSY 0 s.stamp) s) s
  let owners := s.host.counts.map (·.1)
  let s := { s with host := { s.host with rings := s.host.rings.filter (!·.closing), counts := [], regrants := [] } }
  owners.foldl (fun s o => s.irq (ownerPage o) 5) s

/-- REGRANT_MOVED: phase 2 stands at the first Commit at which every closing ring is idle, and no later than 8 strokes
after phase 1 (R152).
DEDUCED, log entry 56, unsafe. -/
def execRegrantMoved (s : State) : Out :=
  match s.host.regrants with
  | [] => .next s
  | (_, first) :: _ =>
    let idle := (s.host.rings.filter (·.closing)).all (·.idle)
    if s.working && (idle || decide (first + 8 ≤ s.sys.stroke)) then
      .next (s.stage (plainUnit 0x0E000000
        (.regrantMove :: s.host.regrants.map fun g => .inflight g.1 (s.closed (s.phased (s.inflightAt g.1) 2) 2 stOK)) []))
    else .next s

end Sys2Proof.Machine
end

