-- ==== Sys2Proof/Machine/Quill.lean ====
section
/-!
DEFINITION. Quill.lean: modes, requests of tenants and internal queues, the arbiter, lanes, completions, key loading and
erasing, the entropy source, parity faults and quarantine (R183-R209, R231).
-/

namespace Sys2Proof.Machine

/-! ## The modes (R184-R186, R206) -/

/-- Lengths of a mode (R184): whether a request of IV length, associated data, payload, tag length and output length
lies in its row. Modes without an IV, associated data or a tag name none. -/
def modeLegal (mode iv aad p t out : Nat) : Bool :=
  let gcmTag' := t == 4 || t == 8 || (decide (12 ≤ t) && decide (t ≤ 16))
  let ccmTag' := t % 2 == 0 && decide (4 ≤ t) && decide (t ≤ 16)
  match mode with
  | 1 | 2 => iv == 16 && aad == 0 && t == 0 && out == 0 && p % 16 == 0 && decide (16 ≤ p)
  | 3 => iv == 16 && aad == 0 && t == 0 && out == 0 && decide (1 ≤ p)
  | 4 => iv == 12 && gcmTag' && out == 0
  | 5 => iv == 12 && gcmTag' && out == 0 && decide (p ≤ 16384)
  | 6 => decide (7 ≤ iv) && decide (iv ≤ 13) && ccmTag' && out == 0 && decide (p < 256 ^ (15 - iv))
  | 7 => decide (7 ≤ iv) && decide (iv ≤ 13) && ccmTag' && out == 0 && decide (p ≤ 16384)
  | 8 | 9 => iv == 0 && aad == 0 && decide (4 ≤ t) && decide (t ≤ 16) && out == 0
  | 10 => iv == 0 && aad == 0 && t == 0 && decide (p ≤ 240) && decide (1 ≤ out) && decide (out ≤ 64)
  | _ => false

/-- Output length of a request. -/
def outLength (mode p t out : Nat) : Nat :=
  match mode with
  | 4 | 6 => p + t
  | 8 => t
  | 9 => 0
  | 10 => out
  | _ => p

/-- A mode that verifies a received tag. -/
def isVerify (mode : Nat) : Bool := mode == 5 || mode == 7 || mode == 9

/-- What an operation computes: its output, and TAG_RESULT (0 matched, 1 failed, 0xFF none) (R184-R186, R206). -/
def quillRun (mode : Nat) (key iv aad p tag : Bytes) (t out : Nat) : Bytes × Nat :=
  let k := nums key
  let i := nums iv
  let a := nums aad
  let m := nums p
  let verdict (full : List Nat) : Nat := if toBytes (full.take tag.length) = tag then 0 else 1
  match mode with
  | 1 => (toBytes (cbcEnc k i m), 0xFF)
  | 2 => (toBytes (cbcDec k i m), 0xFF)
  | 3 => (toBytes (ctrMode k i m), 0xFF)
  | 4 => let c := gcmCrypt k i m; (toBytes (c ++ (gcmTag k i a c).take t), 0xFF)
  | 5 => let v := verdict (gcmTag k i a m); (if v = 0 then toBytes (gcmCrypt k i m) else [], v)
  | 6 => (toBytes (ccmCrypt k i m ++ ccmTag k i a m t), 0xFF)
  | 7 =>
    let x := ccmCrypt k i m
    let v := verdict (ccmTag k i a x tag.length)
    (if v = 0 then toBytes x else [], v)
  | 8 => (toBytes ((cmac k m).take t), 0xFF)
  | 9 => ([], verdict (cmac k m))
  | _ => (toBytes (kdf k m out), 0xFF)

/-- AES block operations of a request (R207). -/
def blockOps (mode a p out : Nat) : Nat :=
  let up (n : Nat) := (n + 15) / 16
  match mode with
  | 1 | 2 | 3 => up p
  | 4 | 5 => up p + 2
  | 6 | 7 => 1 + up (if a = 0 then 0 else if a < 65280 then a + 2 else a + 6) + 2 * up p + 1
  | 8 | 9 => 1 + max 1 (up p)
  | _ => 1 + up out * up (p + 8)

/-- Duration in CK_QUILL cycles (R207). -/
def quillCycles (mode keyLen a p out : Nat) : Nat :=
  96 + blockOps mode a p out * (12 * (keyLen / 4 + 6) + 4) + 4 * (((if mode = 4 ∨ mode = 5 then a else 0) + 15) / 16) + 32

/-! ## Requests of tenants (R194, R197, R200) -/

/-- A request descriptor's fields (R197). -/
structure QReq where
  slot : Nat
  mode : Nat
  expect : Option Nat
  iv : Nat
  aad : Nat
  payload : Nat
  tag : Nat
  out : Nat
  legal : Bool
  deriving DecidableEq, Repr

/-- The fields of a descriptor; `flags` says whether bytes 2-3 and 10-11 are judged, as in a ring (R197, R199). -/
def QReq.of (d : Bytes) (flags : Bool) : QReq :=
  let mode := byteAt d 19
  let ctrl := byteAt d 26
  let spec := leNat (slice d 24 2)
  let iv := byteAt d 27
  let tagged := decide (4 ≤ mode) && decide (mode ≤ 9)
  let t := if tagged then ctrl / 16 + 1 else ctrl / 16
  let aad := if 4 ≤ mode ∧ mode ≤ 7 then spec else 0
  let out := if 4 ≤ mode ∧ mode ≤ 7 then 0 else spec
  let rest := iv + aad + (if isVerify mode then t else 0)
  let p := descLen d - rest
  let len := outLength mode p t out
  ⟨byteAt d 18, mode, if ctrl.testBit 0 then some (leNat (slice d 20 4)) else none, iv, aad, p, t, len,
    decide (rest ≤ descLen d) && modeLegal mode iv aad p t out && bits ctrl 3 1 == 0 && slice d 28 4 == zeros 4 &&
      decide (len ≤ descAuxLen d) && (!flags || byteAt d 2 / 4 == 0)⟩

/-- What the arbiter would start: its source and descriptor. -/
abbrev Work := QSrc × Bytes

/-- An operation of a tenant's page that a lane runs, or that waits for a completion position. -/
def State.pageRunning (s : State) (p : Nat) : Bool := s.quill.lanes.any fun l => l.2.src == .page p

/-- The completion ring of a request ring. -/
def State.complRing (s : State) (r : Ring) : Ring := s.ring r.page (bits r.cfg 22 16)

/-- A completion ring with a free position (R145). -/
def Ring.hasRoom (r : Ring) : Bool := r.active && r.type == 2 && decide (r.ready < r.size)

/-- The work a page has ready, in the order of R200: its register page, then its request rings in order. -/
def State.pageWork (s : State) (p : Nat) : Option Work :=
  if s.pathPage p && (s.page p).qpStatus.testBit 0 && !s.pageRunning p then some (.page p, padTo 32 (s.page p).qpRequest)
  else
    (s.host.rings.filter fun r => r.page == p && r.type == 1).findSome? fun r =>
      if (s.complRing r).hasRoom && !(s.quill.held.any fun h => h.1 == p) then
        (s.ringHead r).map fun h => (.ring p r.num h.1, h.2)
      else none

/-- Duration of a work on lane 0, by its fields and the key length of its slot (R183, R207).
DEDUCED, log entry 68, safe. -/
def State.workCycles (s : State) (w : Work) : Nat :=
  let q := QReq.of w.2 false
  if q.legal then quillCycles q.mode (s.slotView q.slot).key.length q.aad q.payload q.out else 64

/-- The tenant work a lane takes, in rotation by tenant number from `turn`, the global page after tenant 63 (R183,
R200).
DEDUCED, log entry 68, safe. -/
def State.tenantWork (s : State) (lane : Nat) : Option (Nat × Work) :=
  (List.range 65).findSome? fun i =>
    let o := (s.quill.turn + i) % 65
    match s.pageWork (ownerPage o) with
    | some w => if lane = 0 ∧ 8316 < s.workCycles w then none else some (o, w)
    | none => none

/-- The oldest internal request of the first queue that is not empty (R183). -/
def State.intWork (s : State) : Option IntReq :=
  (List.range 4).findSome? fun q => s.quill.queue.find? (·.queue == q)

/-- The outcome a start is refused with, OK where it runs (R194, R196, R205). -/
def State.startStatus (s : State) (p : Nat) (ring : Bool) (d : Bytes) (q : QReq) : Nat :=
  let k := s.slotView q.slot
  if s.quill.state = 1 then stQUARANTINED
  else firstRefusal (
    (if q.slot < 0x50 ∨ k.state ≠ 1 ∨ !s.ownsRun p (descBuf d) (descLen d) ∨ !s.ownsRun p (descAux d) q.out then [stNO_SUCH_OBJECT] else []) ++
    (if p = 0 ∨ !k.map.testBit (p - 1) ∨ !k.modes.testBit (q.mode - 1) ∨ q.mode = 0 ∨ !q.legal ∨ (ring && s.pathPage p) then [stDENIED] else []) ++
    (if q.expect.elim false (· != k.gen) then [stKEY_STALE] else []))

/-- An operation of a tenant as a lane takes it: checked, the key copied, its result computed (R194). -/
def State.tenantOp (s : State) (w : Work) : QOp :=
  let d := w.2
  let (p, ring) : Nat × Bool := match w.1 with
    | .ring p _ _ => (p, true)
    | .page p => (p, false)
    | .int _ => (0, false)
  let q := QReq.of d ring
  let table := match w.1 with
    | .ring p n pos => s.ownsTable (s.ring p n) pos
    | _ => true
  let st := if table then s.startStatus p ring d q else stNO_SUCH_OBJECT
  if st = stOK then
    let k := s.slotView q.slot
    let b := s.bufRead p (descBuf d) (descLen d)
    let r := quillRun q.mode k.key (b.take q.iv) (slice b q.iv q.aad) (slice b (q.iv + q.aad) q.payload)
      (if isVerify q.mode then b.drop (q.iv + q.aad + q.payload) else []) q.tag q.out
    ⟨w.1, d, q.slot, q.mode, k.gen, if r.2 = 1 then stDENIED else stOK, r.2, r.1, q.out⟩
  else ⟨w.1, d, q.slot, q.mode, 0, st, 0xFF, [], if q.legal then q.out else 0⟩

/-! ## Internal requests (R183, R191, R195) -/

/-- Fields of a key-load image (R191). -/
def loadSlot (v : Bytes) : Nat := byteAt v 0
def loadWrapped (v : Bytes) : Bool := (byteAt v 1).testBit 0
def loadLen (v : Bytes) : Nat := byteAt v 2
def loadExpect (v : Bytes) : Nat := beNat (slice v 4 4)

/-- The key of an install: plain, or unwrapped with AES-GCM under slot 0x45 (R191). -/
def State.installOp (s : State) (r : IntReq) : QOp :=
  let v := r.payload
  let src := QSrc.int r
  if s.quill.state = 1 then ⟨src, [], loadSlot v, 0, 0, stQUARANTINED, 0xFF, [], 0⟩
  else if loadWrapped v then
    let k := s.slotView 0x45
    if k.state ≠ 1 then ⟨src, [], loadSlot v, 0, 0, stNO_SUCH_OBJECT, 0xFF, [], 0⟩
    else
      let x := quillRun 5 k.key (slice v 8 12) (slice v 0 8) (slice v 20 (loadLen v)) (slice v 52 16) 16 0
      ⟨src, [], loadSlot v, 0, k.gen, if x.2 = 0 then stOK else stDENIED, x.2, x.1, 0⟩
  else ⟨src, [], loadSlot v, 0, 0, stOK, 0xFF, slice v 20 (loadLen v), 0⟩

/-- An internal request as lane 0 takes it. -/
def State.intOp (s : State) (r : IntReq) : QOp :=
  if r.mode = 0 then s.installOp r
  else
    let k := s.slotView r.slot
    let st := if s.quill.state = 1 then stQUARANTINED
      else if k.state ≠ 1 then stNO_SUCH_OBJECT
      else if r.expect.elim false (· != k.gen) then stKEY_STALE
      else stOK
    if st = stOK then
      let x := quillRun r.mode k.key r.iv r.aad r.payload r.tag 16 r.outLen
      ⟨.int r, [], r.slot, r.mode, k.gen, if x.2 = 1 then stDENIED else stOK, x.2, x.1, 0⟩
    else ⟨.int r, [], r.slot, r.mode, 0, st, 0xFF, [], 0⟩

/-! ## Lanes -/

/-- Quill accepts work: PD5 is on and its tests have run (R187, R200). A quarantined Quill completes what it takes. -/
def State.quillUp (s : State) : Bool := s.domReady 5 && (s.quill.state == 0 || s.quill.state == 1)

/-- A tenant's request taken whose input or output lies outside its granules, or that names them in a table outside them,
counts as a violation (R136, R143).
DEDUCED, log entry 66, unsafe. -/
def State.violateWork (s : State) (w : Work) : State :=
  let q := QReq.of w.2 false
  let bad (p : Nat) : Bool := !s.ownsRun p (descBuf w.2) (descLen w.2) || !s.ownsRun p (descAux w.2) q.out
  match w.1 with
  | .ring p n pos => if bad p || !s.ownsTable (s.ring p n) pos then s.violate p (0x200 + 4 * n) true else s
  | .page p => if bad p then s.violate p 0x0A0 true else s
  | .int _ => s

/-- The operation a free lane would start next, and the state once it is taken from its source (R183, R200). -/
def State.nextOp (s : State) (lane : Nat) : Option (QOp × State) :=
  match if lane = 0 then s.intWork else none with
  | some r => some (s.intOp r, { s with quill := { s.quill with queue := s.quill.queue.erase r } })
  | none => (s.tenantWork lane).map fun w =>
      let s' := match w.2.1 with
        | .ring p n _ => s.takeHead (s.ring p n)
        | _ => s
      (s.tenantOp w.2, { s'.violateWork w.2 with quill := { s'.quill with turn := (w.1 + 1) % 65 } })

/-- A free lane starts its next operation where that is of the mode the command names. -/
def State.laneStart (s : State) (mode lane : Nat) : State :=
  if s.quillUp && decide (lane < 4) && (alookup lane s.quill.lanes).isNone then
    match s.nextOp lane with
    | some (op, s') => if op.mode = mode then { s' with quill := { s'.quill with lanes := ainsert lane op s'.quill.lanes } } else s
    | none => s
  else s

/-- CBC_ENCRYPT starts on a lane (R184, R194). -/
def execCbcEncrypt (lane : Nat) (s : State) : Out := .next (s.laneStart 1 lane)

/-- CBC_DECRYPT starts on a lane. -/
def execCbcDecrypt (lane : Nat) (s : State) : Out := .next (s.laneStart 2 lane)

/-- CTR starts on a lane. -/
def execCtr (lane : Nat) (s : State) : Out := .next (s.laneStart 3 lane)

/-- GCM_ENCRYPT starts on a lane. -/
def execGcmEncrypt (lane : Nat) (s : State) : Out := .next (s.laneStart 4 lane)

/-- GCM_DECRYPT_AND_VERIFY starts on a lane. -/
def execGcmDecryptAndVerify (lane : Nat) (s : State) : Out := .next (s.laneStart 5 lane)

/-- CCM_ENCRYPT starts on a lane. -/
def execCcmEncrypt (lane : Nat) (s : State) : Out := .next (s.laneStart 6 lane)

/-- CCM_DECRYPT_AND_VERIFY starts on a lane. -/
def execCcmDecryptAndVerify (lane : Nat) (s : State) : Out := .next (s.laneStart 7 lane)

/-- CMAC_GENERATE starts on a lane. -/
def execCmacGenerate (lane : Nat) (s : State) : Out := .next (s.laneStart 8 lane)

/-- CMAC_VERIFY starts on a lane. -/
def execCmacVerify (lane : Nat) (s : State) : Out := .next (s.laneStart 9 lane)

/-- KEY_DERIVATION starts on a lane. -/
def execKeyDerivation (lane : Nat) (s : State) : Out := .next (s.laneStart 10 lane)

/-! ## Completions (R198, R199, R204, R206) -/

/-- A completion written at the next position of a completion ring, or held where none is free (R145, R198). -/
def State.putCompletion (s : State) (p ring : Nat) (b : Bytes) : State :=
  let c := s.complRing (s.ring p ring)
  if c.hasRoom then
    let s := (s.bufWrite p (c.descAddr c.devIdx) b).setRing { c with devIdx := (c.devIdx + 1) % (2 * c.size) }
    if c.cfg.testBit 8 then
      let g := s.page p
      s.setPage p { g with ringStatus := setBit g.ringStatus c.num true }
    else s
  else { s with quill := { s.quill with held := s.quill.held ++ [(p, ring, b)] } }

/-- Completions held for want of a position written where one is free again (R145). -/
def State.drainHeld (s : State) : State :=
  let held := s.quill.held
  held.foldl (fun s h => s.putCompletion h.1 h.2.1 h.2.2) { s with quill := { s.quill with held := [] } }

/-- A CMAC of an own Ridgeline frame, kept with the frame it belongs to (R363, R394). -/
def State.ridgeCmac (s : State) (fid cycle : Nat) (out : Bytes) : State :=
  let put (f : RidgeOut) : RidgeOut := if f.fid = fid ∧ f.cycle = cycle then { f with cmac := some (out.take 4) } else f
  { s with ridge := { s.ridge with ready := s.ridge.ready.map put, vote := s.ridge.vote.map put } }

/-- The completion of an internal request as a class 0x05 item: status, TAG_RESULT, generation, output length; beside
it its purpose, what it was for and, but for queue 0, its output (R36, R183).
DEDUCED, log entry 69, unsafe. -/
def State.intComplete (s : State) (r : IntReq) (status tag gen : Nat) (out : Bytes) : State :=
  let val := beBytes 1 status ++ beBytes 1 tag ++ beBytes 4 gen ++ beBytes 2 out.length
  let s := if r.purpose = 2 ∧ status = stOK then { s with radio := { s.radio with keyPort := some out } } else s
  let s := if r.purpose = 9 ∧ status = stOK then s.ridgeCmac (r.aux.getD 0 0) (r.aux.getD 1 0) out else s
  if r.queue = 0 ∧ r.purpose ≤ 2 then s.offer 5 0 val [100, r.purpose]
  else s.offer 5 r.queue val ([100, r.purpose] ++ r.aux ++ [0x100] ++ nums out)

/-- An operation leaves its lane with a status of its own, its output zeroed unless OK (R198, R204, R206).
DEDUCED, log entry 66, unsafe. -/
def State.finish (s : State) (op : QOp) (status : Nat) : State :=
  match op.src with
  | .int r => s.intComplete r status (if status = op.status then op.tagResult else 0xFF) op.genUsed (if status = stOK then op.out else [])
  | .ring p n pos =>
    let d := op.desc
    let held := s.ownsRun p (descBuf d) (descLen d) && s.ownsRun p (descAux d) op.region
    let st := if status = stOK ∧ held = false then stNO_SUCH_OBJECT else status
    let s := s.bufWrite p (descAux d) (if st = stOK then op.out else zeros op.region)
    let r := s.ring p n
    let s := s.setRing { r with taken := r.taken.filter (· != pos) }
    s.putCompletion p n (quillCompletion d st (if st = stOK then op.out.length else 0) n pos op.genUsed
      (if status = op.status then op.tagResult else 0xFF))
  | .page p =>
    let d := op.desc
    let held := s.ownsRun p (descBuf d) (descLen d) && s.ownsRun p (descAux d) op.region
    let st := if status = stOK ∧ held = false then stNO_SUCH_OBJECT else status
    let s := s.bufWrite p (descAux d) (if st = stOK then op.out else zeros op.region)
    s.pageComplete p (quillCompletion d st (if st = stOK then op.out.length else 0) 0 0 op.genUsed
      (if status = op.status then op.tagResult else 0xFF))

/-- A lane emptied. -/
def State.freeLane (s : State) (lane : Nat) : State := { s with quill := { s.quill with lanes := aerase lane s.quill.lanes } }

/-- A failed tag counted (R206). -/
def State.countTag (s : State) (op : QOp) : State := if op.tagResult = 1 then s.countUp 15 1 else s

/-- QUILL_COMPLETION: the operation of a lane ends. On a free lane, the request at the head that no mode starts, one
refused for its MODE or a key installation, starts and completes (R192, R197, R198).
DEDUCED, log entry 68, safe. -/
def execQuillCompletion (lane : Nat) (s : State) : Out :=
  let s := s.drainHeld
  match alookup lane s.quill.lanes with
  | some op => .next (((s.freeLane lane).countTag op).finish op op.status)
  | none =>
    if s.quillUp && decide (lane < 4) then
      match s.nextOp lane with
      | some (op, s') => if op.mode = 0 ∨ 10 < op.mode then .next ((s'.countTag op).finish op op.status) else .next s
      | none => .next s
    else .next s

/-! ## Parity, entropy and quarantine (R202-R205) -/

/-- Every running operation aborted with a status. -/
def State.abortLanes (s : State) (which : QOp → Bool) (status : Nat) : State :=
  let ops := s.quill.lanes.filter fun l => which l.2
  ops.foldl (fun s l => (s.freeLane l.1).finish l.2 status) s

/-- Quill quarantined with a cause: every running operation completes with QUARANTINED, and every waiting internal
request too (R205).
DEDUCED, log entry 69, unsafe. -/
def State.quarantine (s : State) (cause : Nat) : State :=
  if s.quill.state = 1 then s
  else
    let s := { s with quill := { s.quill with state := 1, cause := cause } }
    let s := s.abortLanes (fun _ => true) stQUARANTINED
    s.offerEvent 5 3 (beBytes 1 stQUARANTINED ++ beBytes 1 cause) 11 0x1B cause

/-- PARITY_FAULT on a lane: the operation is aborted, zeroed and completed with FAULT_PARITY, counted by sheet; the third
of a sheet quarantines Quill (R204, R205).
DEDUCED, log entry 69, unsafe.
DEDUCED, log entry 70, unsafe. -/
def execParityFault (lane : Nat) (s : State) : Out :=
  match alookup lane s.quill.lanes with
  | none => .next s
  | some op =>
    let sheet := s.sys.stroke / 64
    let n := if s.quill.sheet = sheet then min 3 (s.quill.sheetFaults + 1) else 1
    let s := (s.freeLane lane).countUp 14 1
    let s := { s with quill := { s.quill with sheet := sheet, sheetFaults := n, lastFault := s.stamp } }
    let s := s.finish op stFAULT_PARITY
    let s := s.offerEvent 5 3 (beBytes 1 stFAULT_PARITY ++ beBytes 1 lane) 11 0x1A 0
    .next (if 3 ≤ n then s.quarantine 1 else s)

/-- ENTROPY_FAULT: a health test failed or the DRBG core met a parity fault; the DRBG stops and Quill is quarantined with
cause 2 (R203).
DEDUCED, log entry 70, unsafe. -/
def execEntropyFault (s : State) : Out :=
  if s.domOn 5 then
    let s := (s.countUp 16 1).quarantine 2
    let s := { s with quill := { s.quill with drbgOk := false } }
    .next (s.offerEvent 5 3 (beBytes 1 stQUARANTINED ++ beBytes 1 2) 11 0x1C 2)
  else .next s

/-- DRBG_RESEED: at a sheet boundary the CTR_DRBG reseeds from 512 samples, so that what it yields next is free of what
it yielded before (R202). -/
def execDrbgReseed (s : State) : Out :=
  if s.quill.drbgOk ∧ s.sys.stroke % 64 = 63 then .next { s with quill := { s.quill with drawn := s.quill.drawn + 1 } }
  else .next s

/-- Quill powered up or reset: every slot's record read back, lanes and queue empty, the known-answer tests run. They
pass with the algorithms the standards give; `pass` is the outcome of the hardware. A quarantine stands through it: only a
reset of the core or more has cleared its cause before (R78, R187, R202, R205).
DEDUCED, log entry 70, unsafe.
DEDUCED, log entry 71, safe. -/
def State.quillStart (s : State) (pass : Bool) : State :=
  let s := s.keysRead
  let was := s.quill.cause
  let s := { s with quill := { s.quill with
    state := b2n (was != 0), queue := [], lanes := [], turn := 0, drbgOk := was != 2 && was != 3 } }
  if pass ∨ was ≠ 0 then s
  else
    let s := { s with quill := { s.quill with state := 1, cause := 3, drbgOk := false } }
    s.offerEvent 5 3 (beBytes 1 stQUARANTINED ++ beBytes 1 3) 11 0x1D 3

/-! ## Loading and erasing keys (R191-R193) -/

/-- Whether a slot may be written by KEY_LOAD and KEY_ERASE, or by KEY_LOAD_PROTECTED (R188). -/
def slotAllowed (prot : Bool) (n : Nat) : Bool :=
  if prot then decide (0x40 ≤ n ∧ n ≤ 0x45) || decide (0x48 ≤ n ∧ n ≤ 0x4F) else decide (0x50 ≤ n)

/-- The bytes of a load image are as the table's rules say: known length, reserved bytes zero, NONCE and WRAP_TAG zero
unless wrapped, the key's rest zero (R191). -/
def loadLegal (v : Bytes) : Bool :=
  let n := loadLen v
  let w := loadWrapped v
  byteAt v 1 / 2 == 0 && (n == 16 || n == 24 || n == 32) && byteAt v 3 == 0 && slice v 68 4 == zeros 4 &&
    slice v (20 + n) (32 - n) == zeros (32 - n) && (w || (slice v 8 12 == zeros 12 && slice v 52 16 == zeros 16))

/-- A key slot's generation as committed. -/
def State.slotGen (s : State) (n : Nat) : Nat := (s.slotView n).gen

/-- The record of a key load or erase: the slot's KEY_STATE after it, under its requester (R443).
DEDUCED, log entry 73, unsafe. -/
def State.keyRec (s : State) (slot st cls req : Nat) : NewRec :=
  s.recObj 0 ((if slot < 128 then 0x384601 else 0x384681) + slot) cls req (beBytes 1 st)

/-- KEY_LOAD or KEY_LOAD_PROTECTED written: checked, its entry opened at PHASE 0 and its install queued on queue 3
(R191, R192).
DEDUCED, log entry 65, unsafe.
DEDUCED, log entry 72, unsafe. -/
def State.opKeyLoad (s : State) (prot : Bool) (r : Requester) (v : Bytes) : OpResult :=
  let n := loadSlot v
  let k := s.slotView n
  let wrongClass := !prot && r.cls != 0 && r.cls != 4
  let denied := wrongClass || !slotAllowed prot n || !loadLegal v || loadExpect v != k.gen || k.gen == 2 ^ 32 - 1 ||
    (!loadWrapped v && s.num 0x380008 == 0)
  if denied then .refuse stDENIED
  else match s.inflightSlot with
    | none => .refuse stBUSY
    | some pos =>
      .start [.inflight pos (s.newEntry 5 2 n 0 r), .keyLoad ⟨pos, n, loadExpect v, v, false⟩,
        .quillQueue ⟨3, 5, 0, n, none, [], [], v, [], 0, [pos]⟩]

/-- KEY_ERASE written: the key overwritten, the slot EMPTY, its generation raised at this Commit; with REVOKE_NOW, the
operations that hold a copy are aborted (R193).
DEDUCED, log entry 65, unsafe. -/
def State.opKeyErase (s : State) (r : Requester) (v : Bytes) : OpResult :=
  let n := byteAt v 0
  let k := s.slotView n
  let denied := (r.cls != 0 && r.cls != 4) || !slotAllowed false n || byteAt v 1 / 2 != 0 || slice v 2 2 != zeros 2 ||
    beNat (slice v 4 4) != k.gen
  if denied then .refuse stDENIED
  else if k.gen = 2 ^ 32 - 1 then .refuse stCOUNTER_STUCK
  else match s.inflightSlot with
    | none => .refuse stBUSY
    | some pos =>
      let k' : KeySlot := ⟨[], 0, k.gen + 1, k.map, k.modes⟩
      { OpResult.start [.inflight pos (s.newEntry 5 2 n 1 r), .keyErase n pos ((byteAt v 1).testBit 0)] with
        pairs := s.keyWrites n k', recs := [s.keyRec n 0 r.cls r.idx] }

/-- A change of a slot's access map or mode mask (R189). -/
def State.opKeyMap (s : State) (n : Nat) (v : Bytes) : OpResult :=
  if n < 0x50 then .ok []
  else
    let k := { s.slotView n with map := beNat v }
    { OpResult.ok [.keyMap n (beNat v)] with pairs := s.keyWrites n k }
def State.opKeyModes (s : State) (n : Nat) (v : Bytes) : OpResult :=
  if n < 0x50 then .ok []
  else
    let k := { s.slotView n with modes := beNat v }
    { OpResult.ok [.keyModes n (beNat v)] with pairs := s.keyWrites n k }

/-- The outcome of an install beside its item: the in-flight position and the key. -/
def installOf (i : Item) : Nat × Bytes := (i.aux.getD 2 16, toBytes (i.aux.drop 4))

/-- KEY_INSTALL: the install completion is gathered; if EXPECT_GEN still matches and any unwrap verified, the key and the
raised generation are stored and the entry stands at PHASE 1, else it is REFUSED (R192). Where VHOLD refuses the page,
the load is refused too.
DEDUCED, log entry 72, unsafe.
DEDUCED, log entry 73, unsafe. -/
def execKeyInstall (s : State) : Out :=
  match s.gathered.find? fun i => i.cls == 5 && i.idx == 3 && i.aux.getD 1 0 == 5 && i.aux.head? == some 100 with
  | none => .next s
  | some i =>
    if !s.working then .next s
    else
      let x := installOf i
      let s' := s.consume i
      match s.quill.loads.find? (·.pos == x.1) with
      | none => .next s'
      | some l =>
        let e := s.inflightAt l.pos
        let k := s.slotView l.slot
        let drop (res : Nat) : List Effect := [.inflight l.pos (s.closed e 6 res), .keyDrop l.pos]
        let moved := s.staged.any fun u => u.effs.any fun f => match f with
          | .keyStore p _ => s.quill.loads.any fun m => m.pos == p && m.slot == l.slot
          | .keyErase n _ _ => n == l.slot
          | _ => false
        if byteAt i.val 0 = stOK ∧ k.gen = l.expect ∧ k.gen < 2 ^ 32 - 1 ∧ moved = false then
          let k' : KeySlot := ⟨x.2, 1, k.gen + 1, k.map, k.modes⟩
          .next (s'.stage { plainUnit i.key [.inflight l.pos (s.phased e 1), .keyStore l.pos x.2] [] with
            need := .txn, pairs := s.keyWrites l.slot k', held := drop stINKWELL_LOW_HOLD
            recs := [s.keyRec l.slot 1 e.cls e.req] })
        else .next (s'.stage (plainUnit i.key (drop (if byteAt i.val 0 = stQUARANTINED then stQUARANTINED else stDENIED)) []))

/-- A running operation that loaded the copy before generation `gen` of a slot. -/
def State.holdsOld (s : State) (slot gen : Nat) : Bool :=
  s.quill.lanes.any fun l => l.2.slot == slot && l.2.status == stOK && decide (l.2.genUsed < gen)

/-- KEY_SETTLED: no operation that loaded the previous copy runs, so the entry of a stored load or an erase closes DONE
(R192, R193). -/
def execKeySettled (pos : Nat) (s : State) : Out :=
  let e := s.inflightAt pos
  let slot := e.inst
  if s.working && e.op == 5 && e.isOpen && e.phase == 1 && !s.holdsOld slot (s.slotGen slot) && !s.effects.any (fun f => match f with
      | .inflight p _ => p == pos
      | _ => false) then
    .next (s.stage (plainUnit 0x05030000 [.inflight pos (s.closed (s.phased e 2) 2 stOK), .keyDrop pos] []))
  else .next s

/-- Key effects at their boundary (R190, R192, R193). -/
def State.keyStoreNow (s : State) (pos : Nat) (key : Bytes) : State :=
  match s.quill.loads.find? (·.pos == pos) with
  | none => s
  | some l =>
    let k := s.keySlot l.slot
    let s := s.setKeySlot l.slot ⟨key, 1, k.gen + 1, k.map, k.modes⟩
    { s with quill := { s.quill with loads := s.quill.loads.map fun m => if m.pos = pos then { m with stored := true } else m } }

/-- A slot emptied; with `revoke`, operations holding a copy are aborted with KEY_REVOKED (R193). -/
def State.keyEraseNow (s : State) (slot : Nat) (revoke : Bool) : State :=
  let k := s.keySlot slot
  let s := s.setKeySlot slot ⟨[], 0, k.gen + 1, k.map, k.modes⟩
  if revoke then s.abortLanes (fun op => op.slot == slot && op.status == stOK) stKEY_REVOKED else s

/-- Quill's part of a ring re-grant: the operations of closing request rings end with BUSY, and what they still offer
completes with BUSY, every output zeroed; completions held for them are lost with the ring (R152).
DEDUCED, log entry 67, unsafe. -/
def State.quillRegrant (s : State) : State :=
  let mine (op : QOp) : Bool := match op.src with
    | .ring p n _ => (s.ring p n).closing
    | _ => false
  let t := (s.abortLanes mine stBUSY)
  let t := (t.host.rings.filter fun r => r.closing && r.type == 1).foldl (fun t r =>
    r.offered.foldl (fun t pos =>
      let d := t.bufRead r.page (r.descAddr pos) 32
      let q := QReq.of d true
      let t := if q.legal then t.bufWrite r.page (descAux d) (zeros q.out) else t
      t.putCompletion r.page r.num (quillCompletion d stBUSY 0 r.num pos 0 0xFF)) t) t
  { t with quill := { t.quill with held := t.quill.held.filter fun h => !(t.ring h.1 h.2.1).closing } }

/-- Quill's part of a tenant reset: its operations aborted with outputs zeroed and no completion, its held completions
dropped (R150). -/
def State.quillTenantReset (s : State) (t : Nat) : State :=
  let p := t + 1
  let mine (op : QOp) : Bool := match op.src with
    | .ring q _ _ => q == p
    | .page q => q == p
    | .int _ => false
  let s := (s.quill.lanes.filter fun l => mine l.2).foldl (fun s l => s.bufWrite p (descAux l.2.desc) (zeros l.2.region)) s
  { s with quill := { s.quill with
    lanes := s.quill.lanes.filter fun l => !mine l.2, held := s.quill.held.filter fun h => h.1 != p } }

end Sys2Proof.Machine
end

