-- ==== Sys2Proof/Machine/Segments.lean ====
section
/-!
DEFINITION. Segments.lean: Ledger messages cut into segments and put together again (R116, R121, R122).
-/

namespace Sys2Proof.Machine

/-- Length of a message by its header (R116). -/
def msgLen (b : Bytes) : Nat := 10 + beNat (slice b 4 2)

/-- A message: header, body and CRC (R116, R118). -/
def ledgerMsg (type status tag count echo : Nat) (body : Bytes) : Bytes :=
  let m := beBytes 1 (16 + type) ++ beBytes 1 status ++ beBytes 2 tag ++ beBytes 2 body.length ++ beBytes 1 count ++
    beBytes 1 echo ++ body
  m ++ beBytes 2 (crc16 m)

/-- Bytes in pieces of `n`. -/
def pieces (n : Nat) : Nat → Bytes → List Bytes
  | 0, _ => []
  | fuel + 1, b => if b = [] ∨ n = 0 then [] else b.take n :: pieces n fuel (b.drop n)

/-- The segments of a message with pieces of `n` bytes: control byte with FIRST, LAST and the sequence number, then the
piece. -/
def segments (n : Nat) (msg : Bytes) : List Bytes :=
  let ps := pieces n msg.length msg
  ps.zipIdx.map fun p =>
    beBytes 1 ((if p.2 = 0 then 128 else 0) + (if p.2 + 1 = ps.length then 64 else 0) + p.2 % 64) ++ p.1

/-- A reassembly discarded and counted (R121). -/
def State.dropReasm (s : State) (src : Nat) : State :=
  if s.reasm.any (·.src == src) then
    { s.countObj 0x730005 1 with reasm := s.reasm.filter (·.src != src) }
  else s

/-- A segment taken: FIRST starts anew, one out of sequence discards, LAST gives the message, cut to the length its header
names, with the format of its FIRST segment. -/
def State.takeSegment (s : State) (src fmt ctrl : Nat) (data : Bytes) : Option (Bytes × Nat) × State :=
  let first := ctrl.testBit 7
  let last := ctrl.testBit 6
  let seq := ctrl % 64
  let s1 := if first then s.dropReasm src else s
  let cur : Option Reasm := if first then (if seq = 0 then some ⟨src, [], 0, s.sys.stroke, fmt⟩ else none)
    else s1.reasm.find? (·.src == src)
  match cur with
  | none => (none, s1)
  | some r =>
    if r.next ≠ seq then (none, s1.dropReasm src)
    else
      let d := r.data ++ data
      let rest := s1.reasm.filter (·.src != src)
      if last then (some (d.take (msgLen d), r.fmt), { s1 with reasm := rest })
      else (none, { s1 with reasm := rest ++ [{ r with data := d, next := seq + 1 }] })

/-- SEGMENT_REASSEMBLY_TIMEOUT: a reassembly not completed within 20 strokes of its first segment is discarded. -/
def execSegmentReassemblyTimeout (src : Nat) (s : State) : Out :=
  if s.reasm.any fun r => r.src == src && decide (r.first + 20 ≤ s.sys.stroke) then .next (s.dropReasm src) else .next s

/-- A reassembled message as a gathered Ledger request under the key of the item that brought its last segment. -/
def State.gatherRequest (s : State) (i : Item) (msg : Bytes) (aux : List Nat) : State :=
  { s with gathered := s.gathered ++ [{ i with val := msg, aux := 4 :: aux }] }

end Sys2Proof.Machine
end

