-- ==== Sys2Proof/Machine/Ridge.lean ====
section
/-!
DEFINITION. Ridge.lean: Ridgeline's schedules and their checks, node states, frames sent and received, authentication,
votes and schedule switching, breaks and wraps, guardian and babble (R350-R407).
-/

namespace Sys2Proof.Machine

/-! ## Schedules (R369-R377) -/

/-- Committed objects of a schedule. -/
def State.schHeader (s : State) (k : Nat) : Bytes := s.raw (0x510001 + k)
def State.schMap (s : State) (k : Nat) : Bytes := s.raw (0x510801 + k)
def State.schEntry (s : State) (k i : Nat) : Bytes := s.raw ((0x5110 + k) * 256 + i)
def State.schWindow (s : State) (k e : Nat) : Bytes := s.raw ((0x5120 + k) * 256 + 1 + e)

/-- Fields of a frame-table entry (R371). -/
def entSync (b : Bytes) : Bool := (byteAt b 0).testBit 7
def entOwner (b : Bytes) : Nat := byteAt b 0 % 64
def entRep (b : Bytes) : Nat := byteAt b 1 / 16 % 8
def entKey (b : Bytes) : Nat := byteAt b 1 % 16
def entBase (b : Bytes) : Nat := byteAt b 2 % 64
def entLen (b : Bytes) : Nat := byteAt b 3

/-- A key of 0-7 authenticates. -/
def keyed (k : Nat) : Bool := decide (k < 8)

/-- The terms of R369 in nanoseconds. -/
def frameNs (len : Nat) (auth : Bool) : Nat := 500 * (11 + len + (if auth then 4 else 0))
def State.clearNs (s : State) : Nat := (s.num 0x500003 - 1) * s.num 0x500004 + 1000
def State.slotNs (s : State) (len : Nat) (auth : Bool) : Nat := 2000 + frameNs len auth + s.clearNs

/-- Fields of a schedule's header (R375). -/
def hLayout (h : Bytes) : Nat := byteAt h 0
def hStatic (h : Bytes) : Nat := byteAt h 1
def hSlotUs (h : Bytes) : Nat := beNat (slice h 2 2)
def hDyn (h : Bytes) : Nat := byteAt h 4
def hMsUs (h : Bytes) : Nat := byteAt h 5
def hMini (h : Bytes) : Nat := beNat (slice h 6 2)

/-- Fields of a window entry (R373). -/
def wStart (w : Bytes) : Nat := beNat (slice w 0 2)
def wLen (w : Bytes) : Nat := beNat (slice w 2 2)
def wType (w : Bytes) : Nat := byteAt w 4
def wFirst (w : Bytes) : Nat := byteAt w 5
def wLast (w : Bytes) : Nat := byteAt w 6
def wMs (w : Bytes) : Nat := byteAt w 7

/-- Template of a ring cycle. -/
def mapTemplate (m : Bytes) (c : Nat) : Nat := if c % 2 = 0 then byteAt m (c / 2) / 16 else byteAt m (c / 2) % 16

/-- Windows of a template, in order. -/
def State.windows (s : State) (k t : Nat) : List Bytes := (List.range 16).map fun w => s.schWindow k (16 * t + w)

/-- Templates the map names. -/
def State.templates (s : State) (k : Nat) : List Nat := ((List.range 64).map (mapTemplate (s.schMap k))).dedup

/-- FRAME_IDs in use. -/
def State.idsUsed (s : State) (k : Nat) : List Nat :=
  let h := s.schHeader k
  if hLayout h = 1 then (List.range (hStatic h + hDyn h)).map (· + 1)
  else
    (((s.templates k).flatMap fun t => (s.windows k t).filter (wType · != 0)).flatMap fun w =>
      (List.range (wLast w + 1 - wFirst w)).map (· + wFirst w)).dedup

/-- Minislots a frame needs, with minislots of `ms` microseconds (R372). -/
def State.miniK (s : State) (ms len : Nat) (auth : Bool) : Nat := (s.slotNs len auth + 1000 * ms - 1) / (1000 * max 1 ms)

/-- The windows of a template are placed as R373 requires. -/
def State.placed (s : State) (k t : Nat) : Bool :=
  let ws := s.windows k t
  let used := ws.filter (wType · != 0)
  let ordered := (used.zip (used.drop 1)).all fun p => decide (wStart p.1 < wStart p.2) && decide (wStart p.1 + wLen p.1 ≤ wStart p.2)
  ws.all (fun w =>
    if wType w = 0 then w == zeros 8
    else decide (wType w ≤ 2) && decide (1 ≤ wFirst w) && decide (wFirst w ≤ wLast w) && decide (wLast w ≤ 250) &&
      decide (s.num 0x500005 ≤ wStart w) && decide (wStart w + wLen w + s.num 0x500006 ≤ s.strokeUs) &&
      (wType w != 1 || (wFirst w == wLast w && wMs w == 0))) && ordered

/-- SCHEDULE_STATE: 0 unused, 1 VALID, else one more than the first rule broken (R376, R378).
DEDUCED, log entry 125, unsafe. -/
def State.schState (s : State) (k : Nat) : Nat :=
  let h := s.schHeader k
  let ids := s.idsUsed k
  let ent (i : Nat) : Bytes := s.schEntry k i
  let segment := hLayout h == 1
  let live (i : Nat) : Bool := entRep (ent i) != 7
  let statics := (List.range (hStatic h)).map (· + 1)
  let dyns := (List.range (hDyn h)).map (· + 1 + hStatic h)
  let wins := (s.templates k).flatMap fun t => (s.windows k t).filter (wType · != 0)
  let r1 := decide (hLayout h ≤ 2) && (h.drop 8 == zeros 24) && (segment || slice h 1 7 == zeros 7) &&
    (!segment || (decide (hStatic h ≤ 250) && decide (hStatic h + hDyn h ≤ 250))) &&
    (List.range 250).all fun i => let e := ent (i + 1); !(byteAt e 0).testBit 6 && !(byteAt e 1).testBit 7 && decide (byteAt e 2 < 64)
  let r2 := ids.all fun i => let e := ent i; (keyed (entKey e) || entKey e == 15) && decide (entBase e < 2 ^ entRep e) && decide (entLen e ≤ 254)
  let r3 := decide (s.slotNs 12 (keyed (s.num 0x500007)) ≤ 1000 * s.num 0x500005)
  let r4 := !segment || statics.all fun i => !live i || decide (s.slotNs (entLen (ent i)) (keyed (entKey (ent i))) ≤ 1000 * hSlotUs h)
  let r5 := !segment || hDyn h == 0 || (decide (2000 + 3000 + s.clearNs ≤ 1000 * hMsUs h) &&
    dyns.all fun i => decide (s.miniK (hMsUs h) (entLen (ent i)) (keyed (entKey (ent i))) ≤ hMini h))
  let r6 := !segment || decide (s.num 0x500005 + hStatic h * hSlotUs h + hMini h * hMsUs h + s.num 0x500006 ≤ s.strokeUs)
  let r7 := segment || (s.templates k).all fun t => decide (t < 8) && s.placed k t
  let r8 := segment || wins.all fun w =>
    if wType w = 1 then decide (s.slotNs (entLen (ent (wFirst w))) (keyed (entKey (ent (wFirst w)))) ≤ 1000 * wLen w)
    else decide (5000 + s.clearNs ≤ 1000 * wMs w) &&
      (List.range (wLast w + 1 - wFirst w)).all fun j =>
        let e := ent (wFirst w + j)
        decide (s.miniK (wMs w) (entLen e) (keyed (entKey e)) ≤ wLen w / max 1 (wMs w))
  let r9 := decide (20 ≤ s.num 0x500006)
  if hLayout h = 0 then 0
  else match [r1, r2, r3, r4, r5, r6, r7, r8, r9].findIdx? (· == false) with
    | some i => i + 2
    | none => 1

/-- VALID. -/
def State.schValid (s : State) (k : Nat) : Bool := decide (k < 8) && s.schState k == 1

/-- SCHEDULE_DIGEST (R377). -/
def State.schDigest (s : State) (k : Nat) : Bytes :=
  sha256 (s.schHeader k ++ ((List.range 250).flatMap fun i => s.schEntry k (i + 1)) ++ s.schMap k ++
    (List.range 128).flatMap fun e => s.schWindow k e)

/-- Where a FRAME_ID stands in a ring cycle: 0 nowhere, 1 a static slot or exclusive window, 2 a dynamic segment or
arbitrating window (R370, R371, R374). -/
def State.slotOf (s : State) (k c fid : Nat) : Nat :=
  let h := s.schHeader k
  let e := s.schEntry k fid
  if hLayout h = 1 then
    if fid = 0 ∨ hStatic h + hDyn h < fid ∨ entRep e = 7 ∨ c % 2 ^ entRep e ≠ entBase e then 0
    else if fid ≤ hStatic h then 1 else 2
  else if hLayout h = 2 then
    let ws := s.windows k (mapTemplate (s.schMap k) c)
    if ws.any fun w => wType w == 1 && wFirst w == fid then 1
    else if ws.any fun w => wType w == 2 && decide (wFirst w ≤ fid) && decide (fid ≤ wLast w) then 2 else 0
  else 0

/-! ## The node (R379) -/

/-- This node's ID. -/
def State.node (s : State) : Nat := s.num 0x500002

/-- Synchronised: CONVERGING or SYNC. -/
def State.ridgeSync (s : State) : Bool := s.ridge.state == 4 || s.ridge.state == 5

/-- Listen-only.
DEDUCED, log entry 126, unsafe. -/
def State.listenOnly (s : State) : Bool :=
  s.num 0x500001 == 0 || (!s.schValid (s.num 0x500008) && !s.ridgeSync) || s.bivouac || s.pole.self.admitted

/-- RIDGE_TOPOLOGY for sides out of service: DUAL, WRAP_DN, WRAP_UP, ISOLATED (R353). -/
def topologyOf (out : Nat) : Nat := match out % 4 with | 0 => 0 | 1 => 2 | 2 => 1 | _ => 3

/-- The sides a topology has out of service. -/
def topologyOut (t : Nat) : Nat := match t with | 1 => 2 | 2 => 1 | 3 => 3 | _ => 0

/-- A side cut by RIDGE_ISOLATE, once the network idle time has cut it (R401, R405). -/
def State.isolated (s : State) (side : Nat) : Bool := (s.num 0x50000C).testBit side && (topologyOut s.ridge.topology).testBit side

/-- A status item of R406, recorded in Folio from kind 2 on.
DEDUCED, log entry 132, unsafe. -/
def State.ridgeItem (s : State) (kind : Nat) (val : Bytes) (code detail : Nat) : State :=
  s.offerEvent 0x0B s.node (padTo 16 (beBytes 1 kind ++ val)) (if 2 ≤ kind then 8 else 99) code detail

/-- A change of state with its status item, and the fault it raises, 0 for none; LISTEN starts the listen timeout, and ends a
switch decided (R379, R380). -/
def State.ridgeEnter (s : State) (st fault : Nat) : State :=
  if s.ridge.state = st then s
  else
    let r := { s.ridge with
      state := st, leader := if st = 1 then 0xFF else s.ridge.leader, listenFrom := if st = 1 then s.sys.stroke else s.ridge.listenFrom
      switchTo := if st = 1 then none else s.ridge.switchTo
      consistent := 0, quiet := 0, syncQuiet := 0, badCycle := 0, seen := false }
    { s with ridge := r }.ridgeItem 1 (beBytes 1 st ++ beBytes 1 r.leader) fault 0

/-- A change of state without a fault. -/
def State.ridgeTo (s : State) (st : Nat) : State := s.ridgeEnter st 0

/-- A change of RIDGE_NODE_ID: LISTEN, with the listen timeout from here (R379, R380). -/
def State.nodeChanged (s : State) : State :=
  if s.ridge.state = 0 then s
  else
    let s := s.ridgeTo 1
    { s with ridge := { s.ridge with listenFrom := s.sys.stroke } }

/-- Frames that hold a descriptor, whose completion is still due (R390). -/
def owedFrames (fs : List RidgeOut) : List RidgeOut := fs.filter (·.src.isSome)

/-- PD10 off or in reset: RIDGE_REQUEST takes its default at every reset that clears PD10 (R407). -/
def State.ridgePowerDown (s : State) : State := { s with ridge := Ridge.reset }.setNum 0x50000B 0xFF

/-- PD10 out of reset: LISTEN (R379). -/
def State.ridgePowerUp (s : State) : State := s.ridgePowerDown.ridgeTo 1

/-! ## Frames (R359-R363) -/

/-- The header of a frame, HOPS zero. -/
def frameHeader (kind src : Nat) (auth : Bool) (cycle fid len : Nat) : Bytes :=
  beBytes 1 (64 * kind + src) ++ beBytes 1 (128 * b2n auth) ++ beBytes 1 cycle ++ beBytes 1 fid ++ beBytes 1 len

/-- The key a FRAME_ID is authenticated with, 15 for none: of its entry, or RIDGE_VOTE_KEY for votes and cold-start frames. -/
def State.frameKey (s : State) (fid : Nat) : Nat :=
  let k := if fid = 0 ∨ fid = 255 then s.num 0x500007 else entKey (s.schEntry s.ridge.active fid)
  if k < 8 then k else 15

/-- Payload of an own frame as sent: padded to LENGTH in a static slot or exclusive window, as it is elsewhere (R361). -/
def State.outPayload (s : State) (f : RidgeOut) : Bytes :=
  if f.fid = 0 ∨ f.fid = 255 ∨ f.kind = 2 then f.body
  else if s.slotOf s.ridge.active f.cycle f.fid = 1 then padTo (entLen (s.schEntry s.ridge.active f.fid)) f.body
  else f.body

/-- Header and payload of an own frame. -/
def State.outFrame (s : State) (f : RidgeOut) : Bytes :=
  let p := s.outPayload f
  frameHeader f.kind s.node (keyed (s.frameKey f.fid)) f.cycle f.fid p.length ++ p

/-- RING_SHEET of a cycle: the next sheet's where the cycle after 63 is meant. -/
def State.sheetOf (s : State) (cycle : Nat) : Nat :=
  if s.ridge.cycle = 63 ∧ cycle = 0 then (s.ridge.sheet + 1) % 2 ^ 32 else s.ridge.sheet

/-- The CMAC of an own frame queued on queue 1 (R363, R394). -/
def State.queueCmac (s : State) (f : RidgeOut) : State :=
  let k := s.frameKey f.fid
  if k = 15 then s
  else
    let sheet := if f.fid = 255 then beNat (f.body.take 4) else s.sheetOf f.cycle
    let r : IntReq := ⟨1, 9, 8, 0x48 + k, none, [], [], beBytes 4 sheet ++ s.outFrame f, [], 0, [f.fid, f.cycle]⟩
    { s with quill := { s.quill with queue := s.quill.queue ++ [r] } }

/-- The CRC a frame carries, over header with HOPS zero, payload and CMAC, sent most significant byte first (R362). -/
def frameCrc (f : Bytes) : Bytes :=
  beBytes 4 (crc32 (f.take 1 ++ beBytes 1 (byteAt f 1 / 128 * 128) ++ f.drop 2))

/-! ## Sending (R366-R368, R390, R392) -/

/-- The FRAME_IDs that carry Ledger frames. -/
def State.ledgerIds (s : State) : List Nat := (nums (s.raw 0x50000E)).filter (· != 0)

/-- FRAME_IDs of a ring cycle in the order their slots and windows occur (R370, R373). -/
def State.idsOf (s : State) (k c : Nat) : List Nat :=
  if hLayout (s.schHeader k) = 2 then
    (((s.windows k (mapTemplate (s.schMap k) c)).filter (wType · != 0)).flatMap fun w =>
      (List.range (wLast w + 1 - wFirst w)).map (· + wFirst w)).dedup
  else s.idsUsed k

/-- The next segment of the Ledger queue for a frame of LENGTH `len`, and the queue after it (R392).
DEDUCED, log entry 130, unsafe. -/
def nextSegment (len : Nat) : List RidgeMsg → Option (Bytes × List RidgeMsg)
  | [] => none
  | m :: q =>
    if len ≤ 2 then none else
    let n := len - 2
    let piece := m.rest.take n
    let rest := m.rest.drop n
    let ctrl := (if m.seq = 0 then 128 else 0) + (if rest = [] then 64 else 0) + m.seq % 64
    some (beBytes 1 ctrl ++ beBytes 1 m.target ++ piece, if rest = [] then q else { m with seq := m.seq + 1, rest := rest } :: q)

/-- This node's own frames of the cycle that opens: host data taken, Ledger segments, null frames (R367, R392). -/
def State.ownFrames (s : State) : List RidgeOut :=
  let c := s.ridge.cycle
  let k := s.ridge.active
  let mine := (s.idsOf k c).filter fun i => entOwner (s.schEntry k i) == s.node && s.slotOf k c i != 0
  (mine.foldl (fun (acc : List RidgeOut × List RidgeMsg) i =>
    let fill : List RidgeOut := if s.slotOf k c i = 1 then [⟨i, c, 2, [], none, none, false⟩] else []
    if s.ledgerIds.contains i then
      match nextSegment (entLen (s.schEntry k i)) acc.2 with
      | some (b, q) => (acc.1 ++ [⟨i, c, 1, b, none, none, false⟩], q)
      | none => (acc.1 ++ fill, acc.2)
    else match s.ridge.next.find? (·.fid == i) with
      | some f => (acc.1 ++ [f], acc.2)
      | none => (acc.1 ++ fill, acc.2)) ([], s.ridge.txq)).1

/-- The Ledger queue after a cycle: segments leave it in order as far as they were sent. -/
def State.txAfter (s : State) : List RidgeMsg :=
  ((s.ridge.ready.filter (·.kind == 1)).foldl (fun (acc : List RidgeMsg × Bool) f =>
    if acc.2 || !f.sent then (acc.1, true)
    else match nextSegment f.body.length acc.1 with
      | some (_, q) => (q, false)
      | none => (acc.1, true)) (s.ridge.txq, false)).1

/-- The vote payload for a cycle (R368, R397). -/
def State.votePayload (s : State) (cycle : Nat) : Bytes :=
  let want := s.num 0x50000B
  let req := if want < 8 ∧ s.schValid want = true ∧ want ≠ s.ridge.active then want else 0xFF
  beBytes 4 (s.sheetOf cycle) ++ beBytes 1 s.ridge.active ++ beBytes 1 req ++
    (s.schDigest (if req = 0xFF then s.ridge.active else req)).take 4 ++
    beBytes 1 (b2n s.ridgeSync + 2 * b2n (s.ridge.topology != 0)) ++ [0]

/-- The payload of cold-start frame `k` in a stroke (R381). -/
def State.coldPayload (s : State) (stroke k : Nat) : Bytes :=
  let a := s.num 0x500008
  beBytes 4 (stroke / 64) ++ beBytes 1 a ++ beBytes 1 k ++ (s.schDigest a).take 4 ++ zeros 2

/-- The frame whose payload is fixed one stroke before its slot: the vote of the next cycle, or the next cold-start
frame (R394). -/
def State.earlyFrame (s : State) : Option RidgeOut :=
  let r := s.ridge
  let next := s.sys.stroke + 1
  if r.state = 5 ∧ (r.cycle + 1) % 64 = s.node then
    some ⟨0, (r.cycle + 1) % 64, 3, s.votePayload ((r.cycle + 1) % 64), none, none, false⟩
  else if r.state = 2 ∧ r.coldFrom ≤ next ∧ next < r.coldFrom + 4 then
    some ⟨255, next % 64, 3, s.coldPayload next (next - r.coldFrom), none, none, false⟩
  else none

/-- LENGTH of the frame sent under a FRAME_ID in this cycle, 0 if none was.
DEDUCED, log entry 129, unsafe. -/
def State.sentLen (s : State) (fid : Nat) : Nat := ((s.ridge.sent.find? fun h => byteAt h 3 == fid).map (byteAt · 4)).getD 0

/-- Completions of the descriptors whose frames this cycle carried, RESULT_LEN the payload bytes sent (R390). -/
def State.ridgeComplete (s : State) (t : Stamp) : State :=
  s.ridge.ready.foldl (fun s f => match f.src with
    | some (p, n, pos, gen) => s.completeDesc p n pos gen false (if f.sent then stOK else stBUSY) (if f.sent then s.sentLen f.fid else 0) t
    | none => s) s

/-- Ridgeline's part of a stroke boundary: the cycle that ends completes, ring cycle and ring sheet move on, and the frames of
the cycle that opens are fixed with their CMACs queued (R365-R367, R394). `t` is the stamp of the stroke that ends. -/
def State.ridgeBoundary (s : State) (t : Stamp) : State :=
  if s.ridge.state = 0 then s
  else
    let s := s.ridgeComplete t
    let r := s.ridge
    let sync := s.ridgeSync
    let cycle := if sync then (s.sys.stroke + r.offset) % 64 else r.cycle
    let wrap := sync && cycle == 0 && r.cycle != 0
    let s := { s with ridge := { r with
      txq := s.txAfter, cycle := cycle, sheet := if wrap then (r.sheet + 1) % 2 ^ 32 else r.sheet
      trips := if wrap then 0 else r.trips
      votes := r.votes.filter fun v => decide ((r.sheet + 2 ^ 32 - v.sheet) % 2 ^ 32 < 4)
      ownVotes := r.ownVotes.filter fun v => decide ((r.sheet + 2 ^ 32 - v.1) % 2 ^ 32 < 4)
      syncQuiet := if sync && !r.syncSeen then r.syncQuiet + 1 else 0
      badCycle := 0, syncSeen := false, dyn := none, barred := false, babbled := [], sent := []
      devs := if sync then [] else r.devs } }
    let early := s.ridge.vote.toList
    let own := if s.ridge.state = 5 then s.ownFrames else []
    let left := (owedFrames s.ridge.next).filter fun f => !own.contains f
    let s := { s with ridge := { s.ridge with ready := early ++ own ++ left, next := [] } }
    let s := own.foldl State.queueCmac s
    match s.earlyFrame with
    | some f => { s with ridge := { s.ridge with vote := some f } }.queueCmac f
    | none => { s with ridge := { s.ridge with vote := none } }

/-- Ring order of R390: the global page, then tenants, local rings ascending. -/
def State.ringOrder (s : State) (type : Nat) : List Ring :=
  (s.host.rings.filter fun r => r.page == 0 && r.type == type) ++ (s.host.rings.filter fun r => r.page != 0 && r.type == type)

/-- FOLIO_RIDGE_ID names a FRAME_ID of the active schedule that this node owns, that carries no Ledger frames and that has room for
a segment (R459). -/
def State.exportFid (s : State) : Bool :=
  let fid := s.num 0x440007
  let e := s.schEntry s.ridge.active fid
  fid != 0 && entOwner e == s.node && (s.idsUsed s.ridge.active).contains fid && !s.ledgerIds.contains fid && decide (2 ≤ entLen e)

/-- The next segment of a Folio block as a KIND 0 frame on FOLIO_RIDGE_ID, which the node must own (R459). -/
def State.exportFrame (s : State) (c : Nat) : State × List Nat :=
  let fid := s.num 0x440007
  let e := s.schEntry s.ridge.active fid
  match s.folio.sending with
  | some (seq, rest) =>
    if !s.exportFid || s.slotOf s.ridge.active c fid == 0 then (s, [])
    else
      let n := entLen e - 1
      let left := rest.drop n
      let ctrl := (if seq = 0 then 128 else 0) + (if left = [] then 64 else 0) + seq % 64
      let f : RidgeOut := ⟨fid, c, 0, beBytes 1 ctrl ++ rest.take n, none, none, false⟩
      ({ s with
        ridge := { s.ridge with next := s.ridge.next ++ [f] }
        folio := { s.folio with sending := if left = [] then none else some (seq + 1, left) } }, [fid])
  | none => (s, [])

/-- Head type-4 descriptors in Bivouac mode, completing with NOT_IN_BIVOUAC at this stroke's Commit (R479). -/
def State.ridgeRefuse (s : State) : State :=
  (s.ringOrder 4).foldl (fun (s : State) q =>
    let r := s.ring q.page q.num
    match s.ringHead r with
    | none => s
    | some x => (s.takeHead r).stage (plainUnit (0x0D000000 + pageOwner r.page * 65536)
        [.complete r.page r.num x.1 r.gen stNOT_IN_BIVOUAC 0] [])) s

/-- TRANSMIT_DESCRIPTOR_TAKE at Gather close: a Folio segment, then head type-4 descriptors, taken for the next cycle
(R390, R459). -/
def State.ridgeTake (s : State) : State :=
  if s.bivouac then s.ridgeRefuse
  else if s.ridge.state ≠ 5 then s
  else
    let c := (s.ridge.cycle + 1) % 64
    let k := s.ridge.active
    ((s.ringOrder 4).foldl (fun (acc : State × List Nat) q =>
      let r := acc.1.ring q.page q.num
      match acc.1.ringHead r with
      | none => acc
      | some (pos, d) =>
        let fid := byteAt d 28
        let e := s.schEntry k fid
        let sel := byteAt d 29
        if acc.2.contains fid || fid == 0 || entOwner e != s.node || !(s.idsUsed k).contains fid || s.ledgerIds.contains fid ||
            s.slotOf k c fid == 0 || (sel != 0xFF && sel != c) then acc
        else
          let p := r.page
          let key := 0x0D000000 + pageOwner p * 65536
          let t := acc.1.takeHead r
          if !(s.ownsTable r pos && s.ownsRun p (descBuf d) (descLen d)) then
            ((t.violate p (0x200 + 4 * r.num) true).stage (plainUnit key [.complete p r.num pos r.gen stNO_SUCH_OBJECT 0] []), acc.2 ++ [fid])
          else if entLen e < descLen d then (t.stage (plainUnit key [.complete p r.num pos r.gen stDENIED 0] []), acc.2 ++ [fid])
          else
            let f : RidgeOut := ⟨fid, c, 0, acc.1.bufRead p (descBuf d) (descLen d), some (p, r.num, pos, r.gen), none, false⟩
            ({ t with ridge := { t.ridge with next := t.ridge.next ++ [f] } }, acc.2 ++ [fid])) (s.exportFrame c)).1

/-- Whether own frames may be driven now: not listen-only, RIDGE_START_SCHEDULE VALID, guardian armed, not ISOLATED (R377, R390,
R401, R403).
DEDUCED, log entry 126, unsafe. -/
def State.mayDrive (s : State) : Bool :=
  !s.ridge.stopped && s.ridge.topology != 3 && !s.listenOnly && s.schValid (s.num 0x500008)

/-- An own frame of the running cycle driven: without its CMAC it stays silent and is counted (R394). -/
def State.drive (s : State) (f : RidgeOut) : State :=
  let key := s.frameKey f.fid
  if !s.mayDrive then s
  else if key ≠ 15 ∧ f.cmac = none then s.countUp 60 1
  else
    let b := s.outFrame f ++ f.cmac.getD []
    { s with ridge := { s.ridge with
      ready := s.ridge.ready.map fun g => if g.fid = f.fid ∧ g.cycle = f.cycle then { g with sent := true } else g
      sent := s.ridge.sent ++ [b.take 5], line := b ++ frameCrc b } }

/-- FRAME_SEND: the slot or window of an own FRAME_ID opens; `overlaps` frames arrived for the output meanwhile (R358, R367,
R393). -/
def execFrameSend (fid overlaps : Nat) (s : State) : Out :=
  match s.ridge.ready.find? fun f => f.fid == fid && f.fid != 0 && f.fid != 255 with
  | some f =>
    if s.ridge.state = 5 ∧ s.slotOf s.ridge.active s.ridge.cycle fid = 1 ∧
        entOwner (s.schEntry s.ridge.active fid) = s.node then .next ((s.countUp 55 overlaps).drive f) else .next s
  | none => .next s

/-- VOTE_FRAME: the vote slot of this node's cycle (R368, R397). -/
def execVoteFrame (s : State) : Out :=
  match s.ridge.ready.find? (·.fid == 0) with
  | some f =>
    if s.ridge.state = 5 ∧ s.ridge.cycle = s.node ∧ f.sent = false then
      let s' := s.drive f
      if s'.ridge.sent = s.ridge.sent then .next s'
      else .next { s' with ridge := { s'.ridge with ownVotes := s'.ridge.ownVotes ++ [(s.ridge.sheet, byteAt f.body 5)] } }
    else .next s
  | none => .next s

/-- The dynamic segment or arbitrating window a minislot belongs to: first and last FRAME_ID, minislot length and count. -/
def State.dynSegment (s : State) (win : Nat) : Option (Nat × Nat × Nat × Nat) :=
  let h := s.schHeader s.ridge.active
  if hLayout h = 1 then some (hStatic h + 1, hStatic h + hDyn h, hMsUs h, hMini h)
  else
    let w := s.schWindow s.ridge.active (16 * mapTemplate (s.schMap s.ridge.active) s.ridge.cycle + win % 16)
    if wType w = 2 then some (wFirst w, wLast w, wMs w, wLen w / max 1 (wMs w)) else none

/-- MINISLOT: the counter's FRAME_ID sends if it may, or the counter moves on: by the minislots of the frame heard, or by
one. `heard` is LENGTH and AUTH of a header received in it; `blind` a SOF whose header could not be used (R372, R374). -/
def execMinislot (win : Nat) (heard : Option (Nat × Bool)) (blind : Bool) (s : State) : Out :=
  if !s.ridgeSync then .next s
  else match s.dynSegment win with
    | none => .next s
    | some (first, last, ms, count) =>
      let cur := match s.ridge.dyn with
        | some (w, i, n) => if w = win then (i, n) else (first, 0)
        | none => (first, 0)
      let fid := cur.1
      if last < fid ∨ count ≤ cur.2 then .next s
      else
        let own := s.ridge.ready.find? fun f => f.fid == fid && f.kind < 2 && entOwner (s.schEntry s.ridge.active fid) == s.node
        let k (f : RidgeOut) := s.miniK ms (s.outPayload f).length (keyed (s.frameKey f.fid))
        let put (s : State) (n : Nat) : State := { s with ridge := { s.ridge with dyn := some (win, fid + 1, cur.2 + n) } }
        match own, heard with
        | some f, _ =>
          if s.ridge.state = 5 ∧ s.ridge.barred = false ∧ cur.2 + k f ≤ count then
            let s' := s.drive f
            .next (put s' (if s'.ridge.sent = s.ridge.sent then 1 else k f))
          else .next (put s 1)
        | none, some (len, auth) => .next (put s (s.miniK ms len auth))
        | none, none =>
          if blind ∧ s.ridge.barred = false then
            .next (put { s.countUp 54 1 with ridge := { s.ridge with barred := true } } 1)
          else .next (put s 1)

/-! ## Receiving (R364, R367, R382-R385, R389) -/

/-- Fields of a frame as received. -/
def fKind (f : Bytes) : Nat := byteAt f 0 / 64
def fSource (f : Bytes) : Nat := byteAt f 0 % 64
def fAuth (f : Bytes) : Bool := (byteAt f 1).testBit 7
def fHops (f : Bytes) : Nat := byteAt f 1 % 128
def fCycle (f : Bytes) : Nat := byteAt f 2 % 64
def fId (f : Bytes) : Nat := byteAt f 3
def fLen (f : Bytes) : Nat := byteAt f 4
def fPayload (f : Bytes) : Bytes := slice f 5 (fLen f)
def fCmac (f : Bytes) : Bytes := if fAuth f then slice f (5 + fLen f) 4 else []

/-- A copy is whole: no violation, ended by EOF, its length agreeing with LENGTH and AUTH, its CRC matching, no reserved value
(R359-R362, R364). -/
def copyWhole (x : RidgeRx) : Bool :=
  let f := x.frame
  x.violations == 0 && x.ended && fLen f != 255 && f.length == 9 + fLen f + (if fAuth f then 4 else 0) &&
    f.drop (f.length - 4) == frameCrc (f.take (f.length - 4)) &&
    (match fKind f with
      | 3 => fId f == 0 || fId f == 255
      | 2 => fLen f == 0 && decide (1 ≤ fId f) && decide (fId f ≤ 250)
      | _ => decide (1 ≤ fId f) && decide (fId f ≤ 250))

/-- A frame agrees with a schedule for the slot of FRAME_ID `slot` in a cycle (R361, R364, R368). -/
def State.agrees (s : State) (k c slot : Nat) (f : Bytes) : Bool :=
  if fKind f = 3 then
    fLen f == 12 && fAuth f == keyed (s.num 0x500007) && (fId f == 255 || (slot == 0 && fSource f == c))
  else
    let e := s.schEntry k (fId f)
    let so := s.slotOf k c (fId f)
    fId f == slot && so != 0 && fSource f == entOwner e && fAuth f == keyed (entKey e) &&
      (if fKind f = 2 then so == 1 else if so = 1 then fLen f == entLen e else decide (1 ≤ fLen f) && decide (fLen f ≤ entLen e))

/-- An integration frame: a cold-start frame or the vote of a synchronised node, of a schedule VALID here with the digest
it names (R382). -/
def State.integrates (s : State) (f : Bytes) : Bool :=
  let p := fPayload f
  let a := byteAt p 4
  fKind f == 3 && fLen f == 12 && fAuth f == keyed (s.num 0x500007) && s.schValid a &&
    (fId f == 255 || (byteAt p 10).testBit 0) &&
    ((fId f == 0 && byteAt p 5 != 0xFF) || slice p 6 4 == (s.schDigest a).take 4)

/-- Deviation of a copy's SOF in quarters of a nanosecond; `sof` is in CK_SYS cycles from the start of its slot (R385). -/
def State.deviation (s : State) (f : Bytes) (sof : Int) : Int :=
  25 * sof - 4 * ((2000 + (fHops f + 1) * (1625 + s.num 0x500009) : Nat) : Int)

/-- A copy that begins as a frame this node sent in this cycle. -/
def State.ownCopy (s : State) (f : Bytes) : Bool :=
  s.ridge.sent.any fun h => h == f.take 1 ++ beBytes 1 (byteAt f 1 / 128 * 128) ++ slice f 2 3

/-- What one copy counts: code violations, HOPS dropped where its input is repeated, a failed CRC, an ID conflict (R353, R354,
R358, R362, R393).
DEDUCED, log entry 124, safe. -/
def State.countCopy (s : State) (repeated : Bool) (x : RidgeRx) : State :=
  let f := x.frame
  let s := s.countUp 50 x.violations
  let s := if repeated && decide (2 ≤ f.length) && fSource f != s.node && decide (s.num 0x500003 ≤ fHops f + 2) then s.countUp 53 1 else s
  if x.violations != 0 || !x.ended then s
  else if f.drop (f.length - 4) != frameCrc (f.take (f.length - 4)) then s.countUp 51 1
  else if fSource f = s.node then
    if copyWhole x && !s.ownCopy f then (s.countUp 61 1).ridgeItem 5 (f.take 5) 0x2A 0 else s
  else s

/-- A valid frame's item (R389): null and cold-start frames yield none. -/
def State.frameItem (s : State) (f : Bytes) (chan : Nat) : State :=
  if fKind f = 2 ∨ (fKind f = 3 ∧ fId f = 255) then s
  else
    s.offer 0x0B (fSource f) ([0] ++ beBytes 1 chan ++ beBytes 1 (b2n (fAuth f)) ++ f.take 5 ++ fPayload f)
      ([10, s.ridge.sheet] ++ nums (fCmac f))

/-- The ring entered on an integration frame (R382). -/
def State.integrate (s : State) (f : Bytes) : State :=
  let p := fPayload f
  let s := s.ridgeTo 3
  { s with ridge := { s.ridge with cycle := fCycle f, sheet := beNat (slice p 0 4), active := byteAt p 4, devs := [] } }

/-- A withdrawal from the dynamic segment of this cycle, counted once (R372). -/
def State.withdraw (s : State) (slot : Nat) : State :=
  if s.ridgeSync && s.slotOf s.ridge.active s.ridge.cycle slot == 2 && !s.ridge.barred then
    { s.countUp 54 1 with ridge := { s.ridge with barred := true } }
  else s

/-- FRAME_RECEIVED: the copies of a frame received in the slot, window or minislot of FRAME_ID `slot` (0 the vote slot) are
judged; one copy is used and its item completes at the end of the slot (R364, R367, R379-R385, R388).
DEDUCED, log entry 124, safe.
DEDUCED, log entry 127, unsafe. -/
def execFrameReceived (slot : Nat) (a b : Option RidgeRx) (s : State) : Out :=
  if s.ridge.state = 0 then .next s
  else
    let a := a.filter fun _ => !s.isolated 0
    let b := b.filter fun _ => !s.isolated 1
    let both := a.toList ++ b.toList
    let s := a.toList.foldl (State.countCopy · (s.ridge.topology < 2)) s
    let s := b.toList.foldl (State.countCopy · (s.ridge.topology % 2 == 0)) s
    let whole (x : Option RidgeRx) : Option RidgeRx := x.filter fun x => copyWhole x && fSource x.frame != s.node
    let foreign := both.any fun x => fSource x.frame != s.node
    let s := if s.ridge.state = 2 ∧ (both.any fun x => !s.ownCopy x.frame) = true then s.ridgeTo 1 else s
    let wa := whole a
    let wb := whole b
    match wa.orElse fun _ => wb with
    | none =>
      .next (if foreign then s.withdraw slot else s)
    | some x =>
      let f := x.frame
      let s := { s with ridge := { s.ridge with listenFrom := s.sys.stroke } }
      if s.ridge.state = 1 then
        if s.integrates f then .next (s.integrate f) else .next s
      else
        let c := s.ridge.cycle
        let k := s.ridge.active
        let ok (y : Option RidgeRx) : Option RidgeRx := y.filter fun y => s.agrees k c slot y.frame && (fCycle y.frame == c)
        let va := ok wa
        let vb := ok wb
        match va.orElse fun _ => vb with
        | none =>
          let wrong := (wa.toList ++ wb.toList).any fun y => fCycle y.frame != c
          if s.ridge.state = 3 then .next (s.ridgeTo 1)
          else .next ({ s with ridge := { s.ridge with badCycle := s.ridge.badCycle + b2n wrong } }.withdraw slot)
        | some y =>
          let zero (f : Bytes) : Bytes := f.take 1 ++ beBytes 1 (byteAt f 1 / 128 * 128) ++ f.drop 2
          let differ := match va, vb with
            | some p, some q => zero p.frame != zero q.frame
            | _, _ => false
          let s := if differ then s.countUp 52 1 else s
          let headers := match va, vb with
            | some p, some q => (zero p.frame).take 5 != (zero q.frame).take 5
            | _, _ => false
          let s := if headers then s.withdraw slot else s
          let f := y.frame
          let near := match va, vb with
            | some p, some q => if fHops q.frame < fHops p.frame then q else p
            | _, _ => y
          let sync := (fKind f != 3 && entSync (s.schEntry k (fId f))) || (fId f == 255 && s.ridge.state == 3)
          let s := if sync then
              { s with ridge := { s.ridge with
                devs := s.ridge.devs ++ [s.deviation near.frame near.sof], syncSeen := s.ridge.syncSeen || fKind f != 3 } }
            else s
          let s := if fKind f = 3 ∧ fId f = 255 then s else { s with ridge := { s.ridge with seen := true } }
          .next (s.frameItem f (if va.isSome then 0 else 1))

/-- The smallest and largest deviations that remain after the discards of R386, where there are any. -/
def midpoint (devs : List Int) : Option (Int × Int) :=
  let ds := devs.mergeSort fun x y => decide (x ≤ y)
  let n := if ds.length < 3 then 0 else if ds.length < 7 then 1 else 2
  let mid := (ds.drop n).take (ds.length - 2 * n)
  match mid.head?, mid.getLast? with
  | some lo, some hi => some (lo, hi)
  | _, _ => none

/-- A stroke offset in CK_SYS cycles, taken into the range of half a stroke either way (R386). -/
def State.wrapOffset (s : State) (o : Int) : Int :=
  let half : Int := Int.ofNat (80 * s.strokeUs)
  (o + half) % (2 * half) - half

/-- The ring timer corrected by the midpoint of the cycle's deviations, and the stroke offset that follows (R386). -/
def State.ringCorrect (s : State) (offset : Int) : State :=
  match midpoint s.ridge.devs with
  | some (lo, hi) =>
    let q := s.divOpen (lo + hi) 50
    { q.2 with ridge := { q.2.ridge with strokeOffset := s.wrapOffset (offset + q.1), devs := [] } }
  | none => { s with ridge := { s.ridge with strokeOffset := s.wrapOffset offset, devs := [] } }

/-- The end of an INTEGRATING node's cycle: consistent cycles counted, two in a row lead to CONVERGING with
RIDGE_CYCLE_OFFSET fixed, eight without a valid frame to LISTEN (R379, R382, R383).
DEDUCED, log entry 127, unsafe. -/
def State.integrating (s : State) : State :=
  let r := s.ridge
  let quiet := if r.seen then 0 else r.quiet + 1
  let cons := if r.seen then r.consistent + 1 else 0
  let nc := (r.cycle + 1) % 64
  let sheet := if nc = 0 then (r.sheet + 1) % 2 ^ 32 else r.sheet
  let s := { s with ridge := { r with consistent := cons, quiet := quiet, seen := false, cycle := nc, sheet := sheet } }
  if 8 ≤ quiet then s.ridgeTo 1
  else if 2 ≤ cons then
    let s := s.ridgeTo 4
    let near := if Int.ofNat (160 * s.num 0x500006) ≤ s.ridge.strokeOffset then s.sys.stroke else s.sys.stroke + 1
    let off := (nc + 64 * (near / 64 + 1) - near) % 64
    { s with ridge := { s.ridge with offset := off, cycle := (s.sys.stroke + off) % 64 } }
  else s

/-- A synchronised node's request to the stroke timer, and its state by the offset (R31, R379, R386). -/
def State.converging (s : State) : State :=
  let o := s.ridge.strokeOffset
  let s := if s.pole.self.admitted then s else { s with sys := { s.sys with corrCarry := o } }
  if s.ridge.state = 4 ∧ o.natAbs ≤ 160 ∧ s.listenOnly = false then s.ridgeTo 5
  else if s.ridge.state = 5 ∧ (160 < o.natAbs ∨ s.listenOnly = true) then s.ridgeTo 4
  else s

/-- CLOCK_CORRECTION: at the start of the network idle time the ring timer takes the fault-tolerant midpoint of the cycle's
deviations; `offset` is the stroke offset measured before it. The offset is the stroke timer's request, and decides between
SYNC and CONVERGING; an INTEGRATING node counts its consistent cycles (R379, R382, R383, R386). -/
def execClockCorrection (offset : Int) (s : State) : Out :=
  if s.ridge.state < 3 then .next s
  else if s.ridge.state = 3 then .next (s.ringCorrect offset).integrating
  else .next (s.ringCorrect offset).converging

/-! ## Cold start (R380, R381) -/

/-- LISTEN_TIMEOUT: 16 + 2 × RIDGE_NODE_ID strokes of LISTEN without a valid frame: a cold-start node begins its attempt at
the second boundary. -/
def execListenTimeout (s : State) : Out :=
  if s.ridge.state = 1 ∧ s.num 0x50000A = 1 ∧ s.listenOnly = false ∧ s.ridge.listenFrom + 16 + 2 * s.node ≤ s.sys.stroke then
    let s := s.ridgeTo 2
    .next { s with ridge := { s.ridge with coldFrom := s.sys.stroke + 2, attempts := 0, vote := none } }
  else .next s

/-- COLDSTART_FRAME: the frame of this stroke is sent. -/
def execColdstartFrame (s : State) : Out :=
  match s.ridge.ready.find? fun f => f.fid == 255 && f.cycle == s.sys.stroke % 64 && !f.sent with
  | some f =>
    if s.ridge.state = 2 then
      let s' := s.drive f
      if s'.ridge.sent = s.ridge.sent then .next s' else .next { s' with ridge := { s'.ridge with attempts := s'.ridge.attempts + 1 } }
    else .next s
  | none => .next s

/-- COLDSTART_COMPLETE: at the boundary after the fourth frame the node is leader; an attempt whose frames did not all go
out is over.
DEDUCED, log entry 128, safe. -/
def execColdstartComplete (s : State) : Out :=
  if s.ridge.state = 2 ∧ s.ridge.coldFrom + 4 ≤ s.sys.stroke then
    if s.ridge.attempts = 4 ∧ s.listenOnly = false then
      let s := { s with ridge := { s.ridge with
        offset := 0, leader := s.node, active := s.num 0x500008, votes := [], ownVotes := [], cycle := s.sys.stroke % 64
        sheet := s.sys.stroke / 64 % 2 ^ 32 } }
      let s := s.ridgeTo 5
      let own := s.ownFrames
      .next (own.foldl State.queueCmac { s with ridge := { s.ridge with ready := s.ridge.ready ++ own } })
    else .next (s.ridgeTo 1)
  else .next s

/-! ## Membership, votes and schedules (R395-R399) -/

/-- Votes of a sheet from synchronised nodes. -/
def State.votesOf (s : State) (sheet : Nat) : List Vote :=
  s.ridge.votes.filter fun v => v.sheet == sheet && (byteAt v.payload 10).testBit 0

/-- The membership of a sheet (R397). -/
def State.membership (s : State) (sheet : Nat) : List Nat :=
  ((s.votesOf sheet).map (·.node) ++ (if s.ridge.ownVotes.any (·.1 == sheet) then [s.node] else [])).dedup

/-- A sheet `k` before the running one. -/
def State.sheetBack (s : State) (k : Nat) : Nat := (s.ridge.sheet + 2 ^ 32 - k) % 2 ^ 32

/-- RIDGE_MEMBERS. -/
def State.membersMask (s : State) : Nat := (s.membership (s.sheetBack 1)).foldl (fun v n => setBit v n true) 0

/-- LOSS_OF_SYNCHRONISATION (R388).
DEDUCED, log entry 132, unsafe. -/
def execLossOfSynchronisation (s : State) : Out :=
  if s.ridgeSync then
    let others := (s.membership (s.sheetBack 1)).any (· != s.node)
    if (decide (8 ≤ s.ridge.syncQuiet) && others) || !s.schValid s.ridge.active || decide (2 ≤ s.ridge.badCycle) then
      .next ((s.countUp 63 1).ridgeEnter 1 0x27)
    else .next s
  else .next s

/-- A data frame delivered to the first matching type-5 ring, or dropped and counted (R391). -/
def State.ridgeDeliver (s : State) (key : Nat) (f : Bytes) : State :=
  let fit := (s.ringOrder 5).findSome? fun r => (s.ringHead r).bind fun h =>
    if (byteAt h.2 28 = 0 ∨ byteAt h.2 28 = byteAt f 3) ∧ (byteAt h.2 29 = 0xFF ∨ byteAt h.2 29 = fSource f) then some (r, h) else none
  match fit with
  | none => s.countObj 0x3A0004 1
  | some (r, pos, d) =>
    let t := s.takeHead r
    if !(s.ownsTable r pos && s.ownsRun r.page (descBuf d) (descLen d)) then
      ((t.violate r.page (0x200 + 4 * r.num) true).countObj 0x3A0004 1).stage
        (plainUnit key [.complete r.page r.num pos r.gen stNO_SUCH_OBJECT 0] [])
    else if descLen d < f.length then
      (t.countObj 0x3A0004 1).stage (plainUnit key [.complete r.page r.num pos r.gen stDENIED 0] [])
    else t.stage (plainUnit key [.store r.page (descBuf d) f, .complete r.page r.num pos r.gen stOK f.length] [])

/-- What a received frame does once it may act: delivery, reassembly, a vote (R391, R392, R395, R397). `f` is header and
payload.
DEDUCED, log entry 131, unsafe. -/
def State.ridgeAct (s : State) (i : Item) (f : Bytes) : State :=
  let p := f.drop 5
  match fKind f with
  | 0 => s.ridgeDeliver i.key f
  | 1 =>
    if byteAt p 1 = s.node ∨ byteAt p 1 = 0xFF then
      let r := s.takeSegment (fSource f) 0 (byteAt p 0) (p.drop 2)
      match r.1 with
      | some (msg, _) => r.2.gatherRequest { i with cls := 0x0B, idx := fSource f } msg [2, fSource f]
      | none => r.2
    else s
  | 3 => { s with ridge := { s.ridge with
      votes := s.ridge.votes ++ [⟨if fCycle f ≤ s.ridge.cycle then s.ridge.sheet else s.sheetBack 1, fSource f, p⟩] } }
  | _ => s

/-- The unit of a gathered frame: an authenticated one is sent to queue 1 for verification (R395), another acts.
DEDUCED, log entry 133, unsafe. -/
def State.ridgeUnit (s : State) (i : Item) : State :=
  let s := s.consume i
  let f := i.val.drop 3
  if byteAt i.val 2 = 1 then
    let k := s.frameKey (byteAt f 3)
    let m := beBytes 4 (i.aux.getD 1 0) ++ f.take 1 ++ beBytes 1 (byteAt f 1 / 128 * 128) ++ f.drop 2
    s.stage (plainUnit i.key [.quillQueue ⟨1, 7, 9, 0x48 + k, none, [], [], m, toBytes (i.aux.drop 2), 0, nums f⟩] [])
  else s.ridgeAct i f

/-- FRAME_VERIFIED: a verification is gathered: the frame acts, or is discarded and counted with its SOURCE and FRAME_ID
recorded; while Quill is quarantined it is discarded without being counted (R395, R396). -/
def execFrameVerified (s : State) : Out :=
  match s.gathered.find? fun i => i.cls == 5 && i.idx == 1 && i.aux.head? == some 100 && i.aux.getD 1 0 == 7 with
  | none => .next s
  | some i =>
    if !s.working then .next s
    else
      let f := toBytes ((i.aux.drop 2).takeWhile (· < 256))
      let s' := s.consume i
      let st := byteAt i.val 0
      if st = stOK ∧ byteAt i.val 1 = 0 then .next (s'.ridgeAct i f)
      else if st = stQUARANTINED then .next s'
      else .next ((s'.countUp 59 1).stage (plainUnit i.key [] [s.recItem 8 { i with val := [fSource f, byteAt f 3].map (BitVec.ofNat 8) }]))

/-- SCHEDULE_DECISION: in the stroke of ring cycle 1, the votes of the last sheet decide a switch (R398). -/
def execScheduleDecision (s : State) : Out :=
  if s.working && s.ridgeSync && s.ridge.cycle == 1 then
    let v := s.votesOf (s.sheetBack 1)
    let own := (s.ridge.ownVotes.filter (·.1 == s.sheetBack 1)).map (·.2)
    let k := match own, v with
      | x :: _, _ => x
      | [], w :: _ => byteAt w.payload 5
      | [], [] => 0xFF
    let all := (s.membership (s.sheetBack 2)).all fun n =>
      if n = s.node then !own.isEmpty else s.ridge.votes.any fun w => w.sheet == s.sheetBack 1 && w.node == n
    let agree := v.all (fun w => byteAt w.payload 5 == k && slice w.payload 6 4 == (s.schDigest k).take 4) && own.all (· == k)
    if all && agree && s.schValid k && k != s.ridge.active then .next { s with ridge := { s.ridge with switchTo := some k } }
    else .next { s with ridge := { s.ridge with switchTo := none } }
  else .next s

/-- A timed unit of Ridgeline. -/
def ridgeTimed (effs : List Effect) : Staged := plainUnit 0x0E030000 effs []

/-- SCHEDULE_SWITCH: the schedule decided becomes active at the sheet boundary; RIDGE_REQUEST returns to 0xFF (R398). -/
def execScheduleSwitch (s : State) : Out :=
  match s.ridge.switchTo with
  | some k =>
    if s.working && s.ridgeSync && s.ridge.cycle == 63 then
      .next (s.stage (ridgeTimed [.ridgeActive k false, objN 0x50000B 0xFF, .count 62 1]))
    else .next s
  | none => .next s

/-- SCHEDULE_ADOPTION: every other member's vote of a complete sheet names another schedule, with the digest this node has
for it (R399). -/
def execScheduleAdoption (s : State) : Out :=
  let v := (s.votesOf (s.sheetBack 1)).filter (·.node != s.node)
  match v with
  | [] => .next s
  | w :: _ =>
    let j := byteAt w.payload 4
    if s.working && s.ridge.state == 5 && s.ridge.cycle == 63 && s.ridge.switchTo.isNone && j != s.ridge.active && s.schValid j &&
        v.all (fun x => byteAt x.payload 5 == 0xFF && byteAt x.payload 4 == j && slice x.payload 6 4 == (s.schDigest j).take 4) then
      .next (s.stage (ridgeTimed [.ridgeActive j true]))
    else .next s

/-- A schedule made active at its boundary, with its status item (R406). -/
def State.ridgeActivate (s : State) (k : Nat) (adopted : Bool) : State :=
  let old := s.ridge.active
  { s with ridge := { s.ridge with active := k, switchTo := none } }.ridgeItem (if adopted then 7 else 6) (beBytes 1 old ++ beBytes 1 k) 0 0

/-! ## Breaks and healing (R400-R402, R405) -/

/-- A side found lost: 0 UP, 1 DN (R401).
DEDUCED, log entry 134, safe. -/
def State.sideLost (s : State) (side : Nat) : State :=
  if side = 0 then { s with ridge := { s.ridge with lost := s.ridge.lost ||| 1, lostUp := s.sys.stroke } }
  else { s with ridge := { s.ridge with lost := s.ridge.lost ||| 2, lostDn := s.sys.stroke } }

/-- The side of an input: RGA_UP_RXD and RGB_UP_RXD (0, 1) UP, RGB_DN_RXD and RGA_DN_RXD (2, 3) DN. -/
def inputSide (i : Nat) : Nat := if i < 2 then 0 else 1

/-- LINE_BREAK: an input shows no transition for 1.5 µs (R400). -/
def execLineBreak (input : Nat) (s : State) : Out :=
  if s.ridge.state = 0 then .next s else .next (s.sideLost (inputSide input))

/-- SUPERVISION_LOSS: for 2 µs every ordered set of a side says that its forward lane is not received (R401). -/
def execSupervisionLoss (side : Nat) (s : State) : Out :=
  if s.ridge.state = 0 then .next s else .next (s.sideLost side)

/-- SYMBOL_SYNC_LOSS: 4 code violations within 16 symbols; with a loss in the cycle before too, the input is broken (R400). -/
def execSymbolSyncLoss (input : Nat) (s : State) : Out :=
  if s.ridge.state = 0 then .next s
  else
    let again := (alookup input s.ridge.symLoss).elim false fun t => decide (t + 1 = s.sys.stroke)
    let s := { s with ridge := { s.ridge with
      unlocked := setBit s.ridge.unlocked input true, symLoss := ainsert input s.sys.stroke s.ridge.symLoss } }
    .next (if again then s.sideLost (inputSide input) else s)

/-- SYMBOL_SYNC_REGAIN: 3 commas without a violation. -/
def execSymbolSyncRegain (input : Nat) (s : State) : Out :=
  .next { s with ridge := { s.ridge with unlocked := setBit s.ridge.unlocked input false } }

/-- Sides out of service: lost, or isolated by RIDGE_ISOLATE. -/
def State.sidesOut (s : State) : Nat := (s.ridge.lost ||| s.num 0x50000C) % 4

/-- RIDGE_SIDE_STATE (R407). -/
def State.sideState (s : State) : Nat := s.ridge.lost % 4 + s.num 0x50000C % 4 * 4

/-- WRAP: at the network idle time after a side is found lost or isolated, the node wraps (R401). -/
def execWrap (s : State) : Out :=
  let t := topologyOf (s.sidesOut ||| topologyOut s.ridge.topology)
  if s.ridge.state = 0 ∨ t = s.ridge.topology then .next s
  else
    let s := { s.countUp 128 1 with ridge := { s.ridge with topology := t } }
    .next (s.ridgeItem 2 (beBytes 1 t ++ beBytes 1 s.sideState) 0x26 t)

/-- SIDE_RESTORE: no loss condition of a side has held for a ring sheet, or 64 strokes where the node is not synchronised: it
returns to service at the network idle time of ring cycle 63 (R402).
DEDUCED, log entry 134, safe. -/
def execSideRestore (side : Nat) (s : State) : Out :=
  let since := if side = 0 then s.ridge.lostUp else s.ridge.lostDn
  let bit := if side = 0 then 0 else 1
  if s.ridge.state ≠ 0 ∧ since + 64 ≤ s.sys.stroke ∧ (s.num 0x50000C).testBit bit = false ∧
      (s.ridgeSync = false ∨ s.ridge.cycle = 63) ∧ (topologyOf s.sidesOut ≠ s.ridge.topology ∨ s.ridge.lost.testBit bit = true) then
    let s := { s with ridge := { s.ridge with lost := setBit s.ridge.lost bit false } }
    let others := topologyOut s.ridge.topology &&& (if bit = 0 then 2 else 1)
    let t := topologyOf others
    let s := { s with ridge := { s.ridge with topology := t } }
    .next (s.ridgeItem 2 (beBytes 1 t ++ beBytes 1 s.sideState) 0 0)
  else .next s

/-- A change of RIDGE_ISOLATE from `old`: a side was held lost until now (R401, R402). -/
def State.isolateNow (s : State) (old : Nat) : State :=
  { s with ridge := { s.ridge with
    lostUp := if old.testBit 0 then s.sys.stroke else s.ridge.lostUp, lostDn := if old.testBit 1 then s.sys.stroke else s.ridge.lostDn } }

/-! ## Guardian and babble (R403, R404) -/

/-- GUARDIAN_TRIP: an own transmission was stopped; the third in a ring sheet stops the node's own frames. -/
def execGuardianTrip (s : State) : Out :=
  if s.ridge.state = 0 then .next s
  else
    let n := s.ridge.trips + 1
    let stop := decide (3 ≤ n) || s.ridge.stopped
    let s := { s.countUp 58 1 with ridge := { s.ridge with trips := n, stopped := stop } }
    .next (s.ridgeItem 4 (beBytes 1 (b2n stop)) (if stop then 0x29 else 0) 0)

/-- A write of RIDGE_GUARD_CLEAR. -/
def State.opGuardClear (v : Bytes) : OpResult := if beNat v = 1 then .ok [.ridgeGuardClear] else .ok []

/-- The guardian armed again. -/
def State.guardClearNow (s : State) : State := { s with ridge := { s.ridge with stopped := false, trips := 0 } }

/-- BABBLE: babble of a kind on a side's forward input, counted once per input and cycle (R404). `source` and `hops` are
0xFF where unknown. -/
def execBabble (side kind source hops : Nat) (s : State) : Out :=
  if s.ridgeSync && !s.ridge.babbled.contains (side, kind) && decide (side < 2) && !s.isolated side then
    let b := stampBytes s.stamp ++ beBytes 1 side ++ beBytes 1 kind ++ beBytes 1 source ++ beBytes 1 hops ++ zeros 2
    let s := (s.countUp (56 + side) 1).setRaw 0x50010B b
    let s := { s with ridge := { s.ridge with babbled := s.ridge.babbled ++ [(side, kind)] } }
    .next (s.ridgeItem 3 (slice b 10 5) 0x28 kind)
  else .next s

/-- A Ledger message queued for its slots: 96 segments, dropped whole and counted where it does not fit (R392).
DEDUCED, log entry 130, unsafe. -/
def State.ridgeSend (s : State) (target : Nat) (msg : Bytes) : State :=
  match s.ledgerIds with
  | [] => s.countUp 129 1
  | i :: _ =>
    let n := max 1 (entLen (s.schEntry s.ridge.active i) - 2)
    let segs (k : Nat) := (k + n - 1) / n
    let used := (s.ridge.txq.map fun m => segs m.rest.length).sum
    if s.bivouac ∨ s.ridge.state = 0 ∨ 96 < used + segs msg.length ∨ 64 < segs msg.length then s.countUp 129 1
    else { s with ridge := { s.ridge with txq := s.ridge.txq ++ [⟨target, 0, msg⟩] } }

end Sys2Proof.Machine
end

