-- ==== Sys2Proof/Machine/Can.lean ====
section
/-!
DEFINITION. Can.lean: the two CAN FD controllers: acceptance, reassembly, the transmit ring, error states and bus-off
(R408-R419).
-/

namespace Sys2Proof.Machine

/-! ## Controllers and their objects (R419) -/

/-- Controller `k`. -/
def State.can (s : State) (k : Nat) : CanCtl := if k = 0 then s.can0 else s.can1

/-- Controller `k` replaced. -/
def State.setCan (s : State) (k : Nat) (c : CanCtl) : State := if k = 0 then { s with can0 := c } else { s with can1 := c }

/-- A committed object of controller `k`. -/
def State.canObj (s : State) (k sub : Nat) : Nat := s.num ((0x5800 + 16 * (k % 2)) * 256 + sub)

/-- Shadow counter `n` (from 1) of controller `k`. -/
def canCount (k n : Nat) : Nat := 129 + 7 * (k % 2) + n

/-- No identifier. -/
def noId : Nat := 0xFFFFFFFF

/-- The transceiver's standby lead: low in CAN_MODE 1 and 2 (R408). -/
def State.canStb (s : State) (k : Nat) : Bool := !(s.canObj k 1 == 1 || s.canObj k 1 == 2)

/-- An item of a controller: KIND, FLAGS, ID, LEN, DATA (R413). -/
def State.canItem (s : State) (k kind flags : Nat) (id data : Bytes) (aux : List Nat) : State :=
  s.offer 0x0C (k % 2) (beBytes 1 kind ++ beBytes 1 flags ++ id ++ beBytes 1 data.length ++ padTo 64 data) aux

/-- A change of CAN_STATE with its item (R416). -/
def State.canTo (s : State) (k st : Nat) : State :=
  let c := s.can k
  if c.state = st then s
  else
    (s.setCan k { c with state := st }).canItem k 1 st (beBytes 2 c.tec ++ beBytes 1 c.rxc ++ [0]) [] [11]

/-- Export blocks started and cut short are sent again whole (R415). -/
def CanCtl.restartExports (c : CanCtl) : CanCtl :=
  { c with tx := c.tx.map fun m => if m.isExport then { m with parts := m.whole } else m }

/-- PD11 up: a controller whose CAN_MODE is not 0 integrates (R418). -/
def State.canPowerUp (s : State) : State :=
  [0, 1].foldl (fun s k => if s.canObj k 1 = 0 then s else s.canTo k 1) { s with can0 := CanCtl.reset, can1 := CanCtl.reset }

/-- PD11 off or in reset: rings, counters and reassemblies are cleared (R418). -/
def State.canPowerDown (s : State) : State :=
  { s with can0 := CanCtl.reset, can1 := CanCtl.reset, reasm := s.reasm.filter fun r => decide (r.src < 256) }

/-- A controller re-initialised once its current frame is done: reassemblies discarded, the transmit ring kept, bus-off not
ended (R411).
DEDUCED, log entry 137, unsafe. -/
def State.canReinit (s : State) (k : Nat) : State :=
  let s := s.dropReasm (256 + k % 2)
  let s := s.setCan k { (s.can k).restartExports with reinit := false }
  if (s.can k).state = 4 ∨ (s.can k).state = 5 then s
  else if s.canObj k 1 = 0 then s.canTo k 0
  else s.canTo k 1

/-- A Commit changed a controller's mode, format, timing or identifiers (R411). -/
def State.canChanged (s : State) (k : Nat) : State :=
  if s.domReady 11 then
    if s.canObj k 1 = 0 ∨ (s.can k).state = 0 then s.canReinit k else s.setCan k { s.can k with reinit := true }
  else s

/-- CAN_INTEGRATION_COMPLETE: 11 recessive bits were seen. -/
def execCanIntegrationComplete (k : Nat) (s : State) : Out :=
  let s := if (s.can k).reinit then s.canReinit k else s
  if (s.can k).state = 1 then
    .next ((s.setCan k { s.can k with tec := 0, rxc := 0 }).canTo k 2)
  else .next s

/-! ## Errors and bus-off (R416, R417) -/

/-- A controller takes part in the bus. -/
def CanCtl.active (c : CanCtl) : Bool := c.state == 2 || c.state == 3

/-- Error counters set, and the state that follows from them. -/
def State.canErrors (s : State) (k tec rxc : Nat) : State :=
  let s := s.setCan k { s.can k with tec := tec, rxc := rxc }
  s.canTo k (if 128 ≤ tec ∨ 128 ≤ rxc then 3 else 2)

/-- ERROR_STATE_CHANGE: the error counters have moved to `tec` and `rec` and with them the error state. -/
def execErrorStateChange (k tec rec : Nat) (s : State) : Out :=
  if (s.can k).active then .next (s.canErrors k (min tec 255) (min rec 255)) else .next s

/-- BUS_OFF: TEC has passed 255: TX recessive, reassemblies discarded, the ring kept. -/
def execBusOff (k : Nat) (s : State) : Out :=
  if (s.can k).active then
    let s := (s.countUp (canCount k 5) 1).dropReasm (256 + k % 2)
    let s := s.setCan k { (s.can k).restartExports with tec := 256, recoverAt := none }
    .next (s.canTo k 4)
  else .next s

/-- Recovery begun (R417). -/
def State.canRecoverNow (s : State) (k : Nat) : State :=
  if (s.can k).state = 4 then (s.setCan k { s.can k with recoverAt := none }).canTo k 5 else s

/-- BUS_OFF_HOLD_EXPIRY: recovery begins at the Commit of stroke g + CAN_BUSOFF_HOLD_STROKES in mode 0. -/
def execBusOffHoldExpiry (k : Nat) (s : State) : Out :=
  match (s.can k).recoverAt with
  | some t =>
    if s.working && (s.can k).state == 4 && s.canObj k 0x0C == 0 && decide (t ≤ s.sys.stroke) then
      .next (s.stage (plainUnit 0x0E040000 [.canRecover (k % 2)] []))
    else .next s
  | none => .next s

/-- A write of CAN_RECOVER: recovery in mode 1, nothing where the controller is not bus-off.
DEDUCED, log entry 137, unsafe. -/
def State.opCanRecover (s : State) (k : Nat) (v : Bytes) : OpResult :=
  if beNat v = 1 ∧ (s.can k).state = 4 ∧ s.canObj k 0x0C = 1 then .ok [.canRecover (k % 2)] else .ok []

/-- RECOVERY_COMPLETE: 128 times 11 recessive bits: error-active with both counters zero, or OFF where CAN_MODE is 0 by now.
DEDUCED, log entry 137, unsafe. -/
def execRecoveryComplete (k : Nat) (s : State) : Out :=
  if (s.can k).state = 5 then
    .next ((s.setCan k { s.can k with tec := 0, rxc := 0 }).canTo k (if s.canObj k 1 = 0 then 0 else 2))
  else .next s

/-- PROTOCOL_EXCEPTION: counted, and the controller integrates again (R408). -/
def execProtocolException (k : Nat) (s : State) : Out :=
  if (s.can k).active then .next ((s.countUp (canCount k 7) 1).canTo k 1) else .next s

/-! ## Receiving (R412, R413) -/

/-- REC after a frame received well: one less, or between 119 and 127 from the passive range (ISO 11898-1).
PRESUMED, log entry 138, unsafe. -/
def State.recAfter (s : State) (k : Nat) : Nat × State :=
  let r := (s.can k).rxc
  if r < 128 then (r - 1, s) else
    let f := s.freeNat
    (119 + f.1 % 9, f.2)

/-- CAN_FRAME_RECEIVED: a data frame ends its EOF. On the request identifier it enters the receive ring; on one of the
device's own it is counted as a conflict; another is ignored. `flags` as FLAGS of R413.
DEDUCED, log entry 135, unsafe. -/
def execCanFrameReceived (k flags id : Nat) (data : Bytes) (s : State) : Out :=
  let c := s.can k
  if !c.active then .next s
  else
    let fd := flags.testBit 1
    if fd ∧ s.canObj k 2 = 0 then .next s
    else
      let q := s.recAfter k
      let s := q.2.canErrors k c.tec q.1
      let s := if (flags.testBit 0) != (s.canObj k 3 == 1) || id == noId then s
        else if id = s.canObj k 4 then
          let waiting := (s.gq.filter fun i => i.cls == 0x0C && i.idx == k % 2 && byteAt i.val 0 == 0).length
          if 64 ≤ waiting then s.countUp (canCount k 3) 1
          else (s.countUp (canCount k 1) 1).canItem k 0 (flags % 16) (beBytes 4 id) (data.take 64) []
        else if id = s.canObj k 5 ∨ id = s.canObj k 6 then
          (s.countUp (canCount k 6) 1).canItem k 2 (flags % 16) (beBytes 4 id) [] [11]
        else s
      .next (if (s.can k).reinit then s.canReinit k else s)

/-- The unit of a gathered CAN item: a segment of a request, or a change of state or conflict, recorded; a bus-off starts its
hold time (R121, R413, R417). -/
def State.canUnit (s : State) (i : Item) : State :=
  let s := s.consume i
  let k := i.idx
  if byteAt i.val 0 = 0 then
    let fl := byteAt i.val 1
    let fmt := if fl.testBit 1 then (if fl.testBit 2 then 2 else 1) else 0
    let d := slice i.val 7 (byteAt i.val 6)
    let r := s.takeSegment (256 + k) fmt (byteAt d 0) (d.drop 1)
    match r.1 with
    | some (msg, f) => r.2.gatherRequest i msg [1, k, f]
    | none => r.2
  else
    let off := byteAt i.val 0 = 1 ∧ byteAt i.val 1 = 4
    let s := if off then
        s.setCan k { s.can k with recoverAt := some (s.sys.stroke + s.canObj k 0x0D) }
      else s
    s.stage (plainUnit i.key (if off then [.fault 0x2B k] else []) [s.recItem 9 i])

/-! ## Sending (R414, R415) -/

/-- The next data length a frame may have (R121). -/
def canPad (fmt n : Nat) : Nat :=
  if fmt = 0 then n else (([0, 1, 2, 3, 4, 5, 6, 7, 8, 12, 16, 20, 24, 32, 48, 64].find? (n ≤ ·)).getD 64)

/-- The data fields of a message. -/
def canParts (fmt : Nat) (msg : Bytes) : List Bytes :=
  (segments (if fmt = 0 then 7 else 63) msg).map fun p => padTo (canPad fmt p.length) p

/-- CAN_TX_QUEUED. -/
def CanCtl.queued (c : CanCtl) : Nat := (c.tx.map (·.parts.length)).sum

/-- A message placed in the transmit ring whole, or dropped whole and counted. -/
def State.canQueue (s : State) (k : Nat) (isExport : Bool) (fmt : Nat) (msg : Bytes) : State :=
  let c := s.can k
  let id := s.canObj k (if isExport then 6 else 5)
  let parts := canParts fmt msg
  if s.canObj k 1 ≠ 1 ∨ c.state = 0 ∨ id = noId ∨ (fmt = 0 ∧ isExport = false ∧ 448 < msg.length) ∨ 128 < c.queued + parts.length then
    s.countUp (canCount k 4) 1
  else s.setCan k { c with tx := c.tx ++ [⟨isExport, id, fmt, s.sys.stroke, parts, parts⟩] }

/-- The format of events and export segments. -/
def State.canEventFmt (s : State) (k : Nat) : Nat := if s.canObj k 2 = 1 ∧ s.canObj k 9 = 1 then 2 else 0

/-- Position of the message whose frame goes next: responses and events first, then export segments as CAN_EXPORT_FRAMES
allows. -/
def State.canHead (s : State) (k : Nat) : Option Nat :=
  let c := s.can k
  match c.tx.findIdx? (fun m => !m.isExport) with
  | some i => some i
  | none => if c.offered < s.canObj k 0x0B ∧ s.canObj k 0x0A = 1 then c.tx.findIdx? (·.isExport) else none

/-- CAN_FRAME_SENT: the frame at the head of the transmit ring was sent.
PRESUMED, log entry 138, unsafe. -/
def execCanFrameSent (k : Nat) (s : State) : Out :=
  let c := s.can k
  match (if c.active && s.canObj k 1 == 1 then s.canHead k else none) with
  | none => .next s
  | some i =>
    match c.tx[i]? with
    | none => .next s
    | some m =>
      let rest := m.parts.drop 1
      let tx := if rest = [] then c.tx.eraseIdx i else c.tx.set i { m with parts := rest }
      let s := (s.countUp (canCount k 2) 1).setCan k { c with
        tx := tx, line := m.parts.headD [], offered := c.offered + b2n m.isExport }
      let s := s.canErrors k (c.tec - 1) c.rxc
      .next (if (s.can k).reinit then s.canReinit k else s)

/-- TX_LIFETIME_EXPIRY: messages not sent within CAN_TX_LIFETIME strokes of their release are discarded whole.
DEDUCED, log entry 136, unsafe. -/
def execTxLifetimeExpiry (k : Nat) (s : State) : Out :=
  let c := s.can k
  let old (m : CanTx) : Bool := !m.isExport && decide (m.release + s.canObj k 0x13 ≤ s.sys.stroke)
  .next ((s.countUp (canCount k 4) (c.tx.filter old).length).setCan k { c with tx := c.tx.filter fun m => !old m })

/-- A controller at a boundary: the counters shown, the export frames of a new stroke (R415, R416). -/
def State.canBoundary (s : State) : State :=
  [0, 1].foldl (fun s k => let c := s.can k; s.setCan k { c with tecView := c.tec, recView := c.rxc, offered := 0 }) s

end Sys2Proof.Machine
end

