-- ==== Sys2Proof/Machine/Images.lean ====
section
/-!
DEFINITION. Images.lean: image verification, tested pairs, boot selection, activation, Bivouac mode and cascade
compatibility (R464-R482).
-/

namespace Sys2Proof.Machine

/-! ## Reading a slot (R464-R466) -/

/-- The slot named: B or A. -/
def State.slot (s : State) (b : Bool) : Slot := if b then s.img.slotB else s.img.slotA

/-- A slot replaced. -/
def State.setSlot (s : State) (b : Bool) (x : Slot) : State :=
  { s with img := if b then { s.img with slotB := x } else { s.img with slotA := x } }

/-- `n` bytes of a slot from a page on. -/
def Slot.read (x : Slot) (page n : Nat) : Bytes := ((List.range ((n + 255) / 256)).flatMap fun i => x.page (page + i)).take n

/-- First page of an image in its slot. -/
def regionPage (main : Bool) : Nat := if main then 0 else 320

/-- An image's header (R465). -/
def Slot.header (x : Slot) (main : Bool) : Bytes := x.read (regionPage main) 128

/-- Whether words of an image's `n` bytes read as uncorrectable. -/
def State.badImage (s : State) (b main : Bool) (n : Nat) : Bool :=
  let first := ((if b then 384 else 0) + regionPage main) * 32
  s.ink.badWords.any fun w => decide (first ≤ w) && decide (w < first + (n + 7) / 8)

/-- Facts of an image: by its header and signature, or as delivered (R466).
DEDUCED, log entry 158, unsafe. -/
def State.imageFacts (s : State) (b main : Bool) : ImageFacts :=
  let x := s.slot b
  match x.delivered with
  | some d => if main then d.1 else d.2
  | none =>
    let h := x.header main
    let len := leNat (slice h 8 4)
    let fits := decide (len ≤ if main then 81792 else 16000)
    let body := (x.read (regionPage main) (128 + if fits then len else 0)).drop 128
    let magic : Bytes := if main then [0x50, 0x4D, 0x4D, 0x49] else [0x50, 0x4D, 0x52, 0x55]
    let ok := slice h 0 4 == magic && fits && slice h 13 3 == zeros 3 && slice h 28 4 == zeros 4 &&
      slice h 32 32 == sha256 body &&
      ecdsaVerify (if main then Config.mainKey else Config.ucodeKey) (nums (sha256 (h.take 64))) (nums (slice h 64 64)) &&
      !s.badImage b main (128 + len)
    ⟨ok, leNat (slice h 4 4), byteAt h 12, leNat (slice h 16 4), leNat (slice h 20 4), leNat (slice h 24 4)⟩

/-- SLOT_DIGEST of a slot as its headers stand; a delivered slot's is its seal's (R469).
DEDUCED, log entry 158, unsafe. -/
def State.slotDigest (s : State) (b : Bool) : Bytes :=
  let x := s.slot b
  if x.delivered.isSome then x.sealPage.digest else sha256 (x.header true ++ x.header false)

/-- The STEPPINGS bit of this device (R465). -/
def steppingBit : Nat := if Config.steppingIsB0 then 2 else 1

/-- A tested pair on a stepping (R467). -/
def testedPair (m u : ImageFacts) (bit : Nat) : Bool :=
  m.verifies && u.verifies && m.steppings.testBit bit && u.steppings.testBit bit &&
  decide (m.pmin ≤ u.version) && decide (u.version ≤ m.pmax) && decide (u.pmin ≤ m.version) && decide (m.version ≤ u.pmax)

/-- Facts with the floor of R468 applied: a version below its floor counts as not verified. -/
def State.aboveFloor (s : State) (b main : Bool) : ImageFacts :=
  let f := s.imageFacts b main
  { f with verifies := f.verifies && decide (s.tally (if main then 17 else 18) ≤ f.version) }

/-! ## Boot selection (R470, R471) -/

/-- SLOT_STATUS bits 5:0 of a slot (R470, R482). -/
def State.slotStatus (s : State) (b : Bool) : Nat :=
  let x := s.slot b
  let m := s.aboveFloor b true
  let u := s.aboveFloor b false
  b2n (x.mark == .complete) + 2 * b2n (decide (x.sealPage.activation ≤ s.tally 16)) +
    4 * b2n (x.sealPage.digest == s.slotDigest b) + 8 * b2n m.verifies + 16 * b2n u.verifies +
    32 * b2n (testedPair m u steppingBit)

/-- A slot is eligible: its status bits 3:0 all stand. -/
def eligible (status : Nat) : Bool := status % 16 == 15

/-- The slot and mode boot selection arrives at, none for a hold (R470). -/
def State.bootChoice (s : State) : Option (Bool × Nat) :=
  let a := s.slotStatus false
  let b := s.slotStatus true
  let newerB := decide (s.img.slotA.sealPage.activation < s.img.slotB.sealPage.activation)
  let order := (if newerB then [(true, b), (false, a)] else [(false, a), (true, b)]).filter fun x => eligible x.2
  match order.find? (fun x => x.2.testBit 5), order.head? with
  | some x, _ => some (x.1, 0)
  | none, some x => some (x.1, 1)
  | none, none => none

/-- A slot's versions as its headers hold them: main, then microcode (R472, R482). -/
def State.slotVersions (s : State) (b : Bool) : Bytes :=
  let v (main : Bool) : Bytes := if s.badImage b main 128 then zeros 4 else beBytes 4 (s.imageFacts b main).version
  v true ++ v false

/-- Boot selection carried out: slot, digest and mode are retained in PD0; none eligible leaves the core in a hold
(R470). -/
def State.bootSelect (s : State) : State :=
  match s.bootChoice with
  | none => { s with sys := { s.sys with power := .bootHold } }
  | some (b, mode) =>
    { s with img := { s.img with
        bootB := b, mode := mode, cause := mode, digest := s.slotDigest b, pair := s.slotVersions b, pendingImg := false
        statusA := s.slotStatus false + (if b then 0 else 64), statusB := s.slotStatus true + (if b then 64 else 0) } }

/-- The boot objects 0x1010.01 to 0x1010.0C (R482). -/
def State.bootObject (s : State) (sub : Nat) : Bytes :=
  match sub with
  | 1 => beBytes 1 s.img.mode
  | 2 => beBytes 1 s.img.cause
  | 3 => beBytes 1 (b2n s.img.bootB)
  | 4 => beBytes 1 s.img.statusA
  | 5 => beBytes 1 s.img.statusB
  | 6 => beBytes 8 s.img.slotA.sealPage.activation
  | 7 => beBytes 8 s.img.slotB.sealPage.activation
  | 8 => s.slotVersions false
  | 9 => s.slotVersions true
  | 10 => beBytes 8 (s.tally 16)
  | 11 => beBytes 4 (s.tally 17)
  | _ => beBytes 4 (s.tally 18)

/-- The OBJECT records of the boot objects (R472). -/
def State.bootRecs (s : State) : List NewRec :=
  (List.range 12).map fun i => s.recObj 12 (0x101001 + i) 4 0 (s.bootObject (i + 1))

/-! ## Bivouac mode (R478) -/

/-- Entry on a REFUSE with REASON 2: the radio's lists are aborted, PD8 and PD9 are not switched on any more, the boot objects
recorded.
DEDUCED, log entry 157, unsafe. -/
def State.enterBivouac (s : State) : State :=
  let s := s.radioAbortNow
  let s := { s with
    img := { s.img with mode := 1, cause := 2 }
    sys := { s.sys with powerUp := s.sys.powerUp.filter fun n => n != 8 && n != 9 }
    radio := { s.radio with next := none } }
  let s := s.recordFault 0x30 2
  s.bootRecs.foldl State.later s

/-! ## Cascade compatibility (R480) -/

/-- Whether a HELLO's FIRMWARE_PAIR and STEPPING lie in this master's compatibility set. -/
def State.compatible (s : State) (hello : Bytes) : Bool :=
  slice hello 16 2 == slice s.img.pair 0 2 && slice hello 20 2 == slice s.img.pair 4 2 &&
  (s.imageFacts s.img.bootB true).steppings.testBit (byteAt hello 24)

/-! ## Activation (R473-R476) -/

/-- The activation as the stroke's units have staged it so far. -/
def State.actNow (s : State) : Option Activation :=
  s.effects.foldl (fun a e => match e with
    | .act x => x
    | _ => a) s.img.act

/-- IMAGE_ACTIVATE as it is applied (R473). -/
def State.opImageActivate (s : State) (r : Requester) (v : Bytes) : OpResult :=
  let g := byteAt v 0
  let n := s.tally 16
  let owned := (List.range 24).all fun i => decide (g + i < 96) && s.granuleOwner (g + i) == 64
  let codes := (if slice v 1 3 != zeros 3 || !owned || !s.domReady 3 || beNat (slice v 36 4) != n % 2 ^ 32 then [stDENIED] else []) ++
    (if (s.openEntry 4).isSome then [stBUSY] else []) ++ (if 2 ^ 48 - 1 ≤ n then [stCOUNTER_STUCK] else [])
  if codes ≠ [] then .refuse (firstRefusal codes)
  else match s.inflightSlot with
    | none => .refuse stBUSY
    | some pos => .start [.inflight pos (s.newEntry 4 5 (n + 1) 0 r), .act (some ⟨pos, g, slice v 4 32, n, false, 0, 0⟩), .obj 0x102001 v]

/-- A unit of an activation. -/
def actUnit (effs : List Effect) : Staged := plainUnit 0x04000000 effs []

/-- The running activation at a phase, in Work, with no step of it staged in this stroke. -/
def State.actAt (s : State) (phase : Nat) : Option Activation :=
  if s.working && !s.staged.any (fun u => u.effs.any fun e => match e with
      | .act _ => true
      | _ => false) then
    s.img.act.filter fun a => (s.inflightAt a.pos).isOpen && (s.inflightAt a.pos).phase == phase
  else none

/-- The activation's entry changed. -/
def State.actEntry (s : State) (a : Activation) (f : Inflight → Inflight) : Effect := .inflight a.pos (f (s.inflightAt a.pos))

/-- The unit's alternative when the VHOLD check refuses its pages: one more refused check. -/
def Activation.held (a : Activation) : List Effect := [.act (some { a with refused := a.refused + 1 })]

/-- ACTIVATION_COPY: the first group voids the target's seal and copies 3 pages, later ones 4, in order; page 382 brings
PHASE 1 (R474). -/
def execActivationCopy (s : State) : Out :=
  match s.actAt 0 with
  | none => .next s
  | some a =>
    let n := min (if a.voided then 4 else 3) (383 - a.nextPage)
    let data := (List.range n).map fun i => s.memRead (a.granule * 4096 + (a.nextPage + i) * 256) 256
    let last := decide (383 ≤ a.nextPage + n)
    .next (s.stage { actUnit ((if a.voided then [] else [.slotSeal none]) ++
        [.slotPages a.nextPage data, .act (some { a with voided := true, nextPage := a.nextPage + n, refused := 0 })] ++
        (if last then [s.actEntry a (fun e => s.phased e 1)] else [])) with
      need := .phase, held := a.held })

/-- What the verifier checks of the slot not running: the staged digest, both images with versions at or above the
floors, a tested pair (R474). -/
def State.targetPasses (s : State) (a : Activation) : Bool :=
  let b := !s.img.bootB
  sha256 ((s.slot b).read 0 98048) == a.digest &&
    testedPair (s.aboveFloor b true) (s.aboveFloor b false) steppingBit

/-- ACTIVATION_VERIFIED: the verifier's completion is gathered; PHASE 2, or the activation rolled back (R474).
DEDUCED, log entry 155, safe. -/
def execActivationVerified (s : State) : Out :=
  match s.actAt 1 with
  | none => .next s
  | some a =>
    if s.targetPasses a then .next (s.stage (actUnit [.act (some a), s.actEntry a (fun e => s.phased e 2)]))
    else .next (s.stage (actUnit [.act none, s.actEntry a (fun e => s.closed e 3 stDENIED)]))

/-- The seal of the activation: ACTIVATIONS + 1 and the raised floors (R469, R474). -/
def State.newSeal (s : State) : SealPage :=
  let b := !s.img.bootB
  ⟨s.slotDigest b, s.tally 16 + 1, max (s.tally 17) (s.imageFacts b true).floor, max (s.tally 18) (s.imageFacts b false).floor⟩

/-- ACTIVATION_SEALED: the seal page is written, PHASE 3 (R474). -/
def execActivationSealed (s : State) : Out :=
  match s.actAt 2 with
  | none => .next s
  | some a =>
    .next (s.stage { actUnit [.slotSeal (some s.newSeal), .act (some { a with refused := 0 }), s.actEntry a (fun e => s.phased e 3)] with
      need := .phase, held := a.held })

/-- ACTIVATION_COMMITTED: ACTIVATIONS, then the floors, raised by three cell words in one group; PHASE 4 and
IMAGE_PENDING (R474).
DEDUCED, log entry 155, safe. -/
def execActivationCommitted (s : State) : Out :=
  match s.actAt 3 with
  | none => .next s
  | some a =>
    let x := (s.slot (!s.img.bootB)).sealPage
    .next (s.stage { actUnit [.act (some { a with refused := 0 }), .imagePending, s.actEntry a (fun e => s.phased e 4)] with
      need := .phase, held := a.held
      cells := .tally 16 (s.tally 16 + 1) ::
        (if s.tally 17 < x.mainFloor then [.tally 17 x.mainFloor] else []) ++
        (if s.tally 18 < x.ucodeFloor then [.tally 18 x.ucodeFloor] else []) })

/-- PHASE 5: the Commit after PHASE 4 closes the entry DONE, a step of Gather close (R474). -/
def State.actDone (s : State) : Option Staged :=
  match s.img.act with
  | some a =>
    let e := s.inflightAt a.pos
    if e.isOpen && e.phase == 4 then some (actUnit [.act none, .inflight a.pos (s.closed (s.phased e 5) 2 stOK)]) else none
  | none => none

/-- ACTIVATION_HOLD_TIMEOUT: 1,000 checks in a row have refused the activation's pages (R474). -/
def execActivationHoldTimeout (s : State) : Out :=
  match s.actNow with
  | none => .next s
  | some a =>
    if s.working && decide (1000 ≤ a.refused) && (s.inflightAt a.pos).isOpen then
      .next (s.stage (actUnit [.act none, s.actEntry a (fun e => s.closed e 3 stINKWELL_LOW_HOLD)]))
    else .next s

/-- The disposition of an activation's entry, from ACTIVATIONS (R475): effects and the cell words of the first group. PHASE 4
stands after a core reset with IMAGE_PENDING; an AO reset has selected the new pair (R471, R476).
DEDUCED, log entry 156, unsafe. -/
def State.disposeActivation (s : State) (pos : Nat) (e : Inflight) (core : Bool) : List Effect × List CellWrite :=
  if s.tally 16 % 2 ^ 16 = e.inst then
    let x := (if (s.slot true).sealPage.activation = s.tally 16 then s.slot true else s.slot false).sealPage
    (.inflight pos { s.phased e 4 with state := 4 } :: .act (some ⟨pos, 0, [], s.tally 16, true, 383, 0⟩) ::
        (if core then [.imagePending] else []),
      (if s.tally 17 < x.mainFloor then [.tally 17 x.mainFloor] else []) ++
        (if s.tally 18 < x.ucodeFloor then [.tally 18 x.ucodeFloor] else []))
  else ([.inflight pos (s.closed e 3 stDENIED), .act none, .slotSeal none], [])

/-- Image pages written into the slot not running, through its gate (R158, R474). -/
def State.slotPagesNow (s : State) (first : Nat) (data : List Bytes) : State :=
  let b := !s.img.bootB
  if s.ink.gates.testBit (b2n b) then
    let x := s.slot b
    s.setSlot b { x with delivered := none, pages := data.zipIdx.foldl (fun l p => ainsert (first + p.2) p.1 l) x.pages }
  else s.recordFault 0x15 (b2n b)

/-- The seal of the slot not running written, or voided, through its gate (R158, R474). -/
def State.slotSealNow (s : State) (p : Option SealPage) : State :=
  let b := !s.img.bootB
  if s.ink.gates.testBit (b2n b) then
    let x := s.slot b
    s.setSlot b (match p with
      | some y => { x with mark := .complete, sealPage := y }
      | none => { x with mark := if x.mark = .empty then .empty else .voided })
  else s.recordFault 0x15 (b2n b)

/-- The gates that the open commit group's units need: bit 0 slot A, 1 slot B (R158). -/
def State.gatesFor (s : State) : Nat :=
  if s.staged.any (fun u => u.effs.any fun e => s.slotWrites e != []) then 2 ^ b2n (!s.img.bootB) else 0

end Sys2Proof.Machine
end

