-- ==== Sys2Proof/Machine/Pole.lean ====
section
/-!
DEFINITION. Pole.lean: the Pole link: markers and link delay, admission, the slave's parts of a plan, items, STATUS,
stranding, Learn and Ledger relays in a cascade (R420-R442).
-/

namespace Sys2Proof.Machine

/-! ## Roles and states (R430, R432, R442) -/

/-- PD13 serves the link: the device runs and the domain is ready. -/
def State.poleUp (s : State) : Bool := s.sys.power == .running && s.domReady 13

/-- Strapped master and not in CONFLICT (R430). -/
def State.isMaster (s : State) : Bool := !s.isSlave && !s.pole.conflict

/-- Slaves admitted: CONVERGING or ACTIVE (R432). -/
def State.admitted (s : State) : List Nat := s.slavesUp

/-- POLE_ROLE (R430). -/
def State.poleRole (s : State) : Nat :=
  if s.isSlave then 2 else if s.pole.conflict then 3 else if s.admitted = [] then 0 else 1

/-- POLE_STATE of a slave; a master's reads 0 (R442).
DEDUCED, log entry 139, unsafe. -/
def State.poleState (s : State) : Nat :=
  let p := s.pole.self
  if !s.isSlave || !s.poleUp then 0
  else if p.admitted then (if p.converged then 4 else 3)
  else if p.refused != 0 then 2
  else if p.stranded then 5
  else 1

/-- POLE_ADMITTED (R432). -/
def State.poleAdmitted (s : State) : Nat := ((List.range 8).map fun n => if (s.slaveRec n).state = 2 then 2 ^ n else 0).sum

/-- The device's own view changed. -/
def State.setSelf (s : State) (f : PoleSelf → PoleSelf) : State := { s with pole := { s.pole with self := f s.pole.self } }

/-- The master's record of a slave changed. -/
def State.setSlave (s : State) (n : Nat) (f : SlaveRec → SlaveRec) : State :=
  { s with pole := { s.pole with slaves := ainsert n (f (s.slaveRec n)) s.pole.slaves } }

/-- A frame sent now.
DEDUCED, log entry 147, safe. -/
def State.sendFrame (s : State) (f : PoleFrame) : State := { s with pole := { s.pole with out := s.pole.out ++ [f] } }

/-- A frame of the device's own; none is sent in Bivouac mode or CONFLICT (R430, R479). -/
def State.sendOwn (s : State) (f : PoleFrame) : State := if s.bivouac || s.pole.conflict then s else s.sendFrame f

/-- A frame from this slave to the master, under the master's stroke number where it is admitted (R425, R432). -/
def State.sendUp (s : State) (type : Nat) (payload : Bytes) : State :=
  s.sendOwn ⟨type, 0, false, if s.pole.self.admitted then s.masterStroke else s.sys.stroke, payload⟩

/-- A downstream frame repeated by a slave, or an upstream one (R422).
DEDUCED, log entry 147, safe. -/
def State.repeated (s : State) (f : PoleFrame) : State := if s.isSlave && s.poleUp then s.sendFrame f else s

/-- An invalid frame: counted (R424). -/
def State.badFrame (s : State) : State := s.countUp 144 1

/-! ## Boundary distribution (R426-R429) -/

/-- The link delay times 8 n, in quarters of a nanosecond, with n, the measurements it is the mean of (R427). -/
def PoleSelf.delaySum (p : PoleSelf) : Nat × Nat := (p.delays.sum, p.delays.length)

/-- The marker a master sends at a boundary, or a slave forwards: stroke, accumulated delay, discovery flag (R426). -/
def markerBytes (stroke delay flags : Nat) : Bytes :=
  let m := beBytes 5 stroke ++ beBytes 2 delay ++ beBytes 1 flags
  m ++ beBytes 1 (crc8 m)

/-- A boundary offset in range or not, counted towards CONVERGING and ACTIVE (R432). -/
def PoleSelf.judge (p : PoleSelf) (ns : Int) : PoleSelf :=
  let near := decide (-200 ≤ ns) && decide (ns ≤ 200)
  let good := if near then p.good + 1 else 0
  let bad := if near then 0 else p.bad + 1
  { p with good := good, bad := bad, converged := if p.converged then decide (bad < 2) else decide (8 ≤ good) }

/-- MARKER_RECEIVED: a marker's 9 bytes, its leading edge `arrival` quarters of a nanosecond after the device's own boundary.
A slave forwards it, places the master boundary and, while admitted, submits the offset (R426, R428). A master counts
foreign markers (R430).
DEDUCED, log entry 142, unsafe. -/
def execMarkerReceived (marker : Bytes) (arrival : Int) (s : State) : Out :=
  if !s.poleUp || marker.length != 9 || crc8 (marker.take 8) != byteAt marker 8 then .next s
  else if !s.isSlave then .next (s.setSelf fun p => { p with marked := true })
  else
    let d := s.pole.self.delaySum
    let delay := beNat (slice marker 5 2)
    let own := if d.2 = 0 then (0, s) else s.divOpen d.1 (2 * d.2)
    let s := own.2.sendFrame ⟨0, 0, true, beNat (slice marker 0 5), markerBytes (beNat (slice marker 0 5))
      (delay + own.1.toNat + 4000) (byteAt marker 7)⟩
    let s := s.setSelf fun p => { p with marked := true, missed := 0, mstroke := beNat (slice marker 0 5) }
    if d.2 = 0 then .next s
    else
      let num : Int := 2 * d.2 * (arrival - delay) - d.1
      let ns := s.divOpen num (8 * d.2)
      let cyc := ns.2.divOpen num (50 * d.2)
      let s := (cyc.2.setSelf fun p => { (if p.admitted then p.judge ns.1 else p) with offset := ns.1 }).setRaw 0x600005 (beInt 4 ns.1)
      .next (if s.pole.self.admitted then { s with sys := { s.sys with corrCarry := cyc.1 } } else s)

/-- The master's stroke number as a slave knows it. -/
def State.knownStroke (s : State) : Nat := if s.pole.self.admitted then s.masterStroke else s.pole.self.mstroke

/-- ECHO: a slave measures its link in the strokes with master number 8 × CASC_ID mod 64, and once after its first valid marker
(R427). -/
def execEcho (s : State) : Out :=
  let p := s.pole.self
  if s.poleUp && s.isSlave && (s.knownStroke % 64 == 8 * s.sys.cascId || (p.marked && p.delays == [])) && !s.bivouac then
    .next ((s.sendOwn ⟨0x80, 0, false, s.knownStroke, []⟩).setSelf fun p => { p with echo := true })
  else .next s

/-- ECHO_REPLY: the upstream device answers an ECHO (R427). -/
def execEchoReply (s : State) : Out := if s.poleUp then .next (s.sendOwn ⟨0x81, 0, false, s.knownStroke, []⟩) else .next s

/-- ECHO_REPLY_RECEIVED: round-trip time in quarters of a nanosecond; POLE_LINK_DELAY_NS is the mean of the last 8
(R427). -/
def execEchoReplyReceived (rtt : Nat) (s : State) : Out :=
  if s.poleUp && s.isSlave && s.pole.self.echo then
    let l := s.pole.self.delays ++ [rtt - 8000]
    let l := l.drop (l.length - 8)
    let s := s.setSelf fun p => { p with delays := l, echo := false }
    let q := s.divOpen l.sum (8 * l.length)
    .next (q.2.setNum 0x600004 (min 65535 q.1.toNat))
  else .next s

/-! ## Admission (R430-R432) -/

/-- HELLO's payload (R430). -/
def State.helloBytes (s : State) : Bytes :=
  beBytes 16 Config.uniqueId.toNat ++ padTo 8 s.img.pair ++ beBytes 1 steppingBit ++ beBytes 1 s.sys.len ++
    slice ((s.bank s.activeBank).getD []) 4 8 ++ beBytes 4 s.epoch ++ beBytes 6 s.sys.stroke

/-- DISCOVER: a slave neither admitted nor refused answers with HELLO and repeats the frame (R430, R431, R479). -/
def execDiscover (s : State) : Out :=
  if s.poleUp && s.isSlave then
    let s := s.repeated ⟨1, 0, true, 0, []⟩
    if !s.pole.self.admitted && s.pole.self.refused == 0 then .next (s.sendUp 0x41 s.helloBytes) else .next s
  else .next s

/-- HELLO: a master gathers it as a class 0x0A item, or counts it where it is invalid; a slave repeats it upstream (R422,
R424, R431). -/
def execHello (source : Nat) (payload : Bytes) (ok : Bool) (s : State) : Out :=
  if !s.poleUp then .next s
  else if s.isSlave then .next (s.repeated ⟨0x41, 0, false, 0, payload⟩)
  else if !ok then .next s.badFrame
  else if s.isMaster && !s.bivouac && decide (1 ≤ source) && decide (source ≤ 7) then
    .next (s.offer 10 source (padTo 44 payload) [12, s.sys.stroke])
  else .next s

/-- A HELLO refused: the REFUSE frame, the slave's record, its fault (R431). -/
def State.refuseHello (s : State) (i : Item) (reason : Nat) : Staged :=
  plainUnit i.key [.slaveRefuse i.idx i.val reason, .poleSend ⟨3, i.idx, false, s.sys.stroke + 1, beBytes 1 reason⟩,
    .fault 0x2F i.idx] [s.recEvent 10 0x2F i.idx]

/-- The decision on a gathered HELLO: the first row of R431 that holds.
DEDUCED, log entry 141, unsafe. -/
def State.helloUnit (s : State) (i : Item) : Staged :=
  let uid := i.val.take 16
  let r := s.slaveRec i.idx
  let twice := s.gathered.any fun j => j.cls == 10 && j.idx == i.idx && j.aux.head? == some 12 && j.val.take 16 != uid
  if twice then s.refuseHello i 1
  else if (r.state == 1 || r.state == 2 || r.effective.isSome) && r.uid != uid then s.refuseHello i 1
  else if !s.compatible i.val then s.refuseHello i 2
  else if byteAt i.val 25 != s.sys.len then s.refuseHello i 3
  else
    let eff := s.sys.stroke + 2
    let delta := (i.aux.getD 1 0 + 2 ^ 48 - beNat (slice i.val 38 6)) % 2 ^ 48
    let differs := slice i.val 26 8 != slice ((s.bank s.activeBank).getD []) 4 8
    plainUnit i.key [.slaveAdmit i.idx i.val eff differs,
      .poleSend ⟨2, i.idx, false, s.sys.stroke + 1, beBytes 2 eff ++ beBytes 6 delta⟩] []

/-- ADMIT: a slave takes EFFECTIVE and DELTA (R425, R432).
DEDUCED, log entry 141, unsafe. -/
def execPoleAdmit (payload : Bytes) (ok : Bool) (s : State) : Out :=
  if !s.poleUp || !s.isSlave then .next s
  else if !ok then .next s.badFrame
  else
    let s := s.repeated ⟨2, s.sys.cascId, false, 0, payload⟩
    .next ((s.setSelf fun p => { p with effective := some (beNat (slice payload 0 2)), delta := beNat (slice payload 2 6) }).setNum
      0x600006 (beNat (slice payload 2 6)))

/-- ADMISSION_EFFECTIVE: at the boundary opening EFFECTIVE, a slave and the master switch to admitted (R432). -/
def execAdmissionEffective (s : State) : Out :=
  if !s.poleUp then .next s
  else if s.isSlave then
    match s.pole.self.effective with
    | some e =>
      if (s.masterStroke + 2 ^ 16 - e) % 2 ^ 16 < 2 ^ 15 then
        .next (s.setSelf fun p => { p with
          admitted := true, effective := none, stranded := false, refused := 0, good := 0, bad := 0, converged := false, missed := 0 })
      else .next s
    | none => .next s
  else
    .next ((List.range 8).foldl (fun s n =>
      if (s.slaveRec n).effective.elim false (fun e => decide (e ≤ s.sys.stroke)) then
        s.setSlave n fun r => { r with state := 1, effective := none, missed := 0, fresh := true, status := [] }
      else s) s)

/-- REFUSE: gathered by a slave that is not admitted (R431, R478).
DEDUCED, log entry 142, unsafe. -/
def execRefuse (reason : Nat) (s : State) : Out :=
  if s.poleUp && s.isSlave then
    let s := s.repeated ⟨3, s.sys.cascId, false, 0, beBytes 1 reason⟩
    if s.pole.self.admitted then .next s else .next (s.offer 10 0 (beBytes 1 reason) [13])
  else .next s

/-- The slave's conduct from the Commit of a REFUSE: Bivouac mode for REASON 2, as stranded for REASON 3 (R431, R438,
R478). -/
def State.refusedNow (s : State) (reason : Nat) : State :=
  let s := s.setSelf fun p => { p with refused := reason, refusedAt := s.sys.stroke, effective := none }
  if reason = 2 then s.enterBivouac
  else if reason = 3 then (s.lfAbortNow.radioAbortNow).setSelf fun p => { p with stranded := true }
  else s

/-- REFUSE_RETRY: after a REFUSE with REASON 1, a slave answers DISCOVER again once 64 strokes have passed (R431). -/
def execRefuseRetry (s : State) : Out :=
  if s.pole.self.refused = 1 ∧ s.pole.self.refusedAt + 64 ≤ s.sys.stroke then .next (s.setSelf fun p => { p with refused := 0 })
  else .next s

/-- SECOND_MASTER: valid markers in 3 consecutive strokes at a device strapped 0b000 (R430). -/
def execSecondMaster (s : State) : Out :=
  if s.poleUp && s.isMaster && decide (3 ≤ s.pole.foreign + b2n s.pole.self.marked) then
    let s := { s with pole := { s.pole with conflict := true, slaves := [], out := [], items := [], standby := none } }
    .next ((s.recordFault 0x2E 0).later (s.recEvent 10 0x2E 0))
  else .next s

/-! ## A slave's part of the master's plan (R433, R435) -/

/-- A slave carries out the master's plans; it repeats a frame whether or not it does (R422). -/
def State.served (s : State) : Bool := s.poleUp && s.isSlave && s.pole.self.admitted && !s.bivouac

/-- LF_SCHEDULE: the part is applied as if committed at the boundary that opened this stroke; one that comes after offset
150 µs is lost, and its bursts report ABSENT (R219, R433).
DEDUCED, log entry 143, unsafe. -/
def execLfSchedule (payload : Bytes) (late : Bool) (s : State) : Out :=
  let s := s.repeated ⟨4, s.sys.cascId, false, s.masterStroke, payload⟩
  if !s.served then .next s
  else
    let x : LfSched := ⟨3, 0, s.sys.stroke, 200, payload, []⟩
    if late then
      .next ((s.schedBursts x).foldl (fun s b =>
        s.offerEvent 7 (32 * s.sys.cascId + b.chan % 32) (lfItem b.kind 0xFF b.slot b.code 0 0 1024 0 []) 99 0 0) (s.countUp 147 1))
    else .next { s with lf := { s.lf with next := some x } }

/-- The UWB entries of a part (log entry 13), with the master's strokes turned into this device's own.
DESIGN CHOICE, log entry 95, unsafe. -/
def State.partEntries (s : State) : Nat → Bytes → List RadioEntry
  | 0, _ => []
  | fuel + 1, b =>
    if b.length < 14 then []
    else
      let start := (beNat (slice b 0 6) + 2 ^ 48 - s.pole.self.delta) % 2 ^ 48
      ⟨1, 3, false, start, beNat (slice b 6 4), byteAt b 10, 0, 0, 0, intOf (slice b 13 1), byteAt b 11, byteAt b 12, [], 690,
        Config.rangeAntsel, Config.exchangePri, 0⟩ ::
        s.partEntries fuel (b.drop 14)

/-- RADIO_LIST: the part is applied under R239; one that comes late is lost (R433). -/
def execRadioList (payload : Bytes) (late : Bool) (s : State) : Out :=
  let s := s.repeated ⟨5, s.sys.cascId, false, s.masterStroke, payload⟩
  if !s.served then .next s
  else
    if late then .next (s.countUp 147 1) else .next (s.listApply ⟨s.partEntries 32 payload, true⟩)

/-- ABORT_ACTIVITY: bit 0 LF, bit 1 radio (R425, R433). -/
def execAbortActivity (which : Nat) (s : State) : Out :=
  let s := s.repeated ⟨6, s.sys.cascId, false, s.masterStroke, beBytes 1 which⟩
  if !s.served then .next s
  else
    let s := if which.testBit 0 then s.lfAbortNow else s
    .next (if which.testBit 1 then s.radioAbortNow else s)

/-- KEY_CONTEXT: SLOT, generation, C and N; the slave queues the derivation on its own queue 0 (R435). -/
def execKeyContext (payload : Bytes) (s : State) : Out :=
  let s := s.repeated ⟨7, s.sys.cascId, false, s.masterStroke, payload⟩
  if !s.served then .next s
  else
    if s.quillUp then
      let r : IntReq := ⟨0, 2, 10, byteAt payload 0, some (beNat (slice payload 1 4)), [], [],
        stsLabel ++ [0] ++ slice payload 5 16 ++ slice payload 21 16, [], 32, []⟩
      .next { s with quill := { s.quill with queue := s.quill.queue ++ [r] } }
    else .next s

/-! ## Items, STATUS and loss (R434, R436-R438) -/

/-- POLE_ITEM: the master holds a valid item of an ACTIVE slave for its due stroke; one after that stroke's Gather close is
gathered in the next and counted (R432, R434). A slave repeats it.
DEDUCED, log entry 140, unsafe. -/
def execPoleItem (source cls idx seq : Nat) (val : Bytes) (due : Nat) (ok : Bool) (s : State) : Out :=
  if !s.poleUp then .next s
  else if s.isSlave then
    .next (s.repeated ⟨0x42, 0, false, due, beBytes 1 cls ++ beBytes 1 idx ++ beBytes 2 seq ++ val⟩)
  else if !ok then .next s.badFrame
  else if s.isMaster && s.slaveUp source && (cls == 6 || cls == 7 || cls == 9) then
    let late := decide (due < s.sys.stroke) || (due == s.sys.stroke && s.sys.phase != .gather)
    let s := if late then s.countUp 146 1 else s
    let h : HeldItem := ⟨if late then s.sys.stroke else due, cls, 32 * source + idx % 32, seq % 2 ^ 16, val⟩
    .next { s with pole := { s.pole with items := s.pole.items ++ [h] } }
  else .next s

/-- Items whose due stroke has come join their sources at Gather close (R434). -/
def State.poleDue (s : State) : State :=
  let now := s.pole.items.filter fun h => decide (h.due ≤ s.sys.stroke)
  { s with
    gq := s.gq ++ now.map fun h => ⟨h.cls, h.idx, h.seq, h.val, []⟩
    pole := { s.pole with items := s.pole.items.filter fun h => decide (s.sys.stroke < h.due) } }

/-- A slave's STATUS payload (R436). -/
def State.statusBytes (s : State) : Bytes :=
  beBytes 1 s.poleState ++ beInt 2 s.pole.self.offset ++ beBytes 1 s.sys.vholdState ++ beBytes 1 s.quill.state ++
    beBytes 1 s.sys.vlfState ++ beBytes 1 (b2n s.bivouac + 2 * b2n s.pole.self.staged.isSome) ++ [0]

/-- The STATUS frame an admitted slave sends at its Work deadline (R436). -/
def State.poleDeadline (s : State) : State :=
  if s.poleUp && s.isSlave && s.pole.self.admitted then s.sendUp 0x43 s.statusBytes else s

/-- POLE_STATUS: a slave's STATUS; the master raises an item only when it differs from the last (R436). -/
def execPoleStatus (source : Nat) (payload : Bytes) (s : State) : Out :=
  if !s.poleUp then .next s
  else if s.isSlave then .next (s.repeated ⟨0x43, 0, false, 0, payload⟩)
  else if s.isMaster && s.admitted.contains source then
    let old := (s.slaveRec source).status
    let s := s.setSlave source fun r => { r with status := padTo 8 payload, fresh := true, missed := 0 }
    .next (if old = padTo 8 payload then s else s.offer 10 source (padTo 8 payload) [14])
  else .next s

/-- SLAVE_LOST: 3 consecutive strokes without a valid STATUS; the loss is counted and gathered as an item (R436, R437).
DEDUCED, log entry 144, unsafe. -/
def execSlaveLost (n : Nat) (s : State) : Out :=
  if s.poleUp && s.isMaster && s.admitted.contains n && decide (3 ≤ (s.slaveRec n).missed) then
    let s := (s.setSlave n fun r => { r with missed := 0 }).countUp 145 1
    .next (s.offer 10 n (zeros 8) [15])
  else .next s

/-- SLAVE_STRANDED: 3 consecutive boundaries without a valid marker strand an admitted slave (R437, R438).
DEDUCED, log entry 144, unsafe. -/
def execSlaveStranded (s : State) : Out :=
  if s.poleUp && s.isSlave && s.pole.self.admitted && decide (3 ≤ s.pole.self.missed) then
    let s := s.lfAbortNow.radioAbortNow
    .next ({ s with lf := { s.lf with next := none }, radio := { s.radio with next := none } }.setSelf fun p =>
      { p with admitted := false, converged := false, stranded := true })
  else .next s

/-! ## Learn in a cascade (R439) -/

/-- LEARN_PAGE: pair, copy and page; the slave writes it into its own staged bank under its own EPOCH, and checks the bank
once the header page, the last, is written. -/
def execLearnPage (payload : Bytes) (s : State) : Out :=
  let s := s.repeated ⟨8, s.sys.cascId, false, s.masterStroke, payload⟩
  if !s.served then .next s
  else
    let pair := byteAt payload 0 % 14
    let own := bankPair (s.epoch + 1) + pair
    .next (s.stage { learnUnit (if pair = 0 then [.poleCheck] else []) with
      need := .phase, pairs := [⟨0, own, ownEpoch pair (s.epoch + 1) (slice payload 2 240)⟩], held := if pair = 0 then [.poleCheck] else [] })

/-- The staged bank checked, and reported to the master (R286, R439).
DEDUCED, log entry 145, unsafe. -/
def State.poleCheckNow (s : State) : State :=
  let ok := s.bankValid ((s.epoch + 1) % 2) (s.epoch + 1)
  let digest := slice ((s.bank ((s.epoch + 1) % 2)).getD []) 4 8
  (s.setSelf fun p => { p with staged := if ok then some digest else none }).sendUp 0x44 (beBytes 1 (b2n !ok))

/-- LEARN_COMMIT: a slave raises its own LEARN_EPOCH in this stroke's group if the frame matches its staged digest and
came before the group (R439). Its scrub follows (R304). -/
def execLearnCommit (digest : Bytes) (s : State) : Out :=
  let s := s.repeated ⟨9, s.sys.cascId, false, s.masterStroke, digest⟩
  if !s.served then .next s
  else
    if s.pole.self.staged == some (digest.take 8) && s.sys.phase != .commit then
      .next (s.stage { learnUnit [.checkSet, .learn (some ⟨16, s.epoch, [], [], 14, 0, none, [], [], 0, false⟩)] with
        need := .phase, cells := [.tally 8 (s.epoch + 1)] })
    else .next s

/-- LEARN_REPORT: a slave's report of its staged bank, 0 verified (R439). -/
def execLearnReport (source v : Nat) (s : State) : Out :=
  if !s.poleUp then .next s
  else if s.isSlave then .next (s.repeated ⟨0x44, 0, false, 0, beBytes 1 v⟩)
  else if s.isMaster && s.admitted.contains source then .next (s.offer 10 source (beBytes 1 v) [16])
  else .next s

/-- What a gathered LEARN_REPORT changes: a slave of the running Learn has verified, or a slave staged again is told to
commit.
DEDUCED, log entry 145, unsafe. -/
def State.reportUnit (s : State) (i : Item) : Staged :=
  if byteAt i.val 0 ≠ 0 then plainUnit i.key [] []
  else match s.learnNow with
    | some l => plainUnit i.key [.learn (some { l with reports := l.reports ++ [i.idx] })] []
    | none => plainUnit i.key [.poleSend ⟨9, i.idx, false, s.sys.stroke + 1, slice ((s.bank s.activeBank).getD []) 4 8⟩] []

/-! ## Relayed Ledger access (R441) -/

/-- RELAY: PROTECTED, then a Ledger request; the slave gathers it as class 0x0A source 0 and runs it with the rights of
firmware. -/
def execRelay (prot : Nat) (msg : Bytes) (s : State) : Out :=
  let s := s.repeated ⟨11, s.sys.cascId, false, s.masterStroke, beBytes 1 prot ++ msg⟩
  if !s.served then .next s
  else
    .next (s.offer 10 0 (msg.take (msgLen msg)) [4, 4, prot])

/-- POLE_RELAY and POLE_RELAY_PROTECTED as applied: the message goes to slave `n`. -/
def State.opPoleRelay (s : State) (n prot : Nat) (v : Bytes) : OpResult :=
  let codes := (if s.bivouac then [stNOT_IN_BIVOUAC] else []) ++ (if !s.slaveUp n then [stNO_SUCH_OBJECT] else []) ++
    (if (s.slaveRec n).relay.isSome || (s.effects.any fun e => match e with
        | .slaveRelay m x => m == n && x.isSome
        | _ => false) then [stBUSY] else [])
  if codes ≠ [] then .refuse (firstRefusal codes)
  else .ok [.slaveRelay n (some (s.sys.stroke, beNat (slice v 2 2))),
    .poleSend ⟨11, n, false, s.sys.stroke + 1, beBytes 1 prot ++ padTo 240 v⟩]

/-- RELAY_RESPONSE: gathered by the master (R441). -/
def execRelayResponse (source : Nat) (msg : Bytes) (s : State) : Out :=
  if !s.poleUp then .next s
  else if s.isSlave then .next (s.repeated ⟨0x46, 0, false, 0, msg⟩)
  else if s.isMaster && (s.slaveRec source).relay.isSome then .next (s.offer 10 source (padTo 240 msg) [18])
  else .next s

/-- RELAY_TIMEOUT: a relay unanswered after 64 strokes is given up (R441). -/
def execRelayTimeout (n : Nat) (s : State) : Out :=
  match (s.slaveRec n).relay with
  | some x =>
    if s.working && decide (x.1 + 64 ≤ s.sys.stroke) && !s.effects.contains (.slaveRelay n none) then
      .next (s.stage (plainUnit (10 * 2 ^ 24 + n * 2 ^ 16)
        [.slaveRelay n none, .obj (0x601200 + n) (padTo 240 (ledgerMsg 2 stBUSY x.2 0 0 (stampBytes s.stamp))), .count 148 1] []))
    else .next s
  | none => .next s

/-! ## Units and the boundary -/

/-- The unit of a gathered class 0x0A item: a HELLO, a REFUSE, a changed STATUS, a loss, a report or a relay's response. -/
def State.poleUnit (s : State) (i : Item) : Option Staged :=
  match i.aux.head? with
  | some 12 => some (s.helloUnit i)
  | some 13 => some (plainUnit i.key [.poleRefused (byteAt i.val 0)] [])
  | some 14 => some (plainUnit i.key [.slaveState i.idx (if byteAt i.val 0 = 4 then 2 else 1)] [])
  | some 15 => some (plainUnit i.key [.slaveGone i.idx, .fault 0x2D i.idx] [s.recEvent 10 0x2D i.idx])
  | some 16 => some (s.reportUnit i)
  | some 18 => some (plainUnit i.key [.slaveRelay i.idx none, .obj (0x601200 + i.idx) i.val] [])
  | _ => none

/-- The part of an effect that the Pole link holds. -/
def State.applyPole (s : State) : Effect → State
  | .poleSend f => if s.poleUp then s.sendOwn f else s
  | .slaveAdmit n h e st => s.setSlave n fun r => { r with
      hello := h, uid := h.take 16, effective := some e, reason := 0, restage := st
      state := if r.state = 3 then 0 else r.state }
  | .slaveRefuse n h k => s.setSlave n fun r => { r with
      hello := h, reason := k, state := if r.state = 1 ∨ r.state = 2 then r.state else 3 }
  | .slaveState n st => s.setSlave n fun r => { r with state := if r.state = 1 ∨ r.state = 2 then st else r.state }
  | .slaveGone n => s.setSlave n fun r => { r with
      state := 0, uid := [], effective := none, status := [], missed := 0, fresh := false, relay := r.relay, standby := none }
  | .slaveRestage n b => s.setSlave n fun r => { r with restage := b }
  | .slaveRelay n x => s.setSlave n fun r => { r with relay := x }
  | .poleStandby x => { s with pole := { s.pole with standby := x } }
  | .poleRefused k => s.refusedNow k
  | .poleCheck => s.poleCheckNow
  | _ => s

/-- The link at a stroke boundary, after the stroke number has advanced: markers of a stroke counted, STATUS of a stroke
counted, the master's marker with DISCOVER where it is due, items held since wake sent (R426, R430, R437, R440). `first`: this
boundary opens the first full stroke after a reset.
DEDUCED, log entry 146, unsafe. -/
def State.poleBoundary (s : State) (first : Bool) : State :=
  if !s.poleUp then s
  else if s.isSlave then
    let p := s.pole.self
    let s := s.setSelf fun p => { p with missed := if p.marked then 0 else p.missed + 1, marked := false }
    if p.admitted && p.converged && p.woken then
      let frames := s.pole.kept.map fun h => (⟨0x42, 0, false, (s.masterStroke + 2 ^ 48 - 1) % 2 ^ 48,
        beBytes 1 h.cls ++ beBytes 1 h.idx ++ beBytes 2 h.seq ++ h.val⟩ : PoleFrame)
      let s := { s with pole := { s.pole with out := s.pole.out ++ frames, kept := [] } }
      s.setSelf fun p => { p with woken := false }
    else s
  else
    let s := { s with pole := { s.pole with foreign := if s.pole.self.marked then s.pole.foreign + 1 else 0 } }
    let s := s.setSelf fun p => { p with marked := false }
    let s := s.admitted.foldl (fun s n => s.setSlave n fun r => { r with missed := if r.fresh then 0 else r.missed + 1, fresh := false }) s
    let disc := s.sys.stroke % 64 == 0 || first
    if s.isMaster && !s.bivouac then
      let s := s.sendFrame ⟨0, 0, true, s.sys.stroke, markerBytes s.sys.stroke 0 (b2n disc)⟩
      if disc then s.sendFrame ⟨1, 0, true, s.sys.stroke, []⟩ else s
    else s

/-- PD13 switched off or cleared: frames and held items go, the admission records in the stroke timer islands stay
(R432). -/
def State.polePowerDown (s : State) : State :=
  let s := { s with pole := { s.pole with out := [], items := [], foreign := 0 } }
  s.setSelf fun p => { p with marked := false, echo := false, delays := [], staged := none }

/-- POLE_SLAVE_STATE, REASON and HELLO of slave `n` (R442). -/
def State.slaveObject (s : State) (index n : Nat) : Bytes :=
  let r := s.slaveRec n
  if index = 0x6001 then beBytes 1 r.state else if index = 0x6002 then beBytes 1 r.reason else r.hello

end Sys2Proof.Machine
end

