-- ==== Sys2Proof/Machine/Export.lean ====
section
/-!
DEFINITION. Export.lean: Folio's export blocks, acknowledgements and notes (R457-R463).
-/

namespace Sys2Proof.Machine

/-- The debug permission stands (R298). -/
def State.debugOpen (s : State) : Bool := s.people.debugUntil.elim false fun u => decide (s.sys.stroke < u)

/-- A type-3 descriptor at the head of a ring of the global page names the stream or every stream (R459).
DEDUCED, log entry 150, unsafe. -/
def State.exportHead (s : State) (stream : Nat) : Option (Ring × Nat × Bytes) :=
  (s.host.rings.filter fun r => r.page == 0 && r.type == 3).findSome? fun r =>
    (s.ringHead r).bind fun x =>
      if byteAt x.2 28 = stream ∨ byteAt x.2 28 = 0xFF then some (r, x.1, x.2) else none

/-- Port `b` of FOLIO_EXPORT_PORTS is enabled and able to send (R415, R457, R459). -/
def State.portReady (s : State) (stream b : Nat) : Bool :=
  match b with
  | 0 => (s.exportHead stream).isSome
  | 1 | 2 =>
    let k := b - 1
    s.canObj k 0x0A == 1 && s.canObj k 6 != noId && s.canObj k 1 == 1 && (s.can k).active
  | _ => s.ridge.state == 5 && s.exportFid && !s.bivouac

/-- Every port has finished sending the last block; Ridgeline, once disabled or in Bivouac mode, sends no more of it (R457, R459,
R479).
DEDUCED, log entry 151, unsafe. -/
def State.portsIdle (s : State) : Bool :=
  (s.folio.sending.isNone || s.num 0x440007 == 0 || s.bivouac) && !(s.can0.tx.any (·.isExport)) && !(s.can1.tx.any (·.isExport))

/-- The stream a block is taken from: the lowest with records beyond its cursor and a port; stream 1 only with the debug
permission (R457). -/
def State.exportStream (s : State) : Option Nat :=
  (List.range 16).find? fun n =>
    s.exportRecs n != [] && (n != 1 || s.debugOpen) &&
    (List.range 4).any fun b => (s.num (0x440301 + n)).testBit b && s.portReady n b

/-- EXPORT_SELECTION: with export idle, a block is selected; its entry opens at PHASE 1 and its seal is queued on queue 2 at the
Commit (R457, R459). -/
def execExportSelection (s : State) : Out :=
  if !s.working || (s.openEntry 6).isSome || !s.portsIdle then .next s
  else match s.exportStream, s.inflightSlot with
    | some n, some pos =>
      let rs := s.exportRecs n
      let first := rs.head?.elim 0 (·.seq)
      let last := rs.getLast?.elim 0 (·.seq)
      let e : Export := ⟨pos, n, first, last, rs.getLast?.elim Stamp.zero (·.stamp), rs.flatMap (FRec.bytes n)⟩
      .next (s.stage (plainUnit 0x05020000 [.exportStart e, .inflight pos (s.newEntry 6 2 first 1 firmware),
        .quillQueue ⟨2, 6, 4, 0x44, none, exportIv e, exportHeader e, e.plain, [], 0, []⟩] []))
    | _, _ => .next s

/-- EXPORT_DELIVERY: the gathered seal completion closes the entry: delivered, or rolled back with its status (R459). -/
def execExportDelivery (s : State) : Out :=
  match s.gathered.find? fun i => i.cls == 5 && i.idx == 2 && i.aux.take 2 == [100, 6], s.folio.exporting, s.working with
  | some i, some e, true =>
    let st := byteAt i.val 0
    let f := s.inflightAt e.pos
    let block := exportHeader e ++ toBytes (i.aux.drop 3)
    let s := s.consume i
    if !f.isOpen then .next s
    else if st = stOK then
      .next (s.stage (plainUnit i.key [.exportEnd true block, .inflight e.pos (s.closed (s.phased f 2) 2 stOK)] []))
    else .next (s.stage (plainUnit i.key [.exportEnd false [], .inflight e.pos (s.closed f 3 st)] []))
  | _, _, _ => .next s

/-- The block written into the next posted type-3 descriptor that can hold it; one that cannot completes with DENIED. The first
argument bounds the descriptors tried.
DEDUCED, log entry 150, unsafe. -/
def State.exportHost (s : State) (stream : Nat) (block : Bytes) (t : Stamp) : Nat → State
  | 0 => s
  | fuel + 1 =>
    match s.exportHead stream with
    | none => s
    | some (r, pos, d) =>
      let s1 := s.takeHead r
      if !(s.ownsTable r pos && s.ownsRun 0 (descBuf d) (descLen d)) then
        (s1.completeDesc 0 r.num pos r.gen false stNO_SUCH_OBJECT 0 t).exportHost stream block t fuel
      else if descLen d < block.length then (s1.completeDesc 0 r.num pos r.gen false stDENIED 0 t).exportHost stream block t fuel
      else (s1.bufWrite 0 (descBuf d) block).completeDesc 0 r.num pos r.gen false stOK block.length t

/-- The export at its end: a sealed block goes to every enabled port, is retained for acknowledgement and moves the
cursor (R459, R460).
DEDUCED, log entry 152, unsafe. -/
def State.exportEndNow (s : State) (ok : Bool) (block : Bytes) (t : Stamp) : State :=
  match s.folio.exporting with
  | none => s
  | some e =>
    let s := { s with folio := { s.folio with exporting := none } }
    if !ok then s
    else
      let on (b : Nat) : Bool := (s.num (0x440301 + e.stream)).testBit b && s.portReady e.stream b
      let p0 := on 0
      let p1 := on 1
      let p2 := on 2
      let p3 := on 3
      let s := if p0 then s.exportHost e.stream block t 4096 else s
      let s := if p1 then s.canQueue 0 true (s.canEventFmt 0) block else s
      let s := if p2 then s.canQueue 1 true (s.canEventFmt 1) block else s
      let s := if p3 then { s with folio := { s.folio with sending := some (0, block) } } else s
      let st := s.stream e.stream
      let kept := st.delivered ++ [(⟨e.last, block.drop (block.length - 16) |>.take 8⟩ : Delivered)]
      s.setStream e.stream { st with
        cursor := max st.cursor e.last, delivered := kept.drop (kept.length - 4)
        ackDue := if s.streamStops e.stream then
            some (st.ackDue.getD (s.sys.stroke + s.secStrokes (s.num 0x440008)))
          else none }

/-- FOLIO_EXPORT_STATE (R463). -/
def State.exportState (s : State) : Nat := if s.folio.exporting.isSome then 1 else if s.portsIdle then 0 else 2

/-- FOLIO_ACK as it is applied: a match among the last 4 blocks of the stream, or DENIED and counted (R460).
DEDUCED, log entry 153, unsafe. -/
def State.opFolioAck (s : State) (v : Bytes) : OpResult :=
  let n := byteAt v 0
  let last := beNat (slice v 8 8)
  if decide (n < 16) && slice v 1 7 == zeros 7 && (s.stream n).delivered.any (fun d => d.last == last && d.tag == slice v 16 8) then
    .ok [.folioAck n last]
  else { OpResult.refuse stDENIED with effs := [.count 181 1] }

/-- An acknowledgement at its Commit: the stream's point moves; whether a full stream has room again, to be published
(R455, R460). -/
def State.folioAckNow (s : State) (n last : Nat) : State × Bool :=
  let x := s.ackStream n last
  if x.2 then ((x.1.setRaw 0x440006 (beBytes 1 n ++ [2] ++ zeros 6)).later (s.recFull n 2), true) else x

/-- ACK_TIMEOUT: a stop stream without acknowledgement in time exports again from its acknowledged point (R460).
DEDUCED, log entry 152, unsafe. -/
def execAckTimeout (stream : Nat) (s : State) : Out :=
  let st := s.stream stream
  match st.ackDue with
  | some u => if u ≤ s.sys.stroke then .next (s.setStream stream { st with cursor := st.acked, ackDue := none }) else .next s
  | none => .next s

/-- FOLIO_NOTE as it is applied: one NOTE record of the text offered, up to 200 bytes (R448, R463). -/
def State.opFolioNote (s : State) (r : Requester) (n : Nat) (text : Bytes) : OpResult :=
  let t := text.take 200
  { OpResult.ok [] with
    recs := [⟨13 + n, 0x15, s.stamp, 0x80, beBytes 1 r.cls ++ beBytes 1 r.idx ++ beBytes 1 t.length ++ t⟩] }

/-- The disposition of an export's entry after a reset (R459).
DEDUCED, log entry 154, unsafe. -/
def State.disposeExport (s : State) (pos : Nat) (e : Inflight) : List Effect :=
  [.inflight pos (s.closed e 3 stDENIED), .exportEnd false []]

/-- FOLIO_OLDEST_SEQ, NEWEST_SEQ and ACKED_SEQ of a stream (R463). -/
def State.streamObject (s : State) (index n : Nat) : Nat :=
  let l := s.validRecs n
  if index = 0x4404 then l.head?.elim 0 (·.seq)
  else if index = 0x4405 then l.getLast?.elim 0 (·.seq)
  else (s.stream n).acked

end Sys2Proof.Machine
end

