-- ==== Sys2Proof/Machine/Operands.lean ====
section
/-!
DEFINITION. Operands.lean: the check of every written value: which lengths a type takes, what the Range and Clamp columns make
of a value outside them, and which values of security objects are refused (R100, R104, R106).
-/

namespace Sys2Proof.Machine

/-! ## Numbers (R104) -/

/-- The listed code nearest to a number, the higher of two equally near. -/
def nearest (l : List Nat) (x : Nat) : Nat :=
  l.foldl (fun best o =>
    let d (y : Nat) : Nat := max x y - min x y
    if d o < d best ∨ (d o = d best ∧ best < o) then o else best) (l.headD 0)

/-- A number brought into a Range by the Clamp column or the general rules. -/
def Rng.clamp (r : Rng) (x : Int) : Int :=
  match r with
  | .any => x
  | .between lo hi => max lo (min hi x)
  | .opts l => (nearest l x.toNat : Nat)
  | .bits m => (x.toNat &&& m : Nat)
  | .between07ff => if 0 ≤ x ∧ x ≤ 7 then x else 0xFF
  | .custom => x

/-- FEED_LS_MV: 0, or 10 to 60 in steps of 5, the nearest (R327). -/
def clampLoadStep (x : Nat) : Nat := if x = 0 then 0 else if x < 10 then 10 else min 60 ((x + 2) / 5 * 5)

/-- STANDBY_IDLE_S: 0, or 10 to 3600 (R98). -/
def clampIdle (x : Nat) : Nat := if x = 0 then 0 else max 10 (min 3600 x)

/-- DOMAIN_ENABLE: bits 0, 1, 2 and 4 one, bit 12 one while FEED_EN is held, bits 15:14 zero (R74). -/
def State.clampDomains (s : State) (x : Nat) : Nat := (x ||| 0x17 ||| (if s.feedEn then 0x1000 else 0)) &&& 0x3FFF

/-- GRANULE_OWNER: no owner for codes that name none; the owner held while a ring of its needs the granule (R147). -/
def State.clampOwner (s : State) (g x : Nat) : Nat :=
  let v := if 64 < x ∧ x < 0xFF then 0xFF else x
  if v ≠ s.granuleOwner g ∧ s.granuleInUse g = true then s.granuleOwner g else v

/-! ## CAN timing and identifiers (R409, R410, R412) -/

/-- The quanta of a nominal bit and of a data bit by their timing words. -/
def nomQuanta (t : Nat) : Nat := 3 + bits t 12 5 + bits t 19 13
def dataQuanta (t : Nat) : Nat := 3 + bits t 9 5 + bits t 13 10

/-- BRP moved by the fewest steps that bring BRP × quanta from `lo` to `hi`. -/
def moveBrp (q lo hi b : Nat) : Nat :=
  let ok (x : Nat) : Bool := decide (lo ≤ x * q ∧ x * q ≤ hi)
  if ok b then b
  else
    let near := (List.range 32).map (· + 1) |>.filter ok
    near.foldl (fun best x => if max x b - min x b < max best b - min best b then x else best) (near.headD b)

/-- A field of a word replaced. -/
def putBits (v hi lo x : Nat) : Nat := v - bits v hi lo * 2 ^ lo + x % 2 ^ (hi + 1 - lo) * 2 ^ lo

/-- CAN_NOM_TIMING after each step of R410 that bears on it. -/
def nomSteps (t : Nat) : List Nat :=
  let a := t % 2 ^ 27
  let a := if bits a 12 5 = 0 then putBits a 12 5 1 else a
  let b := putBits a 26 20 (min (bits a 26 20) (min (bits a 19 13) (bits a 12 5)))
  let c := putBits b 4 0 (moveBrp (nomQuanta b) 80 1600 (bits b 4 0 + 1) - 1)
  [a, b, c]

/-- CAN_DATA_TIMING after each step of R410, beside a nominal timing. -/
def dataSteps (nom t : Nat) : List Nat :=
  let a := t % 2 ^ 26
  let b := putBits a 17 14 (min (bits a 17 14) (min (bits a 13 10) (bits a 9 5)))
  let c := putBits b 4 0 (moveBrp (dataQuanta b) 16 ((bits nom 4 0 + 1) * nomQuanta nom) (bits b 4 0 + 1) - 1)
  [a, b, c]

/-- An identifier brought into its format and kept apart from the controller's other two (R412). -/
def State.clampId (s : State) (key x : Nat) : Nat :=
  let k := key / 4096 % 2
  let top := if s.canObj k 3 = 1 then 0x1FFFFFFF else 0x7FF
  let v := if x ≠ noId ∧ top < x then top else x
  if v ≠ noId ∧ ([4, 5, 6].any fun sub => sub != key % 256 && s.canObj k sub == v) then noId else v

/-! ## Byte strings -/

/-- COMMISSION_START: PATTERN 0-15, TARGET 1-64, two zero bytes (R307). -/
def clampCommission (v : Bytes) : Bytes := beBytes 1 (min 15 (byteAt v 0)) ++ beBytes 1 (max 1 (min 64 (byteAt v 1))) ++ zeros 2

/-- RIDGE_LEDGER_IDS: each byte 0 or a FRAME_ID (R407).
DEDUCED, log entry 52, unsafe. -/
def clampLedgerIds (v : Bytes) : Bytes := v.map fun b => if 250 < b.toNat then 250 else b

/-! ## The applied value -/

/-- The objects whose legal value depends on a rule of their own: what a value becomes. `f` is the free value taken where
FEED_BOOT_VID has no legal value (log entry 8). -/
def State.clampOwn (s : State) (key f : Nat) (v : Bytes) : List Bytes :=
  let x := beNat v
  let n (y : Nat) : List Bytes := [beBytes v.length y]
  let idx := key / 256
  if key = 0x120004 then n (s.clampDomains x)
  else if key = 0x120006 then n (if 8 < x then 0 else x)
  else if key = 0x12000A then n (clampIdle x)
  else if idx = 0x3A12 then n (s.clampOwner (key % 256 - 1) x)
  else if key = 0x481004 then
    let lo := s.num 0x481005
    let hi := s.num 0x481006
    n (if lo ≤ hi then max lo (min hi x) else f % 256)
  else if key = 0x481006 then n (max (s.num 0x481005) x)
  else if key = 0x481014 then n (clampLoadStep x)
  else if idx = 0x4402 then n (if key % 256 ≤ 2 ∨ 1 < x then 1 else x)
  else if idx = 0x5800 ∨ idx = 0x5810 then
    if key % 256 = 7 then (nomSteps x).map (beBytes v.length)
    else if key % 256 = 8 then (dataSteps (s.canObj (idx / 16 % 2) 7) x).map (beBytes v.length)
    else n (s.clampId key x)
  else if key = 0x2C2001 then [clampCommission v]
  else if key = 0x50000E then [clampLedgerIds v]
  else [v]

/-- Values taken in turn, without those that change nothing. -/
def changes (v : Bytes) : List Bytes → List Bytes
  | [] => []
  | w :: r => if w = v then changes v r else w :: changes w r

/-- What the check makes of an offered value: none for a number of the wrong length, which is refused; else the values that
replace it in turn, each with whether firmware makes the clamp, as it does for DOMAIN_ENABLE (R104, R105, R410, R479). No
replacement: the value is legal.
DEDUCED, log entry 46, unsafe.
DEDUCED, log entry 53, unsafe. -/
def State.clampSteps (s : State) (d : ObjDef) (key f : Nat) (v : Bytes) : Option (List (Bytes × Bool)) :=
  match d.ty with
  | .oct n =>
    let w := padTo n v
    let last := match d.rng with
      | .custom => s.clampOwn key f w
      | _ => [w]
    -- a length other than n is a replacement even where only the length differs
    some ((if v.length = n then changes v last else [last.getLastD w]).map fun x => (x, false))
  | t =>
    if v.length ≠ t.len then none
    else
      let vals : List Bytes := match d.rng, t with
        | .custom, _ => s.clampOwn key f v
        | r, .i _ => [beInt v.length (r.clamp (intOf v))]
        | r, _ => [beBytes v.length (r.clamp (beNat v : Nat)).toNat]
      let own := (changes v vals).map fun x => (x, key == 0x120004)
      let w := vals.getLastD v
      let biv := if key = 0x120004 ∧ s.bivouac = true ∧ beNat w / 256 % 4 ≠ 0 then [(beBytes 2 (beNat w &&& 0x3CFF), true)] else []
      some (own ++ biv)

/-- The value applied after the steps. -/
def applied (v : Bytes) (steps : List (Bytes × Bool)) : Bytes := ((steps.getLast?).map (·.1)).getD v

/-! ## Security objects (R106) -/

/-- A legal ZONE_MAP (R272).
DEDUCED, log entry 52, unsafe. -/
def zoneLegal (z : Bytes) : Bool :=
  let used (k : Nat) : Bool := !(byteAt z (2 + 2 * k) == 0xFF && byteAt z (3 + 2 * k) == 0xFF)
  decide (byteAt z 0 ≤ 4) && decide (byteAt z 1 ≤ 15) && slice z 52 12 == zeros 12 &&
    ((List.range 13).all fun k => !used k || decide (1 ≤ byteAt z (2 + 2 * k) ∧ byteAt z (2 + 2 * k) ≤ byteAt z (3 + 2 * k) ∧
      byteAt z (3 + 2 * k) ≤ 254)) &&
    ((List.range 8).all fun k =>
      let a := zoneAnchor z k
      if a.1 = 0xFF then a.2 == 0 else decide (a.1 % 32 = 0) && decide (10 ≤ a.2 ∧ a.2 ≤ 2000)) &&
    (byteAt z 0 == 0 || (((List.range 13).any used) && (zoneAnchor z 0).1 != 0xFF))

/-- A legal ENTRY_ROUTE: a handle's source index or 0xFF, a pattern or 0xFF (R283, R36).
DEDUCED, log entry 52, unsafe. -/
def routeLegal (v : Bytes) : Bool :=
  (byteAt v 0 == 0xFF || decide (byteAt v 0 % 32 ≤ 3)) && (byteAt v 1 == 0xFF || decide (byteAt v 1 ≤ 15))

/-- The sum of the objects at a key and the next `n - 1`, with one of them replaced. -/
def State.sumWith (s : State) (base n key v : Nat) : Nat :=
  ((List.range n).map fun i => if base + i = key then v else s.num (base + i)).sum

/-- Whether a change of a stream's pages would empty stream 0 or 1 while it holds records that are not acknowledged
(R444). -/
def State.areasHeld (s : State) (key v : Nat) : Bool :=
  let new := (List.range 16).map fun n => if 0x440101 + n = key then v else s.streamPages n
  [0, 1].any fun n =>
    (areaBase new n != areaBase s.areas n || new.getD n 0 != s.streamPages n) &&
      (s.stream n).pages.any fun p => p.recs.any fun r => decide ((s.stream n).acked < r.seq)

/-- A value a security object may take where its row names a rule of its own.
DEDUCED, log entry 52, unsafe. -/
def State.securityLegal (s : State) (key : Nat) (v : Bytes) : Bool :=
  let x := beNat v
  let idx := key / 256
  if idx = 0x6A00 then decide (x ≤ 128) && decide (s.sumWith 0x6A0001 65 key x ≤ 1024)
  else if idx = 0x3842 ∨ idx = 0x3843 then decide (0x50 ≤ keyObjSlot key) || x == 0
  else if idx = 0x3844 ∨ idx = 0x3845 then (decide (0x50 ≤ keyObjSlot key) && decide (x ≤ 0x3FF)) || x == 0
  else if key = 0x200007 then
    let c := s.num 0x200003
    decide (x ≤ if c = 0xFF then 63 else byteAt (s.raw 0x288004) c)
  else if idx = 0x2010 then s.patternLegal v
  else if idx = 0x2880 then s.regLegal (key % 256 - 1) v
  else if idx = 0x2C08 then routeLegal v
  else if key = 0x340003 then decide (x ≤ s.num 0x340004)
  else if key = 0x340004 then decide (s.num 0x340003 ≤ x)
  else if idx = 0x2C10 then zoneLegal v
  else if key = 0x300003 then v.all fun b => decide (b.toNat ≤ 7)
  else if idx = 0x4401 then
    decide (8 ≤ x ∧ x ≤ 944) && decide (s.sumWith 0x440101 16 key x ≤ 944) && !s.areasHeld key x
  else true

/-- An object of the schedule that is active, or that this node asks for in its current vote, is not written (R377). -/
def State.scheduleBusy (s : State) (key : Nat) : Bool :=
  let idx := key / 256
  let k := if idx = 0x5100 ∨ idx = 0x5108 then key % 256 - 1 else idx % 16 % 8
  (idx == 0x5100 || idx == 0x5108 || decide (0x5110 ≤ idx ∧ idx ≤ 0x5117) || decide (0x5120 ≤ idx ∧ idx ≤ 0x5127)) &&
    (k == s.ridge.active || ((s.ridge.ownVotes.getLast?).map (·.2)) == some k)

end Sys2Proof.Machine
end

