-- ==== Sys2Proof/Machine/Flags.lean ====
section
/-!
DEFINITION. Flags.lean: what a read of every Ledger object returns: the stored objects, and the values, flags and counters the
device keeps elsewhere (R101, R103, and the object tables of the chapters).
-/

namespace Sys2Proof.Machine

/-- DETERMINISM_STATE: 1 while a withdrawn stroke lies inside the last 1,024 strokes (R49). -/
def State.determinism (s : State) : Nat :=
  b2n (s.sys.pllSince.isSome || s.sys.spans.any fun b => decide (s.sys.stroke ≤ b.last + 1024))

/-- The Pole link sets the boundary: this device is an admitted slave (R31). -/
def State.poleTimed (s : State) : Bool := s.isSlave && s.pole.self.admitted && s.domReady 13

/-- STROKE_TIME_SOURCE (R31). -/
def State.timeSource (s : State) : Nat :=
  if s.poleTimed then 0 else if s.ridgeSync && !s.isSlave then 1 else 2

/-- The in-flight entry as its object reads (R112). -/
def State.inflightBytes (s : State) (p : Nat) : Bytes := ((alookup p s.inflight).getD Inflight.free).bytes

/-- INFLIGHT_OPEN (R114). -/
def State.inflightOpen (s : State) : Nat := (s.inflight.filter fun e => e.2.isOpen).length

/-- INKWELL_STATE (R182). -/
def State.inkwellState (s : State) : Nat :=
  b2n s.ink.refusing + 2 * b2n (decide (32 ≤ s.ink.spares.length)) + 4 * b2n (s.ink.failing != [])

/-- KEY_CHECK of a slot: the first 4 bytes of the encryption of the zero block, 0 for a slot that holds no key (R189). -/
def State.keyCheck (s : State) (n : Nat) : Bytes :=
  let k := s.slotView n
  if k.state = 1 then toBytes ((aesEnc (nums k.key) (List.replicate 16 0)).take 4) else zeros 4

/-- KEY_LENGTH of a slot: that of a LOADED key (R189). -/
def State.keyLength (s : State) (n : Nat) : Nat :=
  let k := s.slotView n
  if k.state = 1 then k.key.length else 0

/-- SHADOW_STATUS: wrap count and wrap flag (R178, R180). -/
def State.shadowStatus (s : State) (n : Nat) : Nat :=
  let w := (alookup n s.ink.wraps).getD 0
  w * 256 + 128 * b2n (w != 0)

/-- TETHER_STATE (R283). -/
def State.tetherState (s : State) : Nat :=
  match s.tether.run with
  | none => 0
  | some x => if x.cradle then 3 else if x.phase = .listening then 1 else 2

/-- Seconds of debug permission left, begun seconds counted (R298). -/
def State.debugLeft (s : State) : Nat :=
  match s.people.debugUntil with
  | none => 0
  | some u => let sec := s.secStrokes 1; (u - s.sys.stroke + sec - 1) / sec

/-- The slot object of a held proposal (R291). -/
def Proposal.bytes (p : Proposal) (boot : Nat) : Bytes :=
  beBytes 2 p.num ++ beBytes 1 p.state ++ beBytes 1 p.first ++ beBytes 1 p.fails ++ beBytes 1 p.req.cls ++ beBytes 1 p.req.idx ++
    [0] ++ p.digest ++ p.challenge ++ stampBytes ⟨boot, p.closes⟩ ++ zeros 6

/-- CS_PROPOSAL_0-7. -/
def State.proposalObject (s : State) (slot : Nat) : Bytes :=
  ((s.people.proposals.find? (·.slot == slot)).map fun p => p.bytes s.boot).getD (zeros 72)

/-- STRAPS as sampled (R59). -/
def State.strapsByte (s : State) : Nat := s.sys.cascId + s.sys.bootOpt * 8 + b2n s.sys.factoryTest * 32

/-- FEED_FLAGS: FLAGS of R328, live, and CONFIG_PENDING (R327, R328). -/
def State.feedFlags (s : State) : Nat := s.feed.flags + 256 * b2n s.feedPending

/-- The value of a read-only object that the device computes; none for one whose value is stored. Numbers are answered as
numbers, to be encoded in the type's length. -/
def State.roNumber (s : State) (key : Nat) : Option Nat :=
  let idx := key / 256
  let sub := key % 256
  match idx with
  | 0x1000 => match sub with
    | 3 => some (1 + b2n Config.steppingIsB0)
    | 4 => some Config.uniqueId.toNat
    | 5 => some s.strapsByte
    | 6 => some (beNat (slice (padTo 8 s.img.pair) 0 4))
    | 7 => some (beNat (slice (padTo 8 s.img.pair) 4 4))
    | _ => none
  | 0x1100 => match sub with
    | 2 => some s.sys.len
    | 3 => some s.sys.stroke
    | 5 => some s.boot
    | 6 => some (s.sys.stroke % 64)
    | 7 => some (s.strokeUs / 10)
    | 9 => some ((alookup 0 s.ink.wraps).getD 0)
    | 0x0E => some s.determinism
    | 0x13 => some s.timeSource
    | _ => none
  | 0x1200 => match sub with
    | 5 => some s.sys.domains
    | 0x0B => some s.guyByte
    | 0x0F => some s.sys.vholdState
    | 0x10 => some s.sys.vholdMv
    | 0x11 => some s.sys.blotterUf
    | 0x13 => some s.sys.vlfState
    | _ => none
  | 0x7200 => match sub with
    | 1 => some s.inflightOpen
    | 2 => some s.newest
    | _ => none
  | 0x7300 => if sub = 2 then some ((alookup 3 s.ink.wraps).getD 0) else none
  | 0x4000 => match sub with
    | 1 => some s.inkwellState
    | 9 => some s.ink.failing.length
    | 0x0B => some (holdPages s.folio.hold)
    | 0x0D => some s.ink.group
    | _ => none
  | 0x4010 => some (if 2 ≤ sub ∧ sub ≤ 8 then 0 else s.tally (sub - 1))
  | 0x4022 => some (s.shadowStatus (sub - 1))
  | 0x4023 => some (s.shadowStatus (127 + sub))
  | 0x3800 => match sub with
    | 1 => some s.quill.state
    | 2 => some s.quill.cause
    | 4 => some s.quill.sheetFaults
    | _ => none
  | 0x3840 | 0x3841 => some (s.slotView (keyObjSlot key)).gen
  | 0x3842 | 0x3843 => some (s.slotView (keyObjSlot key)).map
  | 0x3844 | 0x3845 => some (s.slotView (keyObjSlot key)).modes
  | 0x3846 | 0x3847 => some (s.slotView (keyObjSlot key)).state
  | 0x3848 | 0x3849 => some (s.keyLength (keyObjSlot key))
  | 0x384A | 0x384B => some (beNat (s.keyCheck (keyObjSlot key)))
  | 0x2000 => match sub with
    | 4 => some s.lfActivity
    | 5 => some s.lf.guard
    | _ => none
  | 0x2800 => match sub with
    | 1 => some s.radio.uhf
    | 2 => some s.radio.uwb
    | 0x15 => some s.calState
    | _ => none
  | 0x2880 => if sub = 6 then some s.regState else none
  | 0x2888 => some (if sub = 9 then s.radio.uwbUs / 1000 else (alookup (sub - 1) s.radio.bandUs).getD 0 / 1000)
  | 0x2C00 => if sub = 6 then some s.tetherState else none
  | 0x3000 => match sub with
    | 1 => some (b2n !s.tether.setValid)
    | 2 => some (s.epoch % 2 ^ 32)
    | _ => none
  | 0x3001 => some (s.tokenRole (sub - 1))
  | 0x3003 => some (s.rolling (sub - 1) s.epochTag)
  | 0x3010 => if sub = 2 then some s.learnPhase else none
  | 0x6800 => match sub with
    | 1 => some (b2n s.isSealed)
    | 6 => some s.members
    | 7 => some s.debugLeft
    | _ => none
  | 0x4800 => match sub with
    | 1 => some s.feed.state
    | 3 => some s.feed.cause
    | 5 => some s.feed.vid
    | 6 => some s.feed.pointer
    | 7 => some s.feedFsw
    | _ => none
  | 0x4820 => match sub with
    | 2 => some s.startLockState
    | 4 => some s.feed.link
    | 5 => some (if s.feed.link = 2 then stFEEDLINE_LOST else stOK)
    | 7 => some (b2n s.feed.ack)
    | 8 => some s.release.count
    | _ => none
  | 0x5001 => match sub with
    | 1 => some s.ridge.active
    | 2 => some s.ridge.cycle
    | 3 => some s.ridge.sheet
    | 4 => some s.ridge.offset
    | 5 => some s.ridge.topology
    | 6 => some s.ridge.state
    | 7 => some s.membersMask
    | 8 => some s.ridge.leader
    | 9 => some (b2n s.ridge.stopped)
    | 0x0A => some s.sideState
    | _ => none
  | 0x5101 => some (s.schState (sub - 1))
  | 0x5800 | 0x5810 =>
    let c := s.can (idx / 16 % 2)
    match sub with
    | 0x0F => some c.state
    | 0x10 => some c.tecView
    | 0x11 => some c.recView
    | 0x12 => some c.queued
    | _ => none
  | 0x6000 => match sub with
    | 1 => some s.poleRole
    | 2 => some s.poleState
    | 3 => some s.poleAdmitted
    | 6 => some s.pole.self.delta
    | _ => none
  | 0x4400 => match sub with
    | 1 => some s.folio.lastSeq
    | 2 => some s.folioFull
    | 5 => some s.exportState
    | _ => none
  | 0x4404 | 0x4405 | 0x4406 => some (s.streamObject idx (sub - 1))
  | 0x1020 => if sub = 2 then some (b2n s.img.pendingImg) else none
  | 0x7000 => if sub = 1 then some s.faultActive else none
  | _ => none

/-- The value of a computed read-only object that is a byte string, a stamp or a signed number; none for others. -/
def State.roBytes (s : State) (key : Nat) : Option Bytes :=
  let idx := key / 256
  let sub := key % 256
  match idx with
  | 0x1100 => match sub with
    | 4 => some (stampBytes s.stamp)
    | 0x0C => some s.configDigest
    | 0x0D => some (padTo 8 s.img.pair)
    | 0x14 => some (beInt 2 s.sys.corrApplied)
    | _ => none
  | 0x7200 => if 0x10 ≤ sub then some (s.inflightBytes (sub - 0x10)) else none
  | 0x3800 => if sub = 5 then some (stampBytes s.quill.lastFault) else none
  | 0x2800 => if sub = 0x16 then some (beInt 2 s.radio.temp) else none
  | 0x2880 => if sub = 7 then some s.regDigest else none
  | 0x3002 => some (s.tokenValidity (sub - 1))
  | 0x3010 => if sub = 5 then some s.stagedDigest else none
  | 0x6808 => some (s.proposalObject (sub - 1))
  | 0x5001 => if sub = 0x0C then some (beInt 4 s.ridge.strokeOffset) else none
  | 0x5102 => some (s.schDigest (sub - 1))
  | 0x6001 | 0x6002 | 0x6003 => some (s.slaveObject idx sub)
  | 0x4400 => if sub = 3 then some s.voidBytes else none
  | 0x1010 => some (s.bootObject sub)
  | _ => none

/-- Objects a chapter marks secret, which read zeros whatever their access (R101): KEY_LOAD_PROTECTED, and the lockout
counters among the Tally objects. -/
def isSecret (key : Nat) : Bool := key == 0x381003 || (decide (0x401002 ≤ key) && decide (key ≤ 0x401008))

/-- The value a read returns of an object that exists, `own` the object store with a transaction's own writes: secret and
write-only objects read zeros, shadow counters their committed count, other read-only objects what was committed at the
boundary that opened the stroke (R99, R101, R107). -/
def State.readObject (s : State) (d : ObjDef) (key : Nat) : Bytes :=
  let n := d.ty.len
  if d.acc = .wo ∨ isSecret key = true then zeros n
  else match shadowOf key with
    | some c => beBytes n (s.shadowSeen c)
    | none =>
      if key = 0x480002 then beBytes n s.feedFlags
      else if d.acc = .rw ∨ d.acc = .rwc then
        (if 0x3842 ≤ key / 256 ∧ key / 256 ≤ 0x3845 then s.configValue key else s.raw key)
      else
        let t := s.asSeen
        match t.roNumber key with
        | some v => beBytes n v
        | none => ((t.roBytes key).getD (t.raw key)).take (min n 240)

/-- A read of any index and sub-index: sub-index 0 of a defined index is the highest sub-index (R99); none where no object
exists (R11). -/
def State.read (s : State) (key : Nat) : Option Bytes :=
  if key % 256 = 0 then
    let h := highestSub (key / 256)
    if h = 0 then none else some (beBytes 1 h)
  else (objDef key).map fun d => s.readObject d key

end Sys2Proof.Machine
end

