-- ==== Sys2Proof/Machine/Countersign.lean ====
section
/-!
DEFINITION. Countersign.lean: proposals, change digests, host and token authentications, sealing, the debug permission and
the start of a commissioning run (R289-R299, R307).
-/

namespace Sys2Proof.Machine

/-! ## Proposals (R291, R292) -/

/-- The proposals as the stroke's units have staged them so far. -/
def State.proposalsNow (s : State) : List Proposal :=
  s.effects.foldl (fun l e => match e with
    | .proposal p => if l.any (·.slot == p.slot) then l.map (fun q => if q.slot = p.slot then p else q) else l ++ [p]
    | .proposalFree n => l.filter (·.slot != n)
    | _ => l) s.people.proposals

/-- The value a Tally counter has after what this stroke has staged. -/
def State.tallyNow (s : State) (c : Nat) : Nat :=
  (s.staged.flatMap (·.cells)).foldl (fun v w => match w with
    | .tally d x => if d = c then max v x else v
    | _ => v) (s.tally c)

/-- The change digest of a proposal (R292). -/
def changeDigest (num count : Nat) (body : Bytes) : Bytes :=
  sha256 ([0x43, 0x53, 0x44, 0x31] ++ beBytes 16 Config.uniqueId.toNat ++ beBytes 2 num ++ beBytes 1 count ++ body)

/-- A proposal's in-flight entry closed as refused (R110). -/
def State.proposalRefused (s : State) (p : Proposal) (result : Nat) : List Effect :=
  [.proposalFree p.slot, .inflight p.pos (s.closed (s.inflightAt p.pos) 6 result)]

/-! ## Authentications (R293, R294) -/

/-- A write of CS_AUTH: the MAC goes to queue 3.
DEDUCED, log entry 109, unsafe. -/
def State.opCsAuth (s : State) (v : Bytes) : OpResult :=
  let num := beNat (slice v 0 2)
  let p := byteAt v 2
  match s.proposalsNow.find? (·.num == num) with
  | none => .refuse stNO_SUCH_OBJECT
  | some q =>
    if !(decide (0x40 ≤ p) && s.isMember p) then .refuse stDENIED
    else .ok [.quillQueue ⟨3, 3, 9, p, none, [], [], [0x31] ++ beBytes 1 p ++ beBytes 2 num ++ q.digest ++ q.challenge,
      slice v 4 16, 0, [num, p]⟩]

/-- C′ of a countersign exchange. -/
def Proposal.cPrime (p : Proposal) : Bytes := (sha256 ([0x23] ++ p.digest ++ p.challenge)).take 16

/-- A countersign exchange for a proposal begun; none where the entropy block has too few bytes left. -/
def State.beginCountersign (s : State) (p : Proposal) : Option (State × List Effect) :=
  s.startCradle { s.newExchange 4 0xFE 0 none [] with proposal := p.num } (some p.cPrime)

/-- A write of CS_TOKEN_AUTH: a countersign exchange, held while another runs (R25, R294). -/
def State.opCsTokenAuth (s : State) (v : Bytes) : OpResult × State :=
  let num := beNat v
  match s.proposalsNow.find? (·.num == num) with
  | none => (.refuse stNO_SUCH_OBJECT, s)
  | some p =>
    if !s.hasCradle then (.refuse stDENIED, s)
    else if s.tether.waiting.isSome then (.refuse stBUSY, s)
    else match s.tether.run with
      | some _ => (.ok [.holdStart (some ⟨none, num⟩)], s)
      | none => match s.beginCountersign p with
        | some (s', effs) => (.ok effs, s')
        | none => (.refuse stOVERRUN, s)

/-! ## Sealing, the debug permission, commissioning (R290, R298, R307) -/

/-- A write of PROTECTION_SEAL: from class 0, OPEN, with two members at least, Tally counter 11 is raised to 1. -/
def State.opProtectionSeal (s : State) (r : Requester) (v : Bytes) : OpResult :=
  if beNat v ≠ 1 then .ok []
  else if r.cls ≠ 0 ∨ s.isSealed = true ∨ s.members < 2 then .refuse stDENIED
  else { OpResult.ok [] with cells := [.tally 11 1] }

/-- A countersigned DEBUG_UNLOCK of n seconds from its Commit; 0 ends the permission.
DEDUCED, log entry 111, unsafe. -/
def State.opDebugUnlock (s : State) (v : Bytes) : OpResult :=
  let n := beNat v
  .ok [.obj 0x680005 v, .debugUntil (if n = 0 then none else some (s.sys.stroke + 1 + s.secStrokes n))]

/-- DEBUG_UNLOCK_EXPIRY: the permission's seconds have passed.
DEDUCED, log entry 111, unsafe. -/
def execDebugUnlockExpiry (s : State) : Out :=
  match s.people.debugUntil with
  | some u => if u ≤ s.sys.stroke then .next { s with people := { s.people with debugUntil := none } } else .next s
  | none => .next s

/-- A write of COMMISSION_START: the result is cleared and the run stands at STARTED.
DEDUCED, log entry 104, unsafe.
DEDUCED, log entry 109, unsafe. -/
def State.opCommissionStart (s : State) (r : Requester) (v : Bytes) : OpResult :=
  if s.bivouac then .refuse stNOT_IN_BIVOUAC
  else if (s.openEntry 7).isSome then .refuse stBUSY
  else match s.inflightSlot with
    | none => .refuse stBUSY
    | some pos => .start [.inflight pos (s.newEntry 7 2 0 1 r), .commission (byteAt v 1),
        .obj 0x2C2101 (commissionEmpty (byteAt v 0))]

/-- Whether a value of CS_HOST_MEMBERS leaves a SEALED device two members (R297). -/
def State.membersKept (s : State) (v : Bytes) : Bool :=
  !s.isSealed ||
    decide (2 ≤ ((List.range 64).filter s.isMember).length +
      ((List.range 4).filter fun p => (beNat v).testBit p && (s.slotView (0x40 + p)).state == 1).length)

end Sys2Proof.Machine
end

