-- ==== Sys2Proof/Machine/Supply.lean ====
section
/-!
DEFINITION. Supply.lean: the writes that enter standby, reset a subsystem or switch domains, as a transaction applies them
(R74, R86, R91, R440).
-/

namespace Sys2Proof.Machine

/-- The exchange as the stroke's units have staged it so far. -/
def State.exchangeNow (s : State) : Option Exchange :=
  s.effects.foldl (fun x e => match e with
    | .exchange y => y
    | _ => x) s.tether.run

/-- An entry to standby is answered BUSY: FEED_EN, an exchange running or held, an open in-flight entry, an export block on its
way, or an entry asked of the slaves already (R91, R440). -/
def State.standbyBlocked (s : State) : Bool :=
  s.feedEn || s.exchangeNow.isSome || s.tether.waiting.isSome || (List.range 16).any (fun p => (s.inflightAt p).isOpen) ||
    s.folio.exporting.isSome || !s.portsIdle || s.pole.standby.isSome

/-- An entry to standby: at once, or by a master with admitted slaves through STANDBY to each of them (R91, R440). -/
def State.opStandby (s : State) (r : Requester) : OpResult :=
  if s.standbyBlocked then .refuse stBUSY
  else
    let up := if s.isMaster && s.poleUp then s.admitted else []
    if up = [] then .ok [.standby]
    else .ok (.poleStandby (some (r, s.sys.stroke, [])) ::
      up.map fun n => .poleSend ⟨10, n, false, s.sys.stroke + 1, []⟩)

/-- A write of STANDBY_REQUEST. -/
def State.opStandbyRequest (s : State) (r : Requester) (v : Bytes) : OpResult :=
  if beNat v = 1 then s.opStandby r else .ok []

/-- A write of SUBSYSTEM_RESET: Feed's is refused while FEED_EN is asserted (R86). -/
def State.opSubsystemReset (s : State) (v : Bytes) : OpResult :=
  let n := beNat v
  if n = 0 then .ok [] else if n = 8 ∧ s.feedEn = true then .refuse stBUSY else .ok [.subsystem n]

/-- A write of DOMAIN_ENABLE, in force at its Commit and recorded where it changes (R74). -/
def State.opDomainEnable (s : State) (r : Requester) (v : Bytes) : OpResult :=
  { OpResult.ok [.obj 0x120004 v, .domains (beNat v)] with
    recs := if s.num 0x120004 = beNat v then [] else [s.recObj 3 0x120004 r.cls r.idx v] }

end Sys2Proof.Machine
end

