-- ==== Sys2Proof/Machine/Ledger.lean ====
section
/-!
DEFINITION. Ledger.lean: the written entry, the transaction as one unit over a private copy, protected transactions, and the
Ledger messages (R99-R124).
-/

namespace Sys2Proof.Machine

/-! ## Operations by object (R111) -/

/-- A regulatory object written: its pair in Inkwell and the reload of the shadow copy (R232, R246). -/
def opRegulatory (key : Nat) (v : Bytes) : OpResult :=
  { OpResult.ok [.obj key v, .regReload] with pairs := [⟨1, key % 256 - 1, padTo 240 v⟩] }

/-- What a change of CAR_ID also writes: SNIFF_MATCH and its mask, so that a sniffed telegram is this car's (R256).
DEDUCED, log entry 103, unsafe. -/
def State.sniffEffects (s : State) (v : Bytes) : List Effect :=
  if v = s.raw 0x2C0001 then [] else [.obj 0x28000B (1 :: v.drop 1), .obj 0x28000C [0xFF, 0xFF, 0xFF, 0xFF]]

/-- What a legal value does when it is written: an operation of its chapter, or the value stored. The state answered has the
entropy and the free values the operation took. -/
def State.opWrite (s : State) (r : Requester) (key : Nat) (v : Bytes) : OpResult × State :=
  let idx := key / 256
  let sub := key % 256
  let plain (x : OpResult) : OpResult × State := (x, s)
  match idx with
  | 0x1200 => plain (match sub with
    | 4 => s.opDomainEnable r v
    | 6 => s.opSubsystemReset v
    | 7 => s.opStandbyRequest r v
    | _ => .ok [.obj key v])
  | 0x1020 => plain (if sub = 1 then s.opImageActivate r v else .ok [.obj key v])
  | 0x200C => plain (opLfChannelClear (sub - 1) v)
  | 0x2880 => plain (opRegulatory key v)
  | 0x2C00 => plain (.ok (.obj key v :: (if sub = 1 then s.sniffEffects v else [])))
  | 0x2C02 => s.opStartRequest r v
  | 0x2C20 => plain (s.opCommissionStart r v)
  | 0x3010 => plain (if sub = 1 then s.opLearnStart r v else s.opLearnClear v)
  | 0x3020 => plain (s.opLearnRecord (sub - 1) v)
  | 0x3400 => plain (if sub = 5 then s.opLockoutClear v else .ok [.obj key v])
  | 0x3810 => plain (match sub with
    | 1 => s.opKeyLoad false r v
    | 2 => s.opKeyErase r v
    | _ => s.opKeyLoad true r v)
  | 0x3842 | 0x3843 => plain (s.opKeyMap (keyObjSlot key) v)
  | 0x3844 | 0x3845 => plain (s.opKeyModes (keyObjSlot key) v)
  | 0x3A00 => plain (s.opTenantEnable r v)
  | 0x3A12 => plain (s.opGranuleOwner r (sub - 1) v)
  | 0x4400 => plain (if sub = 4 then s.opFolioAck v else .ok [.obj key v])
  | 0x4401 => plain (.ok [.obj key v, .folioAreas s.areas])
  | 0x4409 => plain (s.opFolioNote r (sub - 1) v)
  | 0x4800 => plain (s.opFeedFaultClear v)
  | 0x4820 => plain (if sub = 1 then s.opIgnitionOff v else .ok [.obj key v])
  | 0x5000 => plain (match sub with
    | 0x0B => if s.bivouac then .refuse stNOT_IN_BIVOUAC else .ok [.obj key v]
    | 0x0D => opGuardClear v
    | _ => .ok [.obj key v])
  | 0x5800 | 0x5810 => plain (if sub = 0x0E then s.opCanRecover (idx / 16 % 2) v else .ok [.obj key v])
  | 0x6010 => plain (s.opPoleRelay sub 0 v)
  | 0x6011 => plain (s.opPoleRelay sub 1 v)
  | 0x6800 => plain (match sub with
    | 2 => if s.membersKept v then .ok [.obj key v] else .refuse stDENIED
    | 4 => s.opProtectionSeal r v
    | 5 => s.opDebugUnlock v
    | _ => .ok [.obj key v])
  | 0x6810 => if sub = 1 then plain (s.opCsAuth v) else s.opCsTokenAuth v
  | _ => plain (.ok [.obj key v])

/-! ## One written entry (R101-R106) -/

/-- A value as a record of a refusal or of an applied change shows it: key material is left out.
DEDUCED, log entry 48, unsafe. -/
def shownValue (key : Nat) (v : Bytes) : Bytes :=
  if key = 0x381001 ∨ isSecret key = true then zeros (min v.length 200) else v.take 200

/-- The admin security record of a refused write: object, value offered (R106). -/
def State.adminRec (s : State) (r : Requester) (key : Nat) (v : Bytes) : NewRec :=
  s.recObj 1 key r.cls r.idx (shownValue key v)

/-- A security refusal of a write.
DEDUCED, log entry 17, safe.
DEDUCED, log entry 48, unsafe. -/
def State.denyWrite (s : State) (r : Requester) (key : Nat) (v : Bytes) : OpResult :=
  { OpResult.refuse stDENIED with recs := [s.adminRec r key v] }

/-- Objects that only classes 0 and 4 write (R153, R191, R193), and the seal, which only class 0 writes (R290). -/
def classBarred (r : Requester) (key : Nat) : Bool :=
  if key = 0x680004 then r.cls != 0
  else (key == 0x3A0001 || key / 256 == 0x3A11 || key / 256 == 0x3A12 || key == 0x381001 || key == 0x381002) &&
    !(r.cls == 0 || r.cls == 4)

/-- The write mask of the requester's class lets the object's range through (R102). -/
def State.maskOpen (s : State) (r : Requester) (key : Nat) : Bool :=
  decide (4 ≤ r.cls) || (s.num (0x6C0001 + r.cls)).testBit (rangeOf (key / 256))

/-- The clamps of an entry, each with its report entry, its count and its record (R105).
DEDUCED, log entry 46, unsafe. -/
def State.clampEffects (s : State) (r : Requester) (key len : Nat) : Bytes → List (Bytes × Bool) → List Effect × List NewRec
  | _, [] => ([], [])
  | v, (w, fw) :: rest =>
    let c : Clamp := ⟨key, if fw then 4 else r.cls, if fw then 0 else r.idx, len, v, w⟩
    let more := s.clampEffects r key len w rest
    (.clamp c :: .count 3 1 :: more.1,
      ⟨4, 0x11, s.stamp, 0x80, leBytes 2 (key / 256) ++ beBytes 1 (key % 256) ++ beBytes 1 c.cls ++ beBytes 1 c.req ++ [32] ++
        c.bytes s.stamp⟩ :: more.2)

/-- A protected write that is legal: carried out, with the record of an applied change (R106, R443). -/
def State.writeProtected (s : State) (r : Requester) (key : Nat) (v : Bytes) : OpResult × State :=
  let x := s.opWrite r key v
  if x.1.status = stDENIED then (s.denyWrite r key v, s)
  else if isRefusal x.1.status then (x.1, s)
  else ({ x.1 with recs := x.1.recs ++ [s.recObj 0 key r.cls r.idx (shownValue key v)] }, x.2)

/-- An ordinary write: the value after its clamps carried out; OK becomes CLAMPED where a clamp was made (R104). -/
def State.writeOrdinary (s : State) (r : Requester) (key : Nat) (v : Bytes) (steps : List (Bytes × Bool)) : OpResult × Bytes × State :=
  let w := applied v steps
  if s.scheduleBusy key then (.refuse stBUSY, [], s)
  else
    let x := s.opWrite r key w
    if isRefusal x.1.status then
      (if x.1.status = stDENIED ∧ (key = 0x381001 ∨ key = 0x381002 ∨ key = 0x680004) then s.denyWrite r key v else x.1, [], s)
    else
      let c := s.clampEffects r key v.length v steps
      ({ x.1 with
        status := if x.1.status = stOK ∧ steps ≠ [] then stCLAMPED else x.1.status
        effs := c.1 ++ x.1.effs, recs := c.2 ++ x.1.recs }, w, x.2)

/-- One written entry: its result, the value applied, and the state with what it drew. `prot`: the transaction is applied as
countersigned (R101-R106).
DEDUCED, log entry 45, unsafe.
DEDUCED, log entry 49, unsafe. -/
def State.writeEntry (s : State) (r : Requester) (prot : Bool) (key : Nat) (v : Bytes) : OpResult × Bytes × State :=
  match objDef key with
  | none => (.refuse (if key % 256 = 0 ∧ highestSub (key / 256) ≠ 0 then stDENIED else stNO_SUCH_OBJECT), [], s)
  | some d =>
    if d.acc = .ro then (.refuse stDENIED, [], s)
    else if !s.maskOpen r key || classBarred r key || (d.acc == .rwc && !prot) then (s.denyWrite r key v, [], s)
    else if d.acc = .rwc then
      if s.clampSteps d key 0 v ≠ some [] ∨ s.securityLegal key v = false then (s.denyWrite r key v, [], s)
      else if s.holdBlocks then (.refuse stBUSY, [], s)
      else
        let x := s.writeProtected r key v
        (x.1, if isRefusal x.1.status then [] else v, x.2)
    else
      let f := if key = 0x481004 ∧ s.num 0x481006 < s.num 0x481005 then s.freeNat else (0, s)
      match s.clampSteps d key f.1 v with
      | none => (.refuse stDENIED, [], s)
      | some steps => f.2.writeOrdinary r key v steps

/-! ## The transaction as a unit (R107, R108) -/

/-- An entry of a request. -/
structure LEntry where
  write : Bool
  key : Nat
  val : Bytes
  deriving DecidableEq, Repr

/-- The result of an entry: its status, its object, and the value its answer carries. -/
structure EntryResult where
  status : Nat
  key : Nat
  out : Bytes
  deriving DecidableEq, Repr

/-- A transaction as far as it has run: the private copy, and what it stages. -/
structure TxnRun where
  s : State
  effs : List Effect
  recs : List NewRec
  cells : List CellWrite
  pairs : List PairWrite
  results : List EntryResult
  deriving DecidableEq, Repr

/-- The part of an entry's effects that later entries of the same transaction see. -/
def State.privately (s : State) : Effect → State
  | .obj k v => s.setRaw k v
  | .learnRecord n v => s.putImage n v
  | .learnClear => { s with people := { s.people with image := [] } }
  | .keyMap n m => s.setKeySlot n { s.slotView n with map := m }
  | .keyModes n m => s.setKeySlot n { s.slotView n with modes := m }
  | _ => s

/-- An entry writes an RWC object. -/
def LEntry.protected (e : LEntry) : Bool := e.write && (objDef e.key).elim false (·.acc == .rwc)

/-- One entry run against the private copy. An ordinary write inside an applied protected transaction is recorded with it
(R443).
DEDUCED, log entry 48, unsafe. -/
def TxnRun.entry (t : TxnRun) (r : Requester) (prot echo : Bool) (e : LEntry) : TxnRun :=
  if e.write then
    let x := t.s.writeEntry r prot e.key e.val
    let o := x.1
    if isRefusal o.status then
      { t with s := x.2.2, recs := t.recs ++ o.recs, effs := t.effs ++ o.effs, results := t.results ++ [⟨o.status, e.key, []⟩] }
    else
      let s' := (o.effs.foldl State.privately x.2.2).stage ⟨0, .plain, o.effs, [], o.cells, o.pairs, [], [], [], []⟩
      let named := if prot && !e.protected then [t.s.recObj 0 e.key r.cls r.idx (shownValue e.key x.2.1)] else []
      { s := s', effs := t.effs ++ o.effs, recs := t.recs ++ o.recs ++ named, cells := t.cells ++ o.cells, pairs := t.pairs ++ o.pairs
        results := t.results ++ [⟨o.status, e.key, if echo then x.2.1 else []⟩] }
  else
    match t.s.read e.key with
    | some v => { t with results := t.results ++ [⟨stOK, e.key, v⟩] }
    | none => { t with results := t.results ++ [⟨stNO_SUCH_OBJECT, e.key, []⟩] }

/-- An entry writes a ring quota. -/
def LEntry.quota (e : LEntry) : Bool := e.write && e.key / 256 == 0x6A00

/-- The re-grant that the quotas written by a transaction bring (R152): its operation, or the refusal of those entries. -/
def TxnRun.regrant (t : TxnRun) (s : State) (r : Requester) (inst : Nat) (es : List LEntry) : TxnRun :=
  if es.any LEntry.quota && !(t.results.any fun x => isRefusal x.status) then
    let o := { s with staged := t.s.staged }.opRegrant r inst (fun n => t.s.num (0x6A0001 + n))
    if o.status = stOK then t
    else
      { t with
        effs := t.effs ++ o.effs
        results := t.results.map fun x => if x.key / 256 = 0x6A00 ∧ x.status = stOK then { x with status := o.status } else x }
  else t

/-- A transaction's entries run in list order. -/
def State.runEntries (s : State) (r : Requester) (prot echo : Bool) (inst : Nat) (es : List LEntry) : TxnRun :=
  (es.foldl (fun (t : TxnRun) e => t.entry r prot echo e) ⟨s, [], [], [], [], []⟩).regrant s r inst es

/-- The overall status (R108). -/
def overall (rs : List EntryResult) : Nat :=
  let codes := rs.map (·.status)
  let f := firstRefusal codes
  if f ≠ stOK then f
  else if codes.contains stPENDING then stPENDING
  else if codes.contains stCLAMPED then stCLAMPED
  else stOK

/-! ## Messages (R116-R119) -/

/-- The entries of a request body; none where they do not fill it exactly or an OP is unknown.
DEDUCED, log entry 45, unsafe. -/
def entriesOf : Nat → Bytes → Option (List LEntry)
  | 0, b => if b = [] then some [] else none
  | fuel + 1, b =>
    if b = [] then some []
    else
      let n := byteAt b 4
      let op := byteAt b 0
      if b.length < 5 + n ∨ (op ≠ 1 ∧ op ≠ 2) then none
      else (entriesOf fuel (b.drop (5 + n))).map (⟨op == 2, beNat (slice b 1 3), slice b 5 n⟩ :: ·)

/-- What a received message is. -/
inductive LRequest where
  /-- CRC fails, or shorter than its header says: discarded and counted. -/
  | discard
  /-- A response or an event: ignored. -/
  | ignored
  /-- Answered DENIED with a STAMP-only body. -/
  | malformed
  | request (echo : Bool) (body : Bytes) (entries : List LEntry)
  deriving DecidableEq, Repr

/-- A message judged (R119). -/
def parseRequest (m : Bytes) : LRequest :=
  let n := msgLen m
  let m' := m.take n
  if m.length < 10 ∨ m.length < n ∨ crc16 (m'.take (n - 2)) ≠ beNat (m'.drop (n - 2)) then .discard
  else
    let type := byteAt m 0 % 16
    let count := byteAt m 6
    let body := slice m 8 (n - 10)
    if type = 2 ∨ type = 3 ∨ type = 4 then .ignored
    else if byteAt m 0 ≠ 0x11 ∨ count < 1 ∨ 64 < count ∨ 2048 < n - 10 then .malformed
    else match entriesOf 64 body with
      | some es => if es.length = count then .request ((byteAt m 7).testBit 0) body es else .malformed
      | none => .malformed

/-- A response: the STAMP is set when it is released (R117, R123). -/
def response (type status tag : Nat) (echo : Bool) (rs : List EntryResult) : Bytes :=
  ledgerMsg type status tag rs.length (b2n echo) (zeros 10 ++ rs.flatMap fun x =>
    beBytes 1 x.status ++ beBytes 3 x.key ++ beBytes 1 x.out.length ++ x.out)

/-- A message with its STAMP set to the stroke whose Commit releases it (R109, R117). -/
def restamp (m : Bytes) (t : Stamp) : Bytes :=
  let b := (m.take 8 ++ stampBytes t ++ m.drop 18).take (m.length - 2)
  b ++ beBytes 2 (crc16 b)

/-- The results of a request refused whole: refused entries keep their code, others read DENIED (R110, R117). -/
def refusedWhole (rs : List EntryResult) : List EntryResult :=
  rs.map fun x => ⟨if isRefusal x.status then x.status else stDENIED, x.key, []⟩

/-- Entries answered with one status. -/
def answeredAll (es : List LEntry) (status : Nat) : List EntryResult := es.map fun e => ⟨status, e.key, []⟩

/-- The results where the VHOLD check refuses the pages: every write entry INKWELL_LOW_HOLD (R109). -/
def heldResults (es : List LEntry) (rs : List EntryResult) : List EntryResult :=
  (es.zip rs).map fun x => if x.1.write then ⟨stINKWELL_LOW_HOLD, x.2.key, []⟩ else x.2

/-- The longest response a request could produce, from the lengths of its entries' objects (R146). -/
def longestResponse (echo : Bool) (es : List LEntry) : Nat :=
  let value (k : Nat) : Nat := if k % 256 = 0 then 1 else min 240 ((objDef k).elim 0 (·.ty.len))
  max 54 (20 + (es.map fun e => 5 + (if e.write && !echo then 0 else value e.key)).sum)

/-! ## Staging a transaction (R109) -/

/-- The standby entry asked of the slaves takes the response with it, to be sent when it is settled (R440). -/
def settleResponse (r : Requester) (status : Nat) (msg : Bytes) (effs : List Effect) : List Effect :=
  if effs.any (fun e => match e with
      | .poleStandby (some _) => true
      | _ => false) then
    effs.map fun e => match e with
      | .poleStandby (some x) => .poleStandby (some (x.1, x.2.1, msg))
      | f => f
  else effs ++ [.respond r false status msg]

/-- The staged unit of a transaction that has run, with what applies where VHOLD refuses its pages. -/
def TxnRun.unit (t : TxnRun) (key : Nat) (r : Requester) (echo : Bool) (es : List LEntry) (more heldMore : List Effect) : Staged :=
  let st := overall t.results
  { key := key, need := .txn
    effs := settleResponse r st (response 2 st r.tag echo t.results) (t.effs ++ more)
    recs := t.recs, cells := t.cells, pairs := t.pairs
    held := heldMore ++ [.respond r false stINKWELL_LOW_HOLD (response 2 stINKWELL_LOW_HOLD r.tag echo (heldResults es t.results))]
    busy := [], altRecs := t.recs.filter (·.stream == 1), altCells := [] }

/-- The state after a transaction has drawn entropy and free values on its private copy. -/
def State.drawn (s : State) (t : TxnRun) : State :=
  { s with sys := { s.sys with entropyTaken := t.s.sys.entropyTaken, free := t.s.sys.free } }

/-- The admin security records of a protected transaction that application refuses: every entry at fault, an ordinary one that
would be clamped among them (R106, R110).
DEDUCED, log entry 48, unsafe. -/
def State.wholeRecs (s : State) (r : Requester) (es : List LEntry) (rs : List EntryResult) : List NewRec :=
  ((es.zip rs).filter fun x => x.1.write && x.2.status != stOK && x.2.status != stPENDING).map fun x => s.adminRec r x.1.key x.1.val

/-- The admin security records of the protected writes of a transaction that its requester may not make (R290, R443). -/
def State.barredRecs (s : State) (r : Requester) (es : List LEntry) : List NewRec :=
  (es.filter LEntry.protected).map fun e => s.adminRec r e.key e.val

/-- The admin record of an authentication that was not counted, or of a proposal that a missing block refused (R22, R296, R443).
DEDUCED, log entry 16, safe. -/
def State.authRec (s : State) (reason principal : Nat) : NewRec :=
  ⟨1, 0x13, s.stamp, 0x80, zeros 8 ++ beBytes 1 reason ++ beBytes 1 principal⟩

/-- The admin security records a run of the entries left: refused security-object writes, write-mask and class refusals
(R102, R106, R443). -/
def TxnRun.adminRecs (t : TxnRun) : List NewRec := t.recs.filter (·.stream == 1)

/-- A protected transaction refused or clamped in any entry is refused whole (R110). -/
def TxnRun.bad (t : TxnRun) : Bool := t.results.any fun x => x.status != stOK && x.status != stPENDING

/-- A protected transaction refused whole with a status, and the admin records that name why. -/
def State.refuseWhole (s : State) (key : Nat) (r : Requester) (echo : Bool) (rs : List EntryResult) (status : Nat)
    (more : List Effect) (recs : List NewRec) : State :=
  s.stage (plainUnit key (more ++ [.respond r false status (response 2 status r.tag echo (refusedWhole rs))]) recs)

/-- A protected transaction applied as countersigned at this Commit, its own in-flight entry at `pos` (R110, R290).
DEDUCED, log entry 47, unsafe. -/
def State.applyProtected (s : State) (key : Nat) (r : Requester) (echo : Bool) (es : List LEntry) (pos : Nat) (e : Inflight)
    (inst : Nat) (free : List Effect) : State :=
  let s1 := s.stage (plainUnit key [.inflight pos e] [])
  let t := s1.runEntries r true echo inst es
  if t.bad then
    s.refuseWhole key r echo t.results stDENIED (free ++ (if free = [] then [] else [.inflight pos (s.closed e 6 stDENIED)]))
      (s.wholeRecs r es t.results)
  else
    let u := t.unit key r echo es (.inflight pos (s.closed { e with phase := e.phases } 2 stOK) :: free)
      (free ++ (if free = [] then [] else [.inflight pos (s.closed e 6 stINKWELL_LOW_HOLD)]))
    (s.drawn t).stage { u with effs := .inflight pos e :: u.effs }

/-- A protected transaction: applied at once in the OPEN state by classes 0 and 4, else held as a proposal (R110, R290,
R291). None where the entropy block has too few bytes left.
DEDUCED, log entry 47, unsafe.
DEDUCED, log entry 49, unsafe.
DEDUCED, log entry 110, unsafe. -/
def State.submit (s : State) (key : Nat) (r : Requester) (echo : Bool) (body : Bytes) (es : List LEntry) : Option State :=
  let dry := s.runEntries r true echo 0 es
  let refuse (rs : List EntryResult) (st : Nat) (recs : List NewRec) : Option State :=
    some (s.refuseWhole key r echo rs st [] recs)
  if dry.results.any (·.status == stOVERRUN) then none
  else if dry.bad then refuse dry.results (if s.holdBlocks then stBUSY else stDENIED) dry.adminRecs
  else if !s.isSealed then
    if r.cls = 0 ∨ r.cls = 4 then
      match s.inflightSlot with
      | none => refuse (answeredAll es stBUSY) stBUSY []
      | some pos => some (s.applyProtected key r echo es pos (s.newEntry 3 Config.proposalPhases 0 0 r) 0 [])
    else refuse (answeredAll es stDENIED) stDENIED (s.barredRecs r es)
  else
    let props := s.proposalsNow
    match (List.range 8).find? (fun n => !props.any (·.slot == n)), s.inflightSlot with
    | some slot, some pos =>
      if !s.quill.drbgOk then refuse (answeredAll es stDENIED) stDENIED [s.authRec 0x0E 0xFF]
      else if 2 ^ 48 - 1 ≤ s.tallyNow 9 then refuse (answeredAll es stDENIED) stDENIED [s.authRec 0x07 0xFF]
      else (s.takeEntropy 16).map fun x =>
        let total := s.tallyNow 9 + 1
        let num := total % 2 ^ 16
        let p : Proposal := ⟨slot, num, 1, 0xFF, 0, r, changeDigest num es.length body, x.1,
          s.sys.stroke + s.secStrokes (s.num 0x680003), es.length, echo, body, pos⟩
        let msg := ledgerMsg 3 stNEEDS_COUNTERSIGN r.tag 0 (b2n echo) (zeros 10 ++ beBytes 2 num ++ p.digest)
        x.2.stage
          { key := key, need := .txn
            effs := [.inflight pos (s.newEntry 3 Config.proposalPhases num 0 r), .proposal p, .respond r true stNEEDS_COUNTERSIGN msg]
            recs := [], cells := [.tally 9 total], pairs := []
            held := [.respond r false stINKWELL_LOW_HOLD (response 2 stINKWELL_LOW_HOLD r.tag echo
              (answeredAll es stINKWELL_LOW_HOLD))]
            busy := [], altRecs := [], altCells := [] }
    | _, _ => refuse (answeredAll es stBUSY) stBUSY []

/-- A transaction as a unit under a Gather key; `relay` is PROTECTED of a relayed one. None: it needs more entropy than the
block has left (R38, R107, R110, R441). -/
def State.transact (s : State) (key : Nat) (r : Requester) (echo : Bool) (body : Bytes) (es : List LEntry) : Option State :=
  let ordinary :=
    let t := s.runEntries r false echo 0 es
    if t.results.any (·.status == stOVERRUN) then none else some ((s.drawn t).stage (t.unit key r echo es [] []))
  if es.any LEntry.protected then
    match r.via with
    | .relay 0 => ordinary
    | .relay _ => match s.inflightSlot with
      | none => some (s.refuseWhole key r echo (answeredAll es stBUSY) stBUSY [] [])
      | some pos => some (s.applyProtected key r echo es pos (s.newEntry 3 Config.proposalPhases 0 0 r) 0 [])
    | _ => s.submit key r echo body es
  else ordinary

/-! ## Requesters and requests (R100, R120-R122, R441) -/

/-- The requester of a gathered request, from its item. -/
def Item.requester (i : Item) : Requester :=
  let tag := beNat (slice i.val 2 2)
  let via : Via := match i.aux with
    | [_, 0, page, ring, pos, gen, addr, cap] => .ring page ring pos gen addr cap
    | [_, 1, ctrl, fmt] => .can ctrl fmt
    | [_, 2, node] => .ridge node
    | [_, 4, prot] => .relay prot
    | _ => .none
  let c := keyRequester (i.cls * 2 ^ 24 + i.idx * 2 ^ 16)
  ⟨c.1, c.2, via, tag⟩

/-- The unit of a Ledger request under a Gather key: discarded, ignored, answered DENIED, or run (R107, R119, R146).
DEDUCED, log entry 44, unsafe. -/
def State.ledgerUnit (s : State) (key : Nat) (i : Item) (more : List Effect) : State :=
  let r := i.requester
  let s1 := if more = [] then s else s.stage (plainUnit key more [])
  match parseRequest i.val with
  | .discard => s1.countObj 0x730004 1
  | .ignored => s1
  | .malformed => s1.stage (plainUnit key [.respond r false stDENIED (response 2 stDENIED r.tag false [])] [])
  | .request echo body es =>
    let short := match r.via with
      | .ring _ _ _ _ _ cap => decide (cap < longestResponse echo es)
      | _ => false
    match r.via, short with
    | .ring page ring pos gen _ _, true => s1.stage (plainUnit key [.complete page ring pos gen stDENIED 0] [])
    | _, _ => match s1.transact key r echo body es with
      | some s2 => s2
      | none => s1.cancelItem i

/-- A Ledger request among the gathered items. -/
def Item.isRequest (i : Item) : Bool := i.aux.head? == some 4

/-- LEDGER_TRANSACTION: the first gathered request in key order runs as one unit. -/
def execLedgerTransaction (s : State) : Out :=
  match s.gathered.find? Item.isRequest with
  | some i => if s.working then .next ((s.consume i).ledgerUnit i.key i []) else .next s
  | none => .next s

/-- TRANSACTION_DEFERRED: a transaction whose pages did not fit is tried again in this stroke's group, ahead of its own units
(R109).
DEDUCED, log entry 51, unsafe. -/
def execTransactionDeferred (s : State) : Out :=
  match s.deferred with
  | u :: rest => if s.working then .next { s with deferred := rest, staged := { u with key := 0 } :: s.staged } else .next s
  | [] => .next s

/-! ## Writes as commands -/

/-- The item of a request with given entries from a requester. -/
def requestItem (r : Requester) (es : List LEntry) : Item :=
  let body := es.flatMap fun e => beBytes 1 (if e.write then 2 else 1) ++ beBytes 3 e.key ++ beBytes 1 e.val.length ++ e.val
  let aux : List Nat := match r.via with
    | .none => [4]
    | .ring page ring pos gen addr cap => [4, 0, page, ring, pos, gen, addr, cap]
    | .can ctrl fmt => [4, 1, ctrl, fmt]
    | .ridge node => [4, 2, node]
    | .relay prot => [4, 4, prot]
  let src := match r.cls with
    | 0 => (0x0D, 64)
    | 1 => (0x0D, r.idx)
    | 2 => (0x0C, r.idx)
    | 3 => (0x0B, r.idx)
    | _ => (0x01, 0)
  ⟨src.1, src.2, 0, ledgerMsg 1 0 r.tag es.length 0 body, aux⟩

/-- A transaction of one write. -/
def State.writeNow (s : State) (r : Requester) (key : Nat) (v : Bytes) : State :=
  let i := requestItem r [⟨true, key, v.take 240⟩]
  s.ledgerUnit i.key i []

/-- A write as the command that names it: in Work, as one unit (R107). -/
def execWrite (r : Requester) (key : Nat) (v : Bytes) (s : State) : Out :=
  if s.working then .next (s.writeNow r key v) else .next s

/-- A countersigned write as the command that names it: applied as R110 applies a proposal. -/
def execCountersigned (r : Requester) (writes : List (Nat × Bytes)) (s : State) : Out :=
  let es := writes.map fun w => (⟨true, w.1, w.2.take 240⟩ : LEntry)
  let key := (requestItem r es).key
  if !s.working then .next s
  else match s.inflightSlot with
    | none => .next (s.refuseWhole key r false (answeredAll es stBUSY) stBUSY [] [])
    | some pos => .next (s.applyProtected key r false es pos (s.newEntry 3 Config.proposalPhases 0 0 r) 0 [])

end Sys2Proof.Machine
end

