-- ==== Sys2Proof/Machine/Approval.lean ====
section
/-!
DEFINITION. Approval.lean: authentications counted or failed, proposals applied, refused and expired, and the decision of
every kind of exchange (R274, R293-R296).
-/

namespace Sys2Proof.Machine

/-! ## Proposals that end (R110, R295, R296) -/

/-- The entries a proposal holds. -/
def Proposal.entries (p : Proposal) : List LEntry := (entriesOf 64 p.body).getD []

/-- A held proposal refused or discarded with DENIED: its entry, its slot, the final response to its requester. -/
def State.discardProposal (s : State) (p : Proposal) : List Effect :=
  s.proposalRefused p stDENIED ++
    [.respond p.req false stDENIED (response 2 stDENIED p.req.tag p.echo (answeredAll p.entries stDENIED))]

/-- A proposal applied in this stroke, under the key of the unit that completes it (R110). -/
def State.applyProposal (s : State) (key : Nat) (p : Proposal) : State :=
  s.applyProtected key p.req p.echo p.entries p.pos (s.inflightAt p.pos) p.num [.proposalFree p.slot]

/-- An authentication failed: FAILS and CS_FAILURES rise, the third failure discards the proposal (R296). -/
def State.failAuth (s : State) (key : Nat) (p : Proposal) (recs : List NewRec) : State :=
  let fails := p.fails + 1
  let effs := if fails < 3 then [Effect.proposal { p with fails := fails }] else s.discardProposal { p with fails := fails }
  s.stage { plainUnit key effs recs with cells := [.tally 10 (min (2 ^ 48 - 1) (s.tallyNow 10 + 1))] }

/-- An authentication counted: the first sets STATE 2, FIRST and CLOSES; one more by the same principal is ignored; a second by
another no later than CLOSES applies the proposal, if both are members still (R295). -/
def State.countAuth (s : State) (key : Nat) (p : Proposal) (principal : Nat) : State :=
  if p.state = 1 then
    s.stage (plainUnit key [.proposal { p with state := 2, first := principal, closes := s.sys.stroke + s.secStrokes 30 }] [])
  else if p.first = principal then s
  else if p.closes < s.sys.stroke then s
  else if s.isMember p.first && s.isMember principal then s.applyProposal key p
  else s.stage (plainUnit key (s.discardProposal p) [])

/-! ## Host principals (R293, R295) -/

/-- A completion of queue 3 that carries a Countersign verification: its proposal number and its principal. -/
def Item.authentication (i : Item) : Option (Nat × Nat) :=
  if i.cls = 5 then
    match i.aux with
    | 100 :: 3 :: num :: p :: _ => some (num, p)
    | _ => none
  else none

/-- The unit of such a completion: counted where the MAC matches, failed where it does not; where the verification did not run
the record alone says so.
DEDUCED, log entry 107, unsafe. -/
def State.authenticate (s : State) (i : Item) (num principal : Nat) : State :=
  match s.proposalsNow.find? (·.num == num) with
  | none => s
  | some p =>
    if byteAt i.val 0 = stOK ∧ byteAt i.val 1 = 0 then s.countAuth i.key p principal
    else if byteAt i.val 0 = stOK then s.failAuth i.key p [s.authRec 0x05 principal]
    else s.stage (plainUnit i.key [] [s.authRec 0x0E principal])

/-- AUTHENTICATION: the first gathered verification in key order. -/
def execAuthentication (s : State) : Out :=
  if !s.working then .next s
  else match s.gathered.find? fun i => i.authentication.isSome with
    | none => .next s
    | some i => match i.authentication with
      | some (num, p) => .next ((s.consume i).authenticate i num p)
      | none => .next s

/-- PROPOSAL_EXPIRY: at the Commit of stroke CLOSES a proposal that is still held is discarded (R295).
DEDUCED, log entry 19, unsafe. -/
def execProposalExpiry (num : Nat) (s : State) : Out :=
  match s.proposalsNow.find? (·.num == num) with
  | some p =>
    if s.working && decide (p.closes ≤ s.sys.stroke) then .next (s.stage (plainUnit 0x0E000000 (s.discardProposal p) []))
    else .next s
  | none => .next s

/-! ## Countersign exchanges (R294) -/

/-- What the conditions of R294 find of a countersign exchange: the reason it is not counted, 0 for one that is; whether it
fails; whether MAC and counter were accepted.
DEDUCED, log entry 107, unsafe. -/
def State.judgeCountersign (s : State) (x : Exchange) (held : Bool) : Verdict :=
  let no (r : Nat) (f : Bool) : Verdict := ⟨r, 0, f, false⟩
  if s.quill.state != 0 || !x.entropyOk || x.missed || x.abandoned then no 0x0E false
  else match x.answer, x.mac with
    | none, _ => no 0x03 false
    | some _, none => no 0x0E false
    | some p, some (status, tag) =>
      let stored := s.rolling x.slot s.epochTag
      if s.tokenState x.slot ≠ 1 then no 0x04 true
      else if x.gen ≠ s.epoch % 2 ^ 32 ∨ status = stKEY_STALE then no 0x08 false
      else if status = stNO_SUCH_OBJECT then no 0x04 true
      else if status ≠ stOK then no 0x0E false
      else if tag ≠ 0 then no 0x05 true
      else if 2 ^ 32 - 1 ≤ stored then no 0x07 true
      else if !ctrAccepted stored (answerCtr p) then no 0x06 true
      else
        let v (r : Nat) (f : Bool) : Verdict := ⟨r, 0, f, true⟩
        if s.tokenRole x.slot ≠ 2 then v 0x0C true
        else if !s.inWindow x.slot then v 0x0D true
        else if !held then v 0x0E true
        else v 0 false

/-- The decision of a countersign exchange: its record, the counter's advance, and its authentication (R266, R294-R296).
DEDUCED, log entry 108, unsafe. -/
def State.decideCountersign (s : State) (x : Exchange) : State :=
  let prop := s.proposalsNow.find? (·.num == x.proposal)
  let v := s.judgeCountersign x prop.isSome
  let adv := if v.accepted then s.advance x.slot (x.answer.elim 0 answerCtr) else ([], [], [])
  let after := if v.accepted then min (x.answer.elim 0 answerCtr) (2 ^ 32 - 1)
    else if x.slot < 64 then s.rolling x.slot s.epochTag else 0
  let again := prop.elim false fun p => p.state == 2 && p.first == x.slot
  let outcome := if v.reason = 0 ∧ !again then 1 else 3
  let s1 := s.stage { plainUnit 0x0E000000 (.exchange none :: adv.2.1)
    (s.decisionRecs x outcome 0 v.reason after (if x.slot < 64 then x.slot else 0xFF) (zeros 8) ++ adv.2.2) with cells := adv.1 }
  match prop with
  | none =>
    if v.failure then
      s1.stage { plainUnit 0x0E000000 [] [] with cells := [.tally 10 (min (2 ^ 48 - 1) (s1.tallyNow 10 + 1))] }
    else s1
  | some p =>
    if v.reason = 0 then s1.countAuth 0x0E000000 p x.slot
    else if v.failure then s1.failAuth 0x0E000000 p []
    else s1

/-! ## The decision (R274, R275, R294) -/

/-- An exchange whose request was closed before its decision, by an ignition-off or a Feed latch-off, decides as an abandoned
one (R26, R342).
DEDUCED, log entry 114, unsafe. -/
def State.orphaned (s : State) (x : Exchange) : Exchange :=
  match x.pos with
  | some p => if (s.inflightAt p).isOpen then x else { x with pos := none, abandoned := true }
  | none => x

/-- An exchange that a core reset abandoned: it completes with DENIED, writes no rolling counter and counts no failure; the
configuration it started with is gone (R84).
DEDUCED, log entry 114, unsafe. -/
def State.decideLost (s : State) (x : Exchange) : State :=
  let e := accessEvent 3 0 x.origin
  s.stage (plainUnit 0x0E000000 [.exchange none, .obj 0x2C0101 e, .event [0x2C0101] 7] [])

/-- The decision unit of an exchange by its kind. -/
def State.decideNow (s : State) (x : Exchange) : State :=
  if x.config = [] then s.decideLost x
  else if x.kind = 4 then s.decideCountersign x
  else s.stage (s.decideUnit (s.orphaned x))

/-- DECISION: at stroke r + 6 the exchange is decided, whatever its outcome. -/
def execDecision (s : State) : Out :=
  match s.exchangeNow with
  | some x =>
    match x.due with
    | some d => if s.working && d.ble s.sys.stroke then .next (s.decideNow x) else .next s
    | none => .next s
  | none => .next s

end Sys2Proof.Machine
end

