-- ==== Sys2Proof/Machine/Writes.lean ====
section
/-!
DEFINITION. Writes.lean: the writes that are commands of their own, each a transaction of that one write by a requester, or, for a
countersigned object, the application of a countersigned change.
-/

namespace Sys2Proof.Machine

/-- A write of DOMAIN_ENABLE (R74). -/
def execDomainEnable (r : Requester) (v : Bytes) (s : State) : Out := execWrite r (0x120004) v s

/-- A write of SUBSYSTEM_RESET (R86). -/
def execSubsystemReset (r : Requester) (v : Bytes) (s : State) : Out := execWrite r (0x120006) v s

/-- A write of STANDBY_REQUEST (R91). -/
def execStandbyRequest (r : Requester) (v : Bytes) (s : State) : Out := execWrite r (0x120007) v s

/-- A write of TENANT_ENABLE (R153). -/
def execTenantEnable (r : Requester) (v : Bytes) (s : State) : Out := execWrite r (0x3A0001) v s

/-- A write of GRANULE_OWNER of granule `n` (R147). -/
def execGranuleOwnerChange (r : Requester) (n : Nat) (v : Bytes) (s : State) : Out := execWrite r (0x3A1201 + n % 96) v s

/-- A write of KEY_LOAD (R191). -/
def execKeyLoad (r : Requester) (v : Bytes) (s : State) : Out := execWrite r (0x381001) v s

/-- A countersigned write of KEY_LOAD_PROTECTED is applied (R191). -/
def execKeyLoadProtected (r : Requester) (v : Bytes) (s : State) : Out := execCountersigned r [(0x381003, v)] s

/-- A write of KEY_ERASE (R193). -/
def execKeyErase (r : Requester) (v : Bytes) (s : State) : Out := execWrite r (0x381002) v s

/-- A write of LF_CHANNEL_CLEAR of channel `n` (R223). -/
def execLfChannelClear (r : Requester) (n : Nat) (v : Bytes) (s : State) : Out := execWrite r (0x200C01 + n % 8) v s

/-- A write of START_REQUEST (R259). -/
def execStartRequest (r : Requester) (v : Bytes) (s : State) : Out := execWrite r (0x2C0201) v s

/-- A countersigned write of LOCKOUT_CLEAR is applied (R282). -/
def execLockoutClear (r : Requester) (v : Bytes) (s : State) : Out := execCountersigned r [(0x340005, v)] s

/-- A write of LEARN_RECORD of slot `n` (R300). -/
def execLearnRecord (r : Requester) (n : Nat) (v : Bytes) (s : State) : Out := execWrite r (0x302001 + n % 64) v s

/-- A write of LEARN_RECORD_CLEAR (R300). -/
def execLearnRecordClear (r : Requester) (v : Bytes) (s : State) : Out := execWrite r (0x301004) v s

/-- A countersigned write of LEARN_START is applied (R301). -/
def execLearnStart (r : Requester) (v : Bytes) (s : State) : Out := execCountersigned r [(0x301001, v)] s

/-- A write of CS_AUTH (R293). -/
def execCsAuth (r : Requester) (v : Bytes) (s : State) : Out := execWrite r (0x681001) v s

/-- A write of CS_TOKEN_AUTH (R294). -/
def execCsTokenAuth (r : Requester) (v : Bytes) (s : State) : Out := execWrite r (0x681002) v s

/-- A write of PROTECTION_SEAL (R290). -/
def execProtectionSeal (r : Requester) (v : Bytes) (s : State) : Out := execWrite r (0x680004) v s

/-- A countersigned write of DEBUG_UNLOCK is applied (R298). -/
def execDebugUnlock (r : Requester) (v : Bytes) (s : State) : Out := execCountersigned r [(0x680005, v)] s

/-- A write of COMMISSION_START (R307). -/
def execCommissionStart (r : Requester) (v : Bytes) (s : State) : Out := execWrite r (0x2C2001) v s

/-- A write of FEED_FAULT_CLEAR (R326). -/
def execFeedFaultClear (r : Requester) (v : Bytes) (s : State) : Out := execWrite r (0x480004) v s

/-- A write of IGNITION_OFF (R345). -/
def execIgnitionOff (r : Requester) (v : Bytes) (s : State) : Out := execWrite r (0x482001) v s

/-- A write of RIDGE_ISOLATE (R405). -/
def execRidgeIsolate (r : Requester) (v : Bytes) (s : State) : Out := execWrite r (0x50000C) v s

/-- A write of RIDGE_REQUEST (R397). -/
def execRidgeRequest (r : Requester) (v : Bytes) (s : State) : Out := execWrite r (0x50000B) v s

/-- A write of RIDGE_GUARD_CLEAR (R403). -/
def execRidgeGuardClear (r : Requester) (v : Bytes) (s : State) : Out := execWrite r (0x50000D) v s

/-- A write of CAN_RECOVER of controller `n` (R417). -/
def execCanRecover (r : Requester) (n : Nat) (v : Bytes) (s : State) : Out := execWrite r (0x58000E + n % 2 * 0x1000) v s

/-- A write of POLE_RELAY of slave `n` (R441). -/
def execPoleRelay (r : Requester) (n : Nat) (v : Bytes) (s : State) : Out := execWrite r (0x601000 + (1 + (n + 6) % 7)) v s

/-- A countersigned write of POLE_RELAY_PROTECTED of slave `n` is applied (R441). -/
def execPoleRelayProtected (r : Requester) (n : Nat) (v : Bytes) (s : State) : Out := execCountersigned r [(0x601100 + (1 + (n + 6) % 7), v)] s

/-- A write of FOLIO_ACK (R460). -/
def execFolioAck (r : Requester) (v : Bytes) (s : State) : Out := execWrite r (0x440004) v s

/-- A write of FOLIO_NOTE of stream `n` (R463). -/
def execFolioNote (r : Requester) (n : Nat) (v : Bytes) (s : State) : Out := execWrite r (0x440901 + (n + 2) % 3) v s

/-- A countersigned write of IMAGE_ACTIVATE is applied (R473). -/
def execImageActivate (r : Requester) (v : Bytes) (s : State) : Out := execCountersigned r [(0x102001, v)] s

/-- Countersigned writes of ring quotas, each of an owner (64 the global page) and its new value (R152). -/
def execRingQuota (r : Requester) (quotas : List (Nat × Nat)) (s : State) : Out :=
  execCountersigned r ((quotas.take 64).map fun q => (0x6A0001 + q.1 % 65, beBytes 1 q.2)) s

end Sys2Proof.Machine
end

