-- ==== Sys2Proof/Machine/Domains.lean ====
section
/-!
DEFINITION. Domains.lean: power domains switched off, reset by subsystem, switched on and ready, and what each block loses and
takes up again (R73-R75, R86, R147, R231, R320, R379, R418, R432).
-/

namespace Sys2Proof.Machine

/-! ## What a domain loses -/

/-- PD3 off or reset: the pool is zero, every ring disabled, held Quill completions and event buffers gone (R147). -/
def State.poolDown (s : State) : State :=
  { s with
    mem := []
    host := { s.host with
      rings := s.host.rings.map fun r => { r with active := false, draining := false, taken := [], hostIdx := 0, devIdx := 0 }
      events := [] }
    quill := { s.quill with held := [] } }

/-- PD5 off or reset: operations in flight and waiting internal requests complete with a status; a quarantine keeps its cause
(R86, R205). -/
def State.quillDown (s : State) (status : Nat) : State :=
  let s := s.abortLanes (fun _ => true) status
  let s := s.quill.queue.foldl (fun s r => s.intComplete r status 0 0 []) s
  { s with quill := { s.quill with state := 2, queue := [], lanes := [], drbgOk := false } }

/-- A Lantern bank off or reset: a cradle exchange on it is aborted, a burst of another activity that it drives ends ABORTED,
later ones stay to be judged at their time; its channels lose faults and latch, its duty stays with the checker (R86, R219,
R223, R232).
DEDUCED, log entry 80, unsafe. -/
def State.lfBankDown (s : State) (bank : Nat) : State :=
  let mine (b : Burst) : Bool := b.chan / 32 == s.sys.cascId && b.chan % 8 / 4 == bank
  let s : State := match s.lf.running with
    | none => s
    | some run =>
      if run.sched.kind = 2 then (if run.bursts.any mine then s.lfAbortNow else s)
      else
        let cut := (burstsNow run.bursts).filter mine
        let left := run.bursts.filter fun b => !cut.contains b
        let t := cut.foldl (fun t b => t.lfCut run b true) { s with lf := { s.lf with running := some { run with bursts := left } } }
        if left = [] then t.lfEnd else t
  { s with lf := { s.lf with chans := s.lf.chans.map fun c =>
      if c.1 / 4 = bank then (c.1, ⟨0, 0, false, false, false, false, false, c.2.dutyUs⟩) else c } }

/-- PD8 off or reset: lists and activities aborted, the key port zeroed, the radio off (R231, R86). -/
def State.uhfDown (s : State) : State :=
  let s := s.radioAbortNow
  { s with radio := { s.radio with uhf := 0, next := none, txen := false, rxen := false } }

/-- PD9 off or reset: its activity aborted, the key port zeroed (R231).
DEDUCED, log entry 87, unsafe. -/
def State.uwbDown (s : State) : State :=
  let s : State := match alookup 1 s.radio.act with
    | none => s
    | some a =>
      let s := s.offerEvent 9 (32 * s.sys.cascId) (uwbItem 1 a.entry (a.flags + 32) (if a.what.action = 3 then 0 else 1) 0 [] 0 0) 99 0 0
      s.actClose 1
  { s with radio := { s.radio with uwb := 0, keyPort := none } }

/-- PD10 off or reset: transmit descriptors complete, with BUSY where their frame was not sent, and reassemblies, queues and a
block on its way are gone (R86, R379, R392). -/
def State.ridgeDown (s : State) : State :=
  let t := s.stamp
  let s := s.ridgeComplete t
  let s := s.ridge.next.foldl (fun s f => match f.src with
    | some (p, n, pos, gen) => s.completeDesc p n pos gen false stBUSY 0 t
    | none => s) s
  { s.ridgePowerDown with reasm := s.reasm.filter (fun r => decide (256 ≤ r.src)), folio := { s.folio with sending := none } }

/-- A domain reset, `off` where its power goes too (R73, R86). -/
def State.domainDown (s : State) (n : Nat) (off : Bool) : State :=
  match n with
  | 3 => s.poolDown
  | 5 => s.quillDown stBUSY
  | 6 => s.lfBankDown 0
  | 7 => s.lfBankDown 1
  | 8 => s.uhfDown
  | 9 => s.uwbDown
  | 10 => s.ridgeDown
  | 11 => s.canPowerDown
  | 12 => if off then s.feedPowerDown else s.feedReset
  | 13 => s.polePowerDown
  | _ => s

/-! ## Subsystem reset (R86) -/

/-- The domains of a subsystem code (R86). -/
def subsystemDomains (code : Nat) : List Nat :=
  match code with
  | 1 => [6]
  | 2 => [7]
  | 3 => [8, 9]
  | 4 => [10]
  | 5 => [11]
  | 6 => [13]
  | 7 => [5]
  | 8 => [12]
  | _ => []

/-- Strokes from the Commit that switches a domain on to the first in which it takes part (R74). -/
def domainStrokes (n : Nat) : Nat := if n = 5 then 3 else if n = 9 ∨ n = 12 then 2 else 1

/-- A domain powered but not ready, taking part again from the stroke R74 gives.
DEDUCED, log entry 41, unsafe. -/
def State.rise (s : State) (n : Nat) : State :=
  { s with sys := { s.sys with
    domains := setBit s.sys.domains n true
    rising := s.sys.rising.filter (·.1 != n) ++ [(n, s.sys.stroke + domainStrokes n)] } }

/-- A subsystem reset at its Commit: its domains are reset and, where they are on, rise again; the in-flight entries that are its
own receive their dispositions at the next Gather (R86, R113).
DEDUCED, log entry 42, unsafe. -/
def State.subsystemNow (s : State) (code : Nat) : State :=
  let s := (subsystemDomains code).foldl (fun s n =>
    if s.domOn n then
      let s := s.domainDown n false
      if n = 12 then s else s.rise n
    else s) s
  if code = 7 then s.offer 1 0 [BitVec.ofNat 8 code] [7, code] else s

/-! ## DOMAIN_ENABLE (R74) -/

/-- A domain switched off. -/
def State.domainOff (s : State) (n : Nat) : State :=
  let s := s.domainDown n true
  { s with sys := { s.sys with
    domains := setBit s.sys.domains n false
    rising := s.sys.rising.filter (·.1 != n), powerUp := s.sys.powerUp.filter (· != n) } }

/-- The domains a program may switch, in the order of R75. -/
def powerOrder : List Nat := [3, 5, 12, 13, 10, 11, 6, 7, 8, 9]

/-- DOMAIN_ENABLE in force: domains off that it leaves out, domains on that it names (R74); one still to be switched on in the
order of R75 waits for its turn.
DEDUCED, log entry 42, unsafe. -/
def State.domainsNow (s : State) (v : Nat) : State :=
  powerOrder.foldl (fun s n =>
    if s.domOn n && !v.testBit n then s.domainOff n
    else if !v.testBit n then { s with sys := { s.sys with powerUp := s.sys.powerUp.filter (· != n) } }
    else if v.testBit n && !s.domOn n && !s.sys.powerUp.contains n then s.rise n
    else s) s

/-- The order of R75 carried on: one enabled domain is switched on at each Commit. -/
def State.powerUpStep (s : State) : State :=
  match s.sys.powerUp with
  | [] => s
  | n :: rest => { s with sys := { s.sys with powerUp := rest } }.rise n

/-! ## DOMAIN_READY (R74) -/

/-- A domain that has powered up takes part, configured from the committed Ledger; `pass` is the outcome of Quill's
known-answer and start-up health tests (R74, R187, R202). -/
def State.domainUp (s : State) (n : Nat) (pass : Bool) : State :=
  let s := { s with sys := { s.sys with rising := s.sys.rising.filter (·.1 != n) } }
  match n with
  | 5 => s.quillStart pass
  | 8 => { s with radio := { s.radio with uhf := 1 } }
  | 9 => { s with radio := { s.radio with uwb := 1 } }
  | 10 => s.ridgePowerUp
  | 11 => s.canPowerUp
  | 12 => s.feedPowerUp
  | _ => s

/-- DOMAIN_READY: domain `n` has finished powering up. -/
def execDomainReady (n : Nat) (pass : Bool) (s : State) : Out :=
  if s.sys.rising.any (·.1 == n) then .next (s.domainUp n pass) else .next s

end Sys2Proof.Machine
end

