-- ==== Sys2Proof/Machine/Boundary.lean ====
section
/-!
DEFINITION. Boundary.lean: STROKE_BOUNDARY: the staged results of a stroke applied together, responses and events released, the
state faults, the boundary correction, standby entry, and the boundaries of dark strokes (R29-R32, R44, R88, R89, R92, R123, R124, R483).
-/

namespace Sys2Proof.Machine

/-! ## Responses and events (R123, R124, R144, R146) -/

/-- A response released on its requester's transport at the boundary that applies it; a buffer its owner no longer holds takes no
bytes and the descriptor completes with NO_SUCH_OBJECT (R123, R147). -/
def State.respondNow (s : State) (t : Stamp) (r : Requester) (interim : Bool) (status : Nat) (msg : Bytes) : State :=
  let m := restamp msg t
  match r.via with
  | .none => s
  | .ring page ring pos gen addr cap =>
    let g := s.ring page ring
    if !(g.active && g.gen == gen && g.taken.contains pos) then s
    else if cap < m.length then s.completeDesc page ring pos gen interim status 0 t
    else if s.ownsRun page addr m.length then (s.bufWrite page addr m).completeDesc page ring pos gen interim status m.length t
    else s.completeDesc page ring pos gen false stNO_SUCH_OBJECT 0 t
  | .can ctrl fmt => s.canQueue ctrl false fmt m
  | .ridge node => s.ridgeSend node m
  | .relay _ => if interim then s else s.sendUp 0x46 m

/-- An event message with the values as this boundary leaves them (R117, R124). -/
def State.eventMsg (s : State) (t : Stamp) (count : Nat) (keys : List Nat) : Bytes :=
  let v := s.look
  ledgerMsg 4 stOK (count % 2 ^ 16) keys.length 0 (stampBytes t ++ keys.flatMap fun k =>
    let b := (v.read k).getD []
    [0] ++ beBytes 3 k ++ beBytes 1 b.length ++ b)

/-- Objects published on the transports named: bit 0 the global page, bit 1 CAN FD, bit 2 Ridgeline (R124).
DEDUCED, log entry 50, unsafe. -/
def State.publish (s : State) (t : Stamp) (keys : List Nat) (ports : Nat) : State :=
  let s := if ports.testBit 0 then
      let s : State := { s with evGlobal := (s.evGlobal + 1) % 2 ^ 16 }
      s.hostEvent (s.eventMsg t s.evGlobal keys) t
    else s
  let s := if ports.testBit 1 then
      let s : State := { s with evCan := (s.evCan + 1) % 2 ^ 16 }
      let m := s.eventMsg t s.evCan keys
      [0, 1].foldl (fun (s : State) k =>
        if s.domReady 11 && s.canObj k 1 != 0 then s.canQueue k false (s.canEventFmt k) m else s) s
    else s
  if ports.testBit 2 then
    let s : State := { s with evRidge := (s.evRidge + 1) % 2 ^ 16 }
    if s.ridge.state = 0 then s else s.ridgeSend 0xFF (s.eventMsg t s.evRidge keys)
  else s

/-! ## Effects (R44) -/

/-- A proposal put into its slot. -/
def State.putProposal (s : State) (p : Proposal) : State :=
  { s with people := { s.people with proposals := (s.people.proposals.filter (·.slot != p.slot)) ++ [p] } }

/-- The active bank judged again under LEARN_EPOCH in force; a set found invalid is a fault (R286). Rolling counters under a new
epoch tag are counted afresh (R176, R177). -/
def State.checkSetNow (s : State) : State :=
  let ok := s.bankValid s.activeBank s.epoch
  let stuck := s.ink.stuck.filter fun n => decide (n < 64) || decide (2 ^ 32 - 1 ≤ s.rolling (n - 64) s.epochTag)
  let s1 := { s with tether := { s.tether with setValid := ok, high := [] }, ink := { s.ink with stuck := stuck } }
  if s.tether.setValid && !ok then (s1.recordFault 0x18 0).later (s1.recEvent 1 0x18 0) else s1

/-- An in-flight entry stored; the position of one newly opened is INFLIGHT_NEWEST (R112, R114). -/
def State.putInflight (s : State) (t : Stamp) (p : Nat) (e : Inflight) : State :=
  let old := (alookup p s.inflight).getD Inflight.free
  let s1 := s.applyStore (.inflight p e)
  if e.started = t ∧ e.state = 1 ∧ (old.started ≠ t ∨ !old.isOpen) then { s1 with newest := p } else s1

/-- The Commit at which the exchange ends also ends the carrier of a cradle exchange (R222). -/
def State.putExchange (s : State) (x : Option Exchange) : State :=
  let s1 := { s with tether := { s.tether with run := x } }
  if x.isNone && s1.lf.running.elim false (fun r => r.sched.kind == 2) then s1.lfEnd else s1

/-- A schedule committed; a bank released from a VLF fault drives again with it (R97, R219). -/
def State.putSchedule (s : State) (x : LfSched) : State :=
  let wait := (List.range 2).foldl (fun v b =>
    if s.sys.vlfState.testBit b || s.sys.vlfState.testBit (b + 2) then v else setBit v b false) s.sys.vlfWait
  { s with lf := { s.lf with next := some x }, sys := { s.sys with vlfWait := wait } }

/-- One staged result applied at the boundary that ends the stroke stamped `t`. Faults and the Guy latch are applied apart, the
latch in one step and faults in the order of their codes (R88, R483); so is standby.
DEDUCED, log entry 157, unsafe. -/
def State.applyEffect (t : Stamp) (s : State) : Effect → State
  | .obj k v => s.setRaw k v
  | .count n k => s.countUp n k
  | .fault _ _ => s
  | .brk c f l => s.showBreak c f l
  | .latch _ => s
  | .clamp c => s.applyStore (.clamp c)
  | .inflight p e => s.putInflight t p e
  | .respond r interim status msg => s.respondNow t r interim status msg
  | .complete page ring pos gen status len => s.completeDesc page ring pos gen false status len t
  | .event keys ports => s.publish t keys ports
  | .subsystem code => s.subsystemNow code
  | .domains v => s.domainsNow v
  | .standby => s
  | .tenantReset n _ => ((s.quillTenantReset n).tenantResetNow n).offer 1 0 (beBytes 1 n) [8, n]
  | .tenantReady n => s.tenantReadyNow n
  | .granule g => { s with mem := Memory.clearGranule s.mem g }
  | .regrantClose pos counts => s.regrantCloseNow pos counts
  | .regrantMove => s.quillRegrant.regrantMoveNow
  | .quillQueue r =>
    if s.quillUp then { s with quill := { s.quill with queue := s.quill.queue ++ [r] } } else s.intComplete r stBUSY 0 0 []
  | .keyLoad l => { s with quill := { s.quill with loads := s.quill.loads ++ [l] } }
  | .keyStore pos key => s.keyStoreNow pos key
  | .keyDrop pos => { s with quill := { s.quill with loads := s.quill.loads.filter (·.pos != pos) } }
  | .keyErase slot _ revoke => s.keyEraseNow slot revoke
  | .keyMap slot map => s.setKeySlot slot { s.keySlot slot with map := map }
  | .keyModes slot modes => s.setKeySlot slot { s.keySlot slot with modes := modes }
  | .folioAck stream last =>
    let r := s.folioAckNow stream last
    if r.2 then r.1.publish t [0x440006] 1 else r.1
  | .folioAreas old => s.emptyMoved old
  | .exportStart e => { s with folio := { s.folio with exporting := some e } }
  | .exportEnd ok block => s.exportEndNow ok block t
  | .act a => { s with img := { s.img with act := a } }
  | .imagePending => { s with img := { s.img with pendingImg := true } }
  | .slotPages first data => s.slotPagesNow first data
  | .slotSeal p => s.slotSealNow p
  | .lfSchedule x => s.putSchedule x
  | .lfAbort => s.lfAbortNow
  | .lfClear ch => s.setLfChan ch { s.lfChan ch with latched := false, row := 0, flags := 0 }
  | .radioList l => s.listApply l
  | .radioAbort => s.radioAbortNow
  | .regReload => s.regLoad
  | .exchange x => s.putExchange x
  | .holdStart h => { s with tether := { s.tether with waiting := h } }
  | .lockWindow w => { s with tether := { s.tether with window := w } }
  | .counterHigh slot => { s with tether := { s.tether with high := s.tether.high ++ [slot] } }
  | .commission target => { s with tether := { s.tether with target := target } }
  | .proposal p => s.putProposal p
  | .proposalFree slot => { s with people := { s.people with proposals := s.people.proposals.filter (·.slot != slot) } }
  | .debugUntil u => { s with people := { s.people with debugUntil := u } }
  | .learnRecord n v => s.putImage n v
  | .learnClear => { s with people := { s.people with image := [] } }
  | .learn l => { s with people := { s.people with learn := l } }
  | .learnErase e => { s with people := { s.people with erase := e } }
  | .checkSet => s.checkSetNow
  | .feedClear => s.feedClearNow
  | .pgCount n => { s with release := { s.release with count := n } }
  | .releaseSince n => { s with release := { s.release with since := n } }
  | .ridgeActive k adopted => s.ridgeActivate k adopted
  | .ridgeGuardClear => s.guardClearNow
  | .canRecover k => s.canRecoverNow k
  | .store page addr b => s.bufWrite page addr b
  | .poleSend f => s.applyPole (.poleSend f)
  | .slaveAdmit n h e b => s.applyPole (.slaveAdmit n h e b)
  | .slaveRefuse n h r => s.applyPole (.slaveRefuse n h r)
  | .slaveState n st => s.applyPole (.slaveState n st)
  | .slaveGone n => s.applyPole (.slaveGone n)
  | .slaveRestage n b => s.applyPole (.slaveRestage n b)
  | .slaveRelay n r => s.applyPole (.slaveRelay n r)
  | .poleStandby x => s.applyPole (.poleStandby x)
  | .poleRefused r =>
    let t := s.applyPole (.poleRefused r)
    if r = 2 then [8, 9].foldl (fun (t : State) n => if t.domOn n then t.domainOff n else t) t else t
  | .poleCheck => s.applyPole .poleCheck

/-! ## The Guy latch at a boundary (R88, R89) -/

/-- RELEASED staged with FEED_EN clear and not staged (R88). -/
def State.latchWrong (s : State) (ops : List LatchOp) : Bool :=
  ops.contains .setReleased && !ops.contains .clear && !(s.feedEn || ops.contains .setFeedEn)

/-- A clear staged for the boundary at which Feed's latch-off acts takes that cause (R89). -/
def State.latchedOff (s : State) (ops : List LatchOp) : Bool :=
  ops.contains .clear && s.feed.state == 9 && (s.released || s.feedEn)

/-- The latch operations of a stroke applied, with the gate open (R26, R88-R90). -/
def State.latchNow (s : State) (ops : List LatchOp) : State :=
  let r := s.released
  let f := s.feedEn
  let want := latchAfter r f ops
  if ops = [] ∨ s.guy.gateOpen = false ∨ s.latchWrong ops ∨ want = (r, f) then s
  else if s.latchedOff ops then
    let s1 := s.setLatch false false 4
    s1.later (s1.recLatch (s1.latchByte 0) 4)
  else if ops.contains .clear then s.setLatch false false 3
  else s.setLatch want.1 want.2 (if want.1 && !r then 2 else 1)

/-- The start-lock event of an ignition-off that meets Feed's latch-off carries KIND 3 (R346). -/
def lockedByFeed : Effect → Effect
  | .obj 0x482009 v => .obj 0x482009 (if byteAt v 0 = 2 then 3 :: v.drop 1 else v)
  | e => e

/-! ## Faults (R483) -/

/-- The faults among effects, as code and DETAIL. -/
def faultsOf (effs : List Effect) : List (Nat × Nat) :=
  effs.filterMap fun e => match e with
    | .fault c d => some (c, d)
    | _ => none

/-- Faults recorded in ascending code order. -/
def State.recordFaults (s : State) (fs : List (Nat × Nat)) : State :=
  (List.range 51).foldl (fun s c => (fs.filter (·.1 == c)).foldl (fun (s : State) f => s.recordFault f.1 f.2) s) s

/-- Whether the condition of a kind S fault holds (R483, R485).
DEDUCED, log entry 159, unsafe.
DEDUCED, log entry 160, unsafe. -/
def State.faultHolds (s : State) (code : Nat) : Bool :=
  match code with
  | 0x01 => s.sys.warnSince.isSome
  | 0x07 => s.ink.refusing
  | 0x08 => s.sys.vholdState == 2
  | 0x09 => decide (0 < s.sys.blotterUf) && decide (s.sys.blotterUf < 40)
  | 0x0A => s.sys.vlfState != 0
  | 0x0C => s.sys.pllSince.isSome
  | 0x13 => s.ink.failing != [] && s.ink.spares.length == 32
  | 0x14 => s.ink.stuck != [] || s.folioStuck
  | 0x18 => !s.tether.setValid
  | 0x19 => s.regBlocked
  | 0x1B => s.quill.cause != 0
  | 0x1C => s.quill.cause == 2
  | 0x1D => s.quill.cause == 3
  | 0x20 => decide (2 ≤ s.sys.padDiff)
  | 0x21 => s.feed.state == 9
  | 0x23 => s.feed.lost
  | 0x24 => s.feed.link == 2
  | 0x26 => s.ridge.state != 0 && s.sidesOut != 0
  | 0x29 => s.ridge.stopped
  | 0x2B => s.can0.state == 4 || s.can1.state == 4
  | 0x2C => s.lf.chans.any (·.2.latched)
  | 0x2E => s.pole.conflict
  | 0x2F => s.pole.self.refused != 0 || s.pole.slaves.any (·.2.state == 3)
  | 0x30 => s.bivouac
  | 0x32 => s.folioFull != 0
  | _ => false

/-- FAULT_ACTIVE after a Commit: a bit stands while its condition holds.
DEDUCED, log entry 159, unsafe. -/
def State.clearFaults (s : State) : State :=
  { s with faultActive := stateFaults.foldl (fun v c => if s.faultHolds c then v else setBit v c false) s.faultActive }

/-- FAULT_ACTIVE recomputed from the conditions as they stand (R483). -/
def State.recomputeFaults (s : State) : State :=
  { s with faultActive := stateFaults.foldl (fun v c => setBit v c (s.faultHolds c)) 0 }

/-! ## The Commit applied (R44) -/

/-- What blocks take from objects that changed: Feed in IDLE or LATCHED_OFF, CAN controllers, handle sense, node ID, isolation
(R228, R327, R379, R405, R411). -/
def State.reconfigure (s old : State) (effs : List Effect) : State :=
  let stored (p : Nat → Bool) : Bool := effs.any fun e => match e with
    | .obj k _ => p k
    | _ => false
  let s := if stored (fun k => k / 256 == 0x4810) && (s.feed.state == 1 || s.feed.state == 9) then s.feedApply else s
  let s := [0, 1].foldl (fun (s : State) k =>
    if (List.range 8).any (fun i => s.canObj k (i + 1) != old.canObj k (i + 1)) then s.canChanged k else s) s
  let s := if s.num 0x240001 = old.num 0x240001 then s else s.hsEnable (old.num 0x240001)
  let s := if s.num 0x500002 = old.num 0x500002 then s else s.nodeChanged
  if s.num 0x50000C = old.num 0x50000C then s else s.isolateNow (old.num 0x50000C)

/-- The regulatory check found blocked by a change that was not so before (R246). -/
def State.regFault (s old : State) : State :=
  if s.regBlocked && !old.regBlocked then (s.recordFault 0x19 0).later (s.recEvent 7 0x19 0) else s

/-- The effects a Commit applies: a release step loses to a clear of the latch staged in the same stroke (R26, R40).
DEDUCED, log entry 122, unsafe. -/
def State.standing (s : State) : List Effect :=
  if (latchOps s.effects).contains .clear then
    (s.staged.filter fun u => !(latchOps u.effs).contains .setReleased).flatMap (·.effs)
  else s.effects

/-- Every staged result of the stroke applied, and the boundary word written (R44). -/
def State.commitNow (s : State) : State :=
  let t := s.stamp
  let effs0 := s.standing
  let ops := latchOps effs0
  let wrong := s.guy.gateOpen && s.latchWrong ops
  let effs := if s.guy.gateOpen && s.latchedOff ops then effs0.map lockedByFeed else effs0
  let s1 := s.latchNow ops
  let s2 := effs.foldl (State.applyEffect t) s1
  let s3 := (s2.reconfigure s effs).regFault s
  let s4 := s3.recordFaults (faultsOf effs ++ (if wrong then [(0x1E, 0)] else []))
  let s5 := if wrong then s4.later (s4.recEvent 0 0x1E 0) else s4
  let s6 := if s5.raw 0x700002 = (alookup 0x700002 s.seen.objs).getD (zeros 16) then s5
    else s5.publish t [0x700002] 1
  let s7 := s6.clearFaults.closeGroup.powerUpStep
  { s7 with ink := { s7.ink with gates := 0 } }

/-! ## Standby (R92) -/

/-- Standby entered: the shadow counters are saved, every domain but PD0 and the retained SRAM0 is off, admissions end (R92,
R179, R432, R440).
DESIGN CHOICE, log entry 34, unsafe. -/
def State.enterStandby (s : State) : State :=
  let s := s.saveShadow
  let s := powerOrder.foldl (fun (s : State) n => if s.domOn n then s.domainOff n else s) s
  let p := s.pole.self
  { s with
    sys := { s.sys with
      power := .standby, domains := 5, rising := [], powerUp := [], wdArmed := false, wdCount := 0, windowWhole := false
      waking := none, darkSpan := 1 }
    host := { s.host with pages := [], rings := [], events := [], coreSeq := false }
    pole := { s.pole with
      slaves := s.pole.slaves.map fun n => (n.1, { n.2 with
        state := if n.2.state = 3 then 3 else 0, effective := none, standby := none, status := [], missed := 0, fresh := false })
      items := [], kept := [], standby := none
      self := { p with admitted := false, converged := false, effective := none, stranded := false, good := 0, bad := 0 } } }

/-! ## Boundary timing (R31, R32) -/

/-- The largest correction of one stroke in CK_SYS cycles (R32). -/
def State.corrLimit (s : State) : Int :=
  match s.sys.len with
  | 0 => 32
  | 1 => 64
  | _ => 128

/-- The correction of the stroke that opens, the rest carried on (R32).
DEDUCED, log entry 25, safe. -/
def State.correct (s : State) : State :=
  if s.timeSource = 2 then { s with sys := { s.sys with corrCarry := 0, corrApplied := 0 } }
  else
    let c := max (-s.corrLimit) (min s.corrLimit s.sys.corrCarry)
    { s with sys := { s.sys with corrApplied := c, corrCarry := s.sys.corrCarry - c } }

/-- The stroke number moved on, and the R33 window with it: a window is whole if the crystal runs from its start and no stroke of
it is dark (R30, R33, R76, R92).
DEDUCED, log entry 25, safe. -/
def State.nextNumber (s : State) (full : Bool) : State :=
  let n := nextStroke s.sys.stroke
  let y := s.sys
  { s with sys := { y with
    stroke := n
    windowLast := if n % 1024 = 0 then y.windowWhole && full else y.windowLast
    windowWhole := if n % 1024 = 0 then y.crystal && full else y.windowWhole && full } }

/-- The watchdog's count at a boundary (R81). -/
def State.watch (s : State) : State :=
  let ok := s.sys.phase == .commit && s.sys.service
  { s with sys := { s.sys with wdCount := if s.sys.wdArmed && !ok then s.sys.wdCount + 1 else 0, service := false } }

/-! ## STROKE_BOUNDARY -/

/-- A full stroke opens: its number stands, Gather is open (R83, R92). -/
def State.openStroke (s : State) : State :=
  { s with sys := { s.sys with power := .running, phase := .gather, wdArmed := true, entropyTaken := 0, darkLeft := 0 } }

/-- The boundary of a running stroke: its Commit applies where the core reached it, then the next stroke opens.
DEDUCED, log entry 32, unsafe. -/
def State.runBoundary (s : State) (ref : Nat) (ilim : Bool) : State :=
  let t := s.stamp
  let sleep := s.sys.phase == .commit && s.effects.contains .standby
  let reset := s.sys.resetReq == some 5
  let s := s.feedBoundary ref ilim
  let s := s.watch
  let s : State := if s.sys.phase = .commit then s.commitNow else s
  let s : State := { s with gathered := [], staged := [], rerun := s.cancelled, cancelled := [] }
  let s : State := if sleep then s.enterStandby else s
  let s := s.nextNumber (!sleep && !reset)
  if sleep then s.look
  else
    let s := s.correct
    let s := ((s.ridgeBoundary t).canBoundary).poleBoundary false
    let s : State := if reset then
        { s with
          guy := { s.guy with gateOpen := false }
          sys := { s.sys with power := .dark, resetPend := some (5, t), darkSpan := 1, darkLeft := 0, wdArmed := false } }
      else s.openStroke
    s.look

/-- The boundary of a dark stroke: the number moves on; the first full stroke opens once the core or the wake is ready (R83,
R84, R92, R93, R429).
DESIGN CHOICE, log entry 35, safe. -/
def State.darkBoundary (s : State) (ref : Nat) (ilim : Bool) : State :=
  let t := s.stamp
  let s := s.feedBoundary ref ilim
  let ready := (s.sys.power == .dark && s.sys.darkLeft == 1) || (s.sys.power == .standby && s.sys.waking.isSome && !s.isSlave)
  let s := s.nextNumber false
  if ready then
    let core := s.sys.power == .dark
    let s : State := { s with sys := { s.sys with firstFull := if core then some 3 else s.sys.firstFull } }
    let s := s.correct
    let s := ((s.ridgeBoundary t).canBoundary).poleBoundary core
    s.openStroke.look
  else { s with sys := { s.sys with darkSpan := s.sys.darkSpan + 1, corrApplied := 0 } }

/-- STROKE_BOUNDARY, with V_REF measured at it in millivolts and whether a Feed phase was at its limit in the stroke (R44). -/
def execStrokeBoundary (ref : Nat) (ilim : Bool) (s : State) : Out :=
  match s.sys.power with
  | .running => .next (s.runBoundary ref ilim)
  | .dark | .coreHeld | .standby => .next (s.darkBoundary ref ilim)
  | _ => .next s

end Sys2Proof.Machine
end

