-- ==== Sys2Proof/Machine/Work.lean ====
section
/-!
DEFINITION. Work.lean: GATHER_CLOSE with the units of gathered items, the first full stroke after a reset, the Work deadline with
cancellation and re-run, the clock check and the PLL (R34-R43, R48, R68, R113, R486).
-/

namespace Sys2Proof.Machine

/-! ## Order (R35, R39) -/

/-- An item put in Gather order, after those it does not precede. -/
def insertItem (i : Item) : List Item → List Item
  | [] => [i]
  | j :: l => if Item.le j i then j :: insertItem i l else i :: j :: l

/-- Items in Gather order (R35). -/
def sortItems (l : List Item) : List Item := l.foldl (fun a i => insertItem i a) []

/-- A unit's key precedes or equals another's: source, then sequence by serial-number arithmetic (R35, R39). -/
def keyLe (a b : Nat) : Bool :=
  if a / 2 ^ 16 != b / 2 ^ 16 then decide (a / 2 ^ 16 < b / 2 ^ 16) else decide ((b + 2 ^ 16 - a % 2 ^ 16) % 2 ^ 16 < 2 ^ 15)

/-- A unit put in Work order, after those it does not precede. -/
def insertUnit (u : Staged) : List Staged → List Staged
  | [] => [u]
  | v :: l => if keyLe v.key u.key then v :: insertUnit u l else u :: v :: l

/-- Units in Work order (R39). -/
def sortUnits (l : List Staged) : List Staged := l.foldl (fun a u => insertUnit u a) []

/-! ## Supervisor items (class 0x01) -/

/-- Accepted CK_AO counts of a window by STROKE_LENGTH_ACTIVE (R33). -/
def clockRange (len : Nat) : Nat × Nat :=
  match len with
  | 0 => (16769, 16785)
  | 1 => (33538, 33571)
  | _ => (67076, 67142)

/-- The unit of a supervisor item by its kind: clock check, VDD3 warning and its end, VHOLD state, wake, strap change, Blotter
estimate, PLL loss and relock, latch upset, core-reset request (R33, R48, R65, R80, R88, R93, R95, R96).
DESIGN CHOICE, log entry 22, unsafe. -/
def State.supervise (s : State) (i : Item) : Staged :=
  match i.aux with
  | [20, count, first] =>
    let r := clockRange s.sys.len
    let bad := count < r.1 ∨ r.2 < count
    plainUnit i.key (objN 0x110012 count :: (if bad then [.brk 5 first (first + 1023), .fault 0x0B count] else []))
      (if bad then [s.recBreak 5 first (first + 1023), s.recItem 2 i] else [])
  | [21] => plainUnit i.key [objN 0x120012 (min 65535 (s.num 0x120012 + 1)), .fault 0x01 0] [s.recItem 3 i]
  | [22] => plainUnit i.key [] [s.recItem 3 i]
  | [24, st] => plainUnit i.key (if st = 2 then [.fault 0x08 0] else []) [s.recItem 3 i]
  | [25, src] =>
    let u := plainUnit i.key [objN 0x120009 src, objN 0x120015 s.sys.darkSpan] [s.recItem 3 i, s.recObj 3 0x120015 4 0 (beBytes 4 s.sys.darkSpan)]
    { u with cells := if s.lockedOut && s.sys.firstFull.isNone then
      [.tally 6 (min (s.tally 5) (s.tally 6 + s.sys.darkSpan / s.secStrokes 1))] else [] }
  | [26, levels] => plainUnit i.key [.fault 0x31 levels] [s.recItem 12 i]
  | [27, uf] => plainUnit i.key (if uf < 40 then [.fault 0x09 uf] else []) [s.recItem 3 i]
  | [28, first] =>
    plainUnit i.key [.count 1 1, .obj 0x110010 (stampBytes ⟨s.boot, first⟩), objN 0x110011 6, .fault 0x0C 0] [s.recItem 2 i]
  | [29, first, last] => plainUnit i.key [] [{ s.recBreak 6 first last with stamp := ⟨s.boot, first⟩ }]
  | [30] => plainUnit i.key [objN 0x12000E (min 65535 (s.num 0x12000E + 1)), .fault 0x1F 0] [s.recItem 0 i]
  | _ => plainUnit i.key [] []

/-! ## Dispositions (R113, R486) -/

/-- RESET_SEEN raised to a class (R112). -/
def Inflight.saw (e : Inflight) (cls : Nat) : Inflight := { e with resetSeen := max e.resetSeen cls }

/-- The disposition of one open entry after a reset of class `cls`: its effects and cell words; none where the class gives the
entry's operation no disposition (R486).
DEDUCED, log entry 154, unsafe. -/
def State.dispose (s : State) (cls pos : Nat) (e : Inflight) : List Effect × List CellWrite :=
  let core := cls == 3
  match e.op with
  | 1 => if 3 ≤ cls then (s.disposeLearn pos e, []) else ([], [])
  | 2 => if 3 ≤ cls then (s.disposeRelease pos e core, []) else ([], [])
  | 3 => if 2 ≤ cls then ([.inflight pos (s.closed e 5 stDENIED)], []) else ([], [])
  | 4 => if 3 ≤ cls then s.disposeActivation pos e core else ([], [])
  | 5 => if cls = 2 then ([], [])
    else if e.phase = 0 then ([.inflight pos (s.closed e 3 stDENIED), .keyDrop pos], [])
    else ([.inflight pos (s.closed e 2 stOK), .keyDrop pos], [])
  | 6 => if cls = 2 then ([], []) else (s.disposeExport pos e, [])
  | 7 => if 3 ≤ cls then ([.inflight pos (if e.phase = 2 then s.closed e 2 stOK else s.closed e 5 stDENIED)], []) else ([], [])
  | 8 => if 3 ≤ cls then ([.regrantMove, .inflight pos (s.closed (s.phased e 2) 2 stOK)], []) else ([], [])
  | 9 => if 2 ≤ cls then ([.inflight pos (s.closed e 5 stBUSY)], []) else ([], [])
  | _ => ([], [])

/-- The unit that gives entries their dispositions; each keeps the reset it has seen (R113). -/
def State.disposeUnit (s : State) (cls : Nat) (which : Inflight → Bool) : Option Staged :=
  let hit := (s.inflight.filter fun e => e.2.isOpen && which e.2).map fun e => (e.1, e.2.saw cls)
  if hit = [] then none
  else
    let all := hit.map fun e => (e, s.dispose cls e.1 e.2)
    let effs := all.flatMap fun x =>
      if x.2.1.any (fun f => match f with
        | .inflight p _ => p == x.1.1
        | _ => false) then x.2.1 else .inflight x.1.1 x.1.2 :: x.2.1
    some { plainUnit 0x01000000 effs [] with cells := all.flatMap (·.2.2) }

/-- The dispositions of a Quill subsystem reset (code 7). -/
def State.disposeQuill (s : State) : State :=
  match s.disposeUnit 1 (fun e => e.op == 5 || e.op == 6) with
  | some u => s.stage u
  | none => s

/-- The dispositions of a tenant reset: that tenant's proposals and re-runs (R486). -/
def State.disposeTenant (s : State) (t : Nat) : State :=
  let mine (e : Inflight) : Bool := (e.op == 3 || e.op == 9) && e.cls == 1 && e.req == t
  let gone := s.people.proposals.filter fun p => p.req.cls == 1 && p.req.idx == t
  let s1 : State := { s with rerun := s.rerun.filter fun i => !(i.cls == 0x0D && i.idx == t) }
  match s.disposeUnit 2 mine with
  | some u => s1.stage { u with effs := u.effs ++ gone.map fun p => .proposalFree p.slot }
  | none => s1

/-! ## The first full stroke after a reset (R83, R87, R113, R472, R483) -/

/-- What the first full stroke records: cause and stamp, the latch cleared before a boot (R89), the dark span and break of a core reset, the faults of what the
power-loss marker names, the boot objects and a reserved BOOT_OPT, and the states found at boot (R48, R61, R87, R485).
DEDUCED, log entry 31, unsafe. -/
def State.resetUnit (s : State) (cls : Nat) : Staged :=
  let p := s.sys.resetPend.getD (0, Stamp.zero)
  let known := s.sys.resetPend.isSome
  let struck := s.sys.stroke - s.sys.darkSpan
  let at' : Stamp := ⟨s.boot, struck⟩
  let core := cls == 3
  let latch : List Effect × List NewRec := if core then ([], [])
    else ([objN 0x12000C 0, .obj 0x12000D (stampBytes s.stamp)], [s.recLatch s.guyByte 0])
  let objs := [objN 0x120001 p.1, .obj 0x120002 (stampBytes p.2)]
  let recs := [s.recObj 3 0x120001 4 0 (beBytes 1 p.1), s.recObj 3 0x120002 4 0 (stampBytes p.2)]
  let ev (code stream detail : Nat) (b : Bool) : List Effect × List NewRec :=
    if b then ([.fault code detail], [s.recEvent stream code detail]) else ([], [])
  let faults := [ev 0x04 3 4 (core && p.1 == 4), ev 0x05 3 6 (core && p.1 == 6),
    ev 0x02 3 p.1 (!core && known && decide (p.1 ≤ 1)), ev 0x03 3 p.1 (!core && known && (p.1 == 2 || p.1 == 3)),
    ev 0x06 3 0 (!core && s.sys.wasHeld), ev 0x18 1 0 (!core && !s.tether.setValid), ev 0x19 7 0 (!core && s.regBlocked),
    ev 0x30 12 s.img.cause (!core && s.bivouac)]
  let coreEffs : List Effect := if core then
      [objN 0x120015 s.sys.darkSpan, .count 2 (max 1 s.sys.coreResets), .brk 7 struck struck, .obj 0x110010 (stampBytes at')] else []
  let coreRecs := if core then [{ s.recBreak 7 struck struck with stamp := at' }, s.recObj 3 0x120015 4 0 (beBytes 4 s.sys.darkSpan)] else []
  let boot := if core then [] else s.bootRecs ++ (if s.sys.bootOpt = 3 then [s.recObj 12 0x100005 4 0 (beBytes 1 s.strapsByte)] else [])
  plainUnit 0x01000000 (objs ++ latch.1 ++ coreEffs ++ faults.flatMap (·.1)) (recs ++ latch.2 ++ coreRecs ++ faults.flatMap (·.2) ++ boot)

/-- The first full stroke after a reset of class 3 core, 4 AO or 5 power-on, before any unit runs. -/
def State.firstStrokeUnits (s : State) (cls : Nat) : State :=
  let s1 := s.stage (s.resetUnit cls)
  let s2 : State := match s1.disposeUnit cls (fun _ => true) with
    | some u => s1.stage u
    | none => s1
  let s3 : State := if s2.tally 2 < s2.tally 1 then { s2 with tether := { s2.tether with window := some s2.sys.stroke } } else s2
  { s3.recomputeFaults with sys := { s3.sys with firstFull := none, resetPend := none, coreResets := 0, wasHeld := false } }

/-! ## Inkwell and SRAM errors read (R48, R80, R159) -/

/-- Words corrected, Inkwell words found uncorrectable, and an uncorrectable SRAM0 word in data a unit reads. A cell word or a
page of a pair reads as damaged from then on (R163, R173).
DEDUCED, log entry 60, unsafe. -/
def State.eccErrors (s : State) (corrected : Nat) (bad : List Nat) (sram : Bool) : State :=
  let n := s.sys.stroke
  let s1 : State := { s with ink := { s.ink with badWords := s.ink.badWords ++ bad.filter fun w => !s.ink.badWords.contains w } }
  let effs := (if corrected = 0 then [] else [Effect.count 9 corrected]) ++
    bad.flatMap (fun w => [Effect.count 10 1, .brk 3 n n, .fault 0x10 w]) ++ (if sram then [Effect.brk 4 n n, .fault 0x11 0] else [])
  let recs := bad.flatMap (fun w => [s.recBreak 3 n n, s.recEvent 5 0x10 w]) ++
    (if sram then [s.recBreak 4 n n, s.recEvent 2 0x11 0] else [])
  if effs = [] then s1 else s1.stage (plainUnit 0x01000000 effs recs)

/-! ## The start-lock pads (R68) -/

/-- START_A and START_B_N as read at their pads: a difference from the latch of 2 consecutive strokes is a mismatch, recorded
again at each later change of the levels. -/
def State.readPads (s : State) (a b : Bool) : State :=
  let differ := a != s.startA || b != s.startBN
  let n := if differ then s.sys.padDiff + 1 else 0
  let levels := 2 * b2n b + b2n a
  let tell := decide (2 ≤ n) && s.sys.padSeen != some (a, b)
  let s1 : State := { s with sys := { s.sys with
    padA := a, padB := b, padDiff := n, padSeen := if tell then some (a, b) else if differ then s.sys.padSeen else none } }
  if tell then s1.stage (plainUnit 0x01000000 [.fault 0x20 levels] [s.recEvent 0 0x20 levels]) else s1

/-! ## What sources deliver at Gather -/

/-- A bank in undervoltage or overvoltage delivers a driver-fault item of each of its channels in every stroke (R97).
DEDUCED, log entry 36, unsafe. -/
def State.vlfItems (s : State) : State :=
  (List.range 8).foldl (fun (s : State) c =>
    let f := s.vlfFlags c
    if f = 0 ∨ s.gq.any (fun i => i.cls == 7 && i.idx == 32 * s.sys.cascId + c && i.aux.take 3 == [1, 7, 0x0A]) = true then s
    else s.lfFaultItem c f) s

/-- The items of a slave that are due, as the master's own sources would have left them (R434, R226); a slave starts no poll
(R433). -/
def State.localise (s : State) (i : Item) : Item :=
  if i.cls = 6 ∧ (i.aux = [] ∨ s.isSlave = true) then
    { i with aux := if byteAt i.val 0 = 1 ∧ s.bivouac = false ∧ s.isSlave = false then [2] else [1, 12, 0, i.idx] }
  else if i.cls = 7 ∧ i.aux = [] then { i with aux := if byteAt i.val 0 = 4 then [1, 7, 0, i.idx] else [1, 99, 0, 0] }
  else if i.cls = 9 ∧ i.aux = [] then { i with aux := [1, 99, 0, 0] }
  else i

/-- Whether an item is activity that holds off standby: Ledger access, a Ridgeline frame or a CAN frame (R91). -/
def Item.isActivity (i : Item) : Bool :=
  i.isRequest || (i.cls == 0x0B && i.aux == [] && byteAt i.val 0 == 0) || (i.cls == 0x0C && byteAt i.val 0 == 0)

/-- The gathered items of the stroke: at most 512 with the entropy block, which every stroke gathers, lowest keys first; the
rest stay queued and the event is recorded (R34, R37, R38; DEDUCED, log entry 15). -/
def State.fixGathered (s : State) : State :=
  let all := sortItems (s.gq.map s.localise)
  let s1 : State := { s with gathered := all.take 511, gq := all.drop 511 }
  if all.length ≤ 511 then s1
  else s1.stage (plainUnit 0x01000000 [.fault 0x0F 0] [s.recEvent 2 0x0F (all.length - 511)])

/-- The entropy block of the stroke (R38). -/
def State.drawEntropy (s : State) : State :=
  { s with
    sys := { s.sys with entropyBase := 128 * s.quill.drawn, entropyTaken := 0 }
    quill := { s.quill with drawn := s.quill.drawn + 1 }
    seqs := ainsert 0x200 (((alookup 0x200 s.seqs).getD 0 + 1) % 2 ^ 16) s.seqs }

/-! ## Units of gathered items (R39) -/

/-- The unit of one gathered item that no command of its own runs. -/
def State.gatherUnit (s : State) (i : Item) : State :=
  match i.aux.head? with
  | some 1 =>
    let stream := i.aux.getD 1 99
    let code := i.aux.getD 2 0
    let parity := code == 0x1A
    let n := s.sys.stroke
    let effs := (if code = 0 then [] else [Effect.fault code (i.aux.getD 3 0)]) ++ (if parity then [Effect.brk 2 n n] else [])
    let recs := (if stream = 99 then [] else [s.recItem stream i]) ++ (if parity then [s.recBreak 2 n n] else [])
    if i.cls = 0x0C then s.canUnit i else if effs = [] ∧ recs = [] then s else s.stage (plainUnit i.key effs recs)
  | some 5 => s.stage (plainUnit i.key [.tenantReset (i.aux.getD 1 0) false] [s.recItem 1 i])
  | some 6 => { s with sys := { s.sys with resetReq := some 5 } }
  | some 7 => s.disposeQuill
  | some 8 => s.disposeTenant (i.aux.getD 1 0)
  | some 9 => s.stage (s.latchOffUnit i)
  | some 32 =>
    let p := i.aux.getD 1 0
    s.stage (plainUnit i.key
      (objN 0x400005 p :: if p = 2047 then [objN 0x400006 ((s.num 0x400006 + 1) % 2 ^ 32)] else []) [])
  | _ =>
    if i.isRequest || i.cls == 5 then s
    else if i.cls = 0x0B then s.ridgeUnit i
    else if i.cls = 0x0C then s.canUnit i
    else if i.cls = 0x0A then
      match s.poleUnit i with
      | some u => s.stage u
      | none => s
    else if i.cls = 1 then s.stage (s.supervise i)
    else s

/-- A start or countersign exchange held until another decided begins in the stroke after that decision (R25). -/
def State.beginHeld (s : State) : State :=
  match s.tether.run, s.tether.waiting with
  | none, some h =>
    match h.pos with
    | some p =>
      if (s.inflightAt p).isOpen then
        match s.begin (s.newExchange 2 0xFE (s.num 0x2C0004) (some p) []) with
        | some x => x.1.stage (plainUnit 0x0E000000 (.holdStart none :: x.2) [])
        | none => s
      else s.stage (plainUnit 0x0E000000 [.holdStart none] [])
    | none =>
      match s.people.proposals.find? (·.num == h.proposal) with
      | none => s.stage (plainUnit 0x0E000000 [.holdStart none] [])
      | some p =>
        match s.beginCountersign p with
        | some x => x.1.stage (plainUnit 0x0E000000 (.holdStart none :: x.2) [])
        | none => s
  | _, _ => s

/-- The steps of operations that go on without a request: a rolled-back bank emptied, an activation ended (R303, R474). -/
def State.ownSteps (s : State) : State :=
  let s1 : State := match s.eraseStep with
    | some u => s.stage u
    | none => s
  match s1.actDone with
  | some u => s1.stage u
  | none => s1

/-- GATHER_CLOSE, with the levels at the start-lock pads and the memory errors the stroke's units meet (R34, R68, R159). -/
def execGatherClose (padA padB : Bool) (corrected : Nat) (bad : List Nat) (sram : Bool) (s : State) : Out :=
  if s.sys.power ≠ .running ∨ s.sys.phase ≠ .gather then .next s
  else
    let s : State := if s.sys.firstFull.isSome then s.feedFlush else s
    let s := ((s.takeAllLedger.ridgeTake).poleDue).vlfItems
    let s := s.fixGathered.drawEntropy
    let s : State := { s with sys := { s.sys with
      phase := .work
      idleStrokes := if s.tether.run.isSome || s.gathered.any Item.isActivity then 0 else s.sys.idleStrokes + 1 } }
    let s : State := match s.sys.firstFull with
      | some c => s.firstStrokeUnits c
      | none => s
    let s := (s.eccErrors corrected bad sram).readPads padA padB
    let s := s.feedGather.tetherGather
    let s := s.gathered.foldl State.gatherUnit s
    let s := s.beginHeld.ownSteps
    .next { s with gathered := sortItems s.gathered }

/-! ## Cancellation and re-run (R41, R42, R115) -/

/-- What a request asks, none where it is malformed. -/
def Item.asks (i : Item) : Option (Bool × List LEntry) :=
  match parseRequest i.val with
  | .request echo _ es => some (echo, es)
  | _ => none

/-- A request that counts as a security request under R42: it writes a protected object.
DEDUCED, log entry 20, unsafe. -/
def Item.isProtected (i : Item) : Bool := i.asks.elim false fun x => x.2.any LEntry.protected

/-- The open re-run entry of a request (R115). -/
def State.rerunEntry (s : State) (r : Requester) : Option (Nat × Inflight) :=
  ((List.range 16).map fun p => (p, s.inflightAt p)).find? fun e =>
    e.2.op == 9 && e.2.isOpen && e.2.cls == r.cls && e.2.req == r.idx && e.2.tag == r.tag

/-- Items whose units a command of its own runs; left over at the deadline they are cancelled. A listen window's packets are one
unit. -/
def State.leftover (s : State) : List Item :=
  let listen := s.tether.run.elim false (·.phase == .listening)
  s.gathered.filter fun i =>
    i.isRequest || (i.cls == 6 && i.aux == [2]) || (i.cls == 8 && listen && byteAt i.val 0 != 4) ||
      (i.cls == 5 && i.aux.head? == some 100 && (List.range 9).any fun p => decide (3 ≤ p) && i.aux.getD 1 0 == p)

/-- What one overrun stages: counted unless it was counted when it arose, the break and the fault (R41, R48). -/
def State.overrun (s : State) (counted : Bool) : State :=
  let n := s.sys.stroke
  s.stage (plainUnit 0x0E000000
    ((if counted then [] else [.count 0 1, .obj 0x11000A (stampBytes s.stamp)]) ++ [.brk 1 n n, .fault 0x0D 0])
    [s.recBreak 1 n n, s.recEvent 2 0x0D 0])

/-- What the requester of a cancelled unit is told, and the re-run entry opened (R42, R115).
DEDUCED, log entry 20, unsafe. -/
def State.overrunAnswer (s : State) (i : Item) : State :=
  if !i.isRequest || i.asks.isNone then s
  else
    let r := i.requester
    let entry : List Effect := match s.inflightSlot with
      | some p => [.inflight p (s.newEntry 9 2 0 1 r)]
      | none => []
    let interim : List Effect :=
      if i.isProtected then [] else [.respond r true stOVERRUN (ledgerMsg 3 stOVERRUN r.tag 0 0 (zeros 10))]
    s.stage (plainUnit i.key (entry ++ interim) [])

/-- Units cancelled at the deadline: they run again in the next stroke (R41). -/
def State.cancelLeft (s : State) : State :=
  let early := s.cancelled
  let late := s.leftover
  let s1 := early.foldl (fun (s : State) _ => s.overrun true) s
  let one := late.filter (·.cls != 8) ++ (late.filter (·.cls == 8)).take 1
  let s2 := one.foldl (fun (s : State) _ => s.overrun false) s1
  let s3 := (early ++ late).foldl State.overrunAnswer s2
  { s3 with cancelled := early ++ late, gathered := s3.gathered.filter fun i => !late.contains i }

/-- A completion item with BUSY in place of its status. -/
def Item.busied (i : Item) : Item := { i with val := BitVec.ofNat 8 stBUSY :: i.val.drop 1 }

/-- The state of an outcome; every command of this model answers a next state. -/
def Out.state (o : Out) (s : State) : State :=
  match o with
  | .next t => t
  | _ => s

/-- The unit of a Quill completion run by the command of its purpose. -/
def State.completionUnit (s : State) (i : Item) : State :=
  let t : State := { s with gathered := i :: s.gathered }
  match i.aux.getD 1 0 with
  | 3 => (execAuthentication t).state t
  | 4 => (execLearnStage t).state t
  | 5 => (execKeyInstall t).state t
  | 6 => (execExportDelivery t).state t
  | 7 => (execFrameVerified t).state t
  | _ => s

/-- A re-run that is itself cancelled: no third run; a request completes with BUSY, a security request with DENIED, another unit
as if its completion were BUSY (R42).
DEDUCED, log entry 21, unsafe. -/
def State.secondOverrun (s : State) (i : Item) : State :=
  let s1 := s.overrun false
  let s2 := s1.stage (plainUnit 0x0E000000 [.fault 0x0E 0] [s.recEvent 2 0x0E 0])
  if i.isRequest then
    let r := i.requester
    let st := if i.isProtected then stDENIED else stBUSY
    let entry : List Effect := match s2.rerunEntry r with
      | some e => [.inflight e.1 (s.closed e.2 5 stBUSY)]
      | none => []
    match i.asks with
    | some x => s2.stage (plainUnit 0 (entry ++ [.respond r false st (response 2 st r.tag x.1 (answeredAll x.2 st))]) [])
    | none => s2.stage (plainUnit 0 entry [])
  else if i.cls = 5 then s2.completionUnit i.busied
  else s2

/-- UNIT_RE_RUN: the first of the units cancelled in the last stroke runs again from the same inputs, ahead of the stroke's own
units (R41). -/
def execUnitReRun (s : State) : Out :=
  match s.rerun with
  | [] => .next s
  | i :: rest =>
    if !s.working then .next s
    else
      let t : State := { s with rerun := if i.cls = 8 then rest.filter (·.cls != 8) else rest }
      let run : State :=
        if i.isRequest then
          let more : List Effect := match t.rerunEntry i.requester with
            | some e => [.inflight e.1 (t.closed (t.phased e.2 2) 2 stOK)]
            | none => []
          t.ledgerUnit 0 i more
        else if i.cls = 6 then (let u : State := { t with gathered := i :: t.gathered }; (execPollStart u).state u)
        else if i.cls = 8 then
          (let u : State := { t with gathered := s.rerun.filter (·.cls == 8) ++ t.gathered }; (execWakeListenEnd u).state u)
        else t.completionUnit i
      if run.cancelled.length = s.cancelled.length then
        .next { run with staged := (run.staged.take s.staged.length) ++ (run.staged.drop s.staged.length).map fun u => { u with key := 0 } }
      else .next (t.secondOverrun i)

/-- An exchange whose decision is due and did not run: refused at its due stroke (R42).
DEDUCED, log entry 21, unsafe. -/
def State.missDecision (s : State) : State :=
  match s.exchangeNow with
  | some x =>
    if x.due.elim false (fun d => decide (d ≤ s.sys.stroke)) then
      (if x.config = [] then s.decideLost x else (s.overrun false).decideNow { x with missed := true })
    else s
  | none => s

/-! ## WORK_DEADLINE (R41, R43) -/

/-- A decision record marked with a break staged in its own stroke, where no earlier one lies in its span (R49, R450). -/
def NewRec.marked (breaks : List Span) (stroke : Nat) (r : NewRec) : NewRec :=
  if r.stream = 0 ∧ r.type = 0x20 ∧ byteAt r.body 6 = 0 then
    match breaks.find? fun b => decide (leNat (slice r.body 8 6) ≤ b.last ∧ b.first ≤ stroke) with
    | some b => { r with body := r.body.take 5 ++ [1] ++ beBytes 1 b.cause ++ r.body.drop 7 }
    | none => r
  else r

/-- The breaks the stroke's units staged. -/
def State.stagedBreaks (s : State) : List Span :=
  s.effects.filterMap fun e => match e with
    | .brk c f l => some ⟨c, f, l⟩
    | _ => none

/-- The decision records of the stroke, marked with its own breaks (R49).
DEDUCED, log entry 24, unsafe. -/
def State.markDecisions (s : State) : State :=
  let b := s.stagedBreaks ++ (s.sys.pllSince.map fun f => (⟨6, f, s.sys.stroke⟩ : Span)).toList
  if b = [] then s
  else { s with staged := s.staged.map fun u =>
    { u with recs := u.recs.map (NewRec.marked b s.sys.stroke), altRecs := u.altRecs.map (NewRec.marked b s.sys.stroke) } }

/-- LEARN_COMMIT frames leave in the Commit window once the VHOLD check has passed (R439). -/
def State.sendCommits (s : State) : State :=
  let isC (e : Effect) : Bool := match e with
    | .poleSend f => f.type == 9
    | _ => false
  let out := s.effects.filter isC
  let s1 : State := { s with staged := s.staged.map fun u => { u with effs := u.effs.filter fun e => !isC e } }
  out.foldl (fun (s : State) e => match e with
    | .poleSend f => s.applyPole (.poleSend { f with stroke := s.sys.stroke })
    | _ => s) s1

/-- VHOLD as measured, and ABSENT left once it reaches 4.50 V (R77, R96). -/
def State.readVhold (s : State) (mv : Nat) : State :=
  { s with sys := { s.sys with
    vholdMv := min mv 6000, vholdState := if s.sys.vholdState = 2 ∧ 4500 ≤ mv then 1 else s.sys.vholdState } }

/-- WORK_DEADLINE, with VHOLD in millivolts at the check, whether the core writes its service word in this Commit window, the Work
finish time in microseconds, and whether a write struck a shut gate (R41, R43, R51, R81, R158, R167).
DEDUCED, log entry 61, unsafe. -/
def execWorkDeadline (vhold : Nat) (service : Bool) (finish : Nat) (gate : Bool) (s : State) : Out :=
  if s.sys.power ≠ .running ∨ s.sys.phase ≠ .work then .next s
  else
    let again := s.rerun
    let s : State := again.foldl State.secondOverrun { s with rerun := [] }
    let s := s.missDecision.cancelLeft.markDecisions
    let s := if gate then s.stage (plainUnit 0x0E000000 [.fault 0x15 0] [s.recEvent 5 0x15 0]) else s
    let s := s.setNum 0x11000B (max (s.num 0x11000B) (min 1800 finish))
    let s := s.readVhold vhold
    let s : State := { s with staged := sortUnits s.staged, sys := { s.sys with phase := .commit, service := service } }
    let s := s.formGroup vhold
    let s : State := { s with ink := { s.ink with gates := s.gatesFor } }
    let s := if 4500 ≤ vhold then s.sendCommits else s
    let s := s.poleDeadline
    .next (s.offerEvent 4 0 (beBytes 1 (b2n s.ink.refusing)) 99 0 0)

/-! ## The clock check and the PLL (R33, R48) -/

/-- CLOCK_CHECK_WINDOW: at the end of a whole window, its count of CK_AO cycles is gathered (R33).
DEDUCED, log entry 25, safe. -/
def execClockCheckWindow (count : Nat) (s : State) : Out :=
  if s.sys.power = .running ∧ s.sys.stroke % 1024 = 0 ∧ s.sys.phase = .gather ∧ s.sys.windowLast = true then
    let t : State := { s with sys := { s.sys with windowLast := false } }
    .next (t.offer 1 0 (beBytes 4 count) [20, count, s.sys.stroke - 1024])
  else .next s

/-- PLL_LOSS_OF_LOCK: CK_SYS or CK_QUILL has lost lock (R48). -/
def execPllLossOfLock (s : State) : Out :=
  if s.sys.pllSince.isSome ∨ s.sys.power = .aoReset then .next s
  else
    let t : State := { s with sys := { s.sys with pllSince := some s.sys.stroke } }
    .next (t.offer 1 0 [BitVec.ofNat 8 6] [28, s.sys.stroke])

/-- PLL_RELOCK: lock is back, and the withdrawn span ends with the stroke after (R48). -/
def execPllRelock (s : State) : Out :=
  match s.sys.pllSince with
  | none => .next s
  | some first =>
    let last := s.sys.stroke + 1
    let t : State := { s with sys := { s.sys with
      pllSince := none, spans := s.sys.spans ++ [⟨6, first, last⟩] } }
    .next (t.offer 1 0 [BitVec.ofNat 8 7] [29, first, last])

end Sys2Proof.Machine
end

