-- ==== Sys2Proof/Machine/Power.lean ====
section
/-!
DEFINITION. Power.lean: supply losses with the power-down sequence, the path to the first stroke, core resets, standby and wake,
supply supervision and the Guy latch's upset correction (R71-R98, R45, R169, R470-R477).
-/

namespace Sys2Proof.Machine

/-! ## AO reset asserted (R78, R82) -/

/-- Everything but Inkwell's contents at its reset value, AO reset asserted (R78). The queue of commands, the free values drawn
and the numbers the model gives enablings go on.
DEDUCED, log entry 38, unsafe. -/
def State.aoAsserted (s : State) : State :=
  { State.reset with
    pending := s.pending
    sys := { Sys.reset with free := s.sys.free }
    host := { HostPort.reset with gens := s.host.gens }
    ink := { s.ink with refusing := false, gates := 0, scrub := none, shadow := [], wraps := [], dirty := [] }
    folio := { s.folio with
      hold := [], carry := [], exporting := none, sending := none
      streams := s.folio.streams.map fun t => (t.1, ⟨t.2.pages, 0, 0, false, [], none⟩) }
    img := { Images.reset with slotA := s.img.slotA, slotB := s.img.slotB }
    quill := { Quill.reset with drawn := s.quill.drawn } }

/-- A page torn by a loss of power: its header is new, its seal old (R161, R162).
DEDUCED, log entry 59, unsafe. -/
def Inkwell.tearPage (ink : Inkwell) (p : Nat) : Inkwell :=
  let old : JPage := (alookup p ink.pages).getD ⟨0, 0, [], .empty⟩
  { ink with pages := ainsert p { old with mark := .torn, group := ink.group } ink.pages }

/-- Pages of the open group, by its own count (R166). -/
def State.openPages (s : State) : Nat := s.ink.openGroup.elim 0 fun g => g.undoF.length + g.undoJ.length

/-- What a loss of power leaves of the open group after `k` of its pages and journal words were whole: all pages and the tag
count as one more than its pages (R161, R166).
DESIGN CHOICE, log entry 29, safe. -/
def State.cutGroup (s : State) (k : Nat) : State :=
  if s.ink.openGroup.isSome && decide (k ≤ s.openPages) then s.tearGroup k else s

/-- The save of the shadow counters and the marker as far as the reserve carries them: 6 pages, then the marker (R82, R161,
R179). A save cut off is written anew into the same copy next time.
DESIGN CHOICE, log entry 29, safe. -/
def State.saveAndMark (s : State) (byte : Nat) (left : Option Nat) : State :=
  match left with
  | none => s.saveShadow.writeMarker byte
  | some m =>
    if 7 ≤ m then s.saveShadow.writeMarker byte
    else if m = 6 then
      let whole := s.saveShadow.writeMarker byte
      let p := if (alookup 1100 whole.ink.pages) = (alookup 1100 s.saveShadow.ink.pages) then 1101 else 1100
      let t := s.saveShadow
      { t with ink := t.ink.tearPage p }
    else
      let whole := s.saveShadow
      let b := savePage s.ink.saveToB
      let ink := (List.range m).foldl (fun (k : Inkwell) i =>
        match alookup (b + i) whole.ink.pages with
        | some j => { k with pages := ainsert (b + i) j k.pages }
        | none => k) s.ink
      { s with ink := ink.tearPage (b + m) }

/-- The power-down sequence: the latch locked, the open group completed with its tag and without its boundary word, the shadow
counters saved, the marker written with the cause and bit 7 where the core was held (R82). `cut`: pages and words written
before the hold regulator was cut off, none where the sequence completed. The sequence has nothing to do where PD1 and
PD4 are off, and nothing to save before the store is restored.
DEDUCED, log entry 28, unsafe. -/
def State.powerDown (s : State) (cause : Nat) (cut : Option Nat) : State :=
  if s.sys.power = .running ∨ s.sys.power = .dark ∨ s.sys.power = .coreHeld then
    let n := s.openPages + b2n s.ink.openGroup.isSome
    let byte := cause + 128 * b2n (s.sys.power == .coreHeld)
    match cut with
    | none => (s.saveAndMark byte none).aoAsserted
    | some k => if k < n then (s.cutGroup k).aoAsserted else (s.saveAndMark byte (some (k - n))).aoAsserted
  else s.aoAsserted

/-- POWER_ON_RESET: supply is applied after a loss that no sequence met: `pages` of the open group were whole, and neither the
shadow counters nor a marker was written (R78, R161).
DESIGN CHOICE, log entry 29, safe. -/
def execPowerOnReset (pages : Nat) (s : State) : Out := .next (s.cutGroup pages).aoAsserted

/-- VDD3_BROWN_OUT: VDD3 below 2.80 V (R71, R78, R82). -/
def execVdd3BrownOut (cut : Option Nat) (s : State) : Out := .next (s.powerDown 1 cut)

/-- REGULATOR_FAILURE: an internal regulator fails; RESET_CAUSE 0 (R78, R82, R98). -/
def execRegulatorFailure (cut : Option Nat) (s : State) : Out := .next (s.powerDown 0 cut)

/-- AO_BROWN_OUT: VAO below 2.30 V; the sequence runs from VDD3 (R78, R82). -/
def execAoBrownOut (s : State) : Out := .next (s.powerDown 2 none)

/-- RESET_N held low for 10 µs or more (R79, R82). -/
def execResetN (s : State) : Out := .next (s.powerDown 3 none)

/-! ## From AO release to the first stroke (R59, R61, R62, R76, R470, R477) -/

/-- Damaged Tally counters rewritten at once, during boot (R174). -/
def State.repairTallies (s : State) : State :=
  { s with ink := (List.range 24).foldl (fun (k : Inkwell) c =>
      if (tallyScan s.ink c).2 then k.writeCell (.tally c (s.tally c)) else k) s.ink }

/-- Steps 4 and 5 of R76: the images selected and verified, the boot count raised by one word; none eligible is a hold. -/
def State.bootOn (s : State) : State :=
  let s1 : State := { s with sys := { s.sys with power := .waitVhold, domains := 0x17 }, host := { s.host with bwOpen := false } }
  let s2 := s1.repairTallies.bootSelect
  if s2.sys.power = .bootHold then s2
  else if s2.tally 0 < 2 ^ 32 - 1 then { s2 with ink := s2.ink.writeCell (.tally 0 (s2.tally 0 + 1)) } else s2

/-- AO_RELEASE: the straps are sampled and decide what follows: the factory hold, boundary scan, the boot-load window, or boot
(R59, R61, R62, R76). -/
def execAoRelease (cascId bootOpt : Nat) (factory : Bool) (s : State) : Out :=
  if s.sys.power ≠ .aoReset then .next s
  else
    let y : Sys := { s.sys with cascId := cascId % 8, bootOpt := bootOpt % 4, factoryTest := factory }
    let t : State := { s with sys := y }
    let t : State := { t with sys := { y with strapsSeen := t.strapsByte } }
    if factory then .next { t with sys := { t.sys with power := .factoryHold } }
    else if t.sys.bootOpt = 2 then .next { t with sys := { t.sys with power := .scan } }
    else if t.sys.bootOpt = 1 then
      .next { t with sys := { t.sys with power := .bootWindow, domains := 0x17 }, host := { t.host with bwOpen := true } }
    else .next t.bootOn

/-- BOOT_LOAD_WINDOW_CLOSE: the window closes and boot continues (R477). -/
def execBootLoadWindowClose (s : State) : Out := if s.sys.power = .bootWindow then .next s.bootOn else .next s

/-- The journal settled, then the Ledger restored; VOID_GROUPS, which is persisted, keeps the groups the settling voided (R103,
R169).
DEDUCED, log entry 37, unsafe. -/
def State.settleRestore (s : State) (cold : Bool) (keep : Nat → Bool) : State :=
  let t := s.settle cold
  let n := t.num 0x40000E - s.num 0x40000E
  let u := t.restore keep
  if n = 0 then u else u.setNum 0x40000E (min 65535 (u.num 0x40000E + n))

/-- What firmware takes from Inkwell beside the Ledger: the regulatory region, the key records, the token set. -/
def State.readRegions (s : State) : State :=
  let s1 := s.regLoad.regRead.keysRead
  { s1 with tether := { s1.tether with setValid := s1.bankValid s1.activeBank s1.epoch } }

/-- Step 7 of R76: the shadow counters and the Ledger restored, the previous boot's group settled, the reset cause read from the
marker, the gate of the Guy latch opened. The save pages lie outside the settling (R169), so the store is restored first here
and keeps what the settling counts.
DEDUCED, log entry 37, unsafe. -/
def State.bootSettle (s : State) (vhold state : Nat) : State :=
  let s1 := (s.restoreShadow.settleRestore true fun _ => true).readRegions
  let mark := s1.readMarker
  let held := mark.elim false fun m => m.1.testBit 7
  let s2 : State := { s1 with
    guy := { s1.guy with gateOpen := true }
    sys := { s1.sys with
      len := min 2 (s1.num 0x110001), vholdMv := min vhold 6000, vholdState := state
      resetPend := mark.map fun m => (m.1 % 128, m.2)
      wasHeld := held, darkLeft := 1 } }
  s2.hsBegin

/-- Step 8: stroke 0 begins, and the domains enabled wait for their Commits in the order of R75; Bivouac mode leaves the radios off
(R479). -/
def State.bootStroke (s : State) : State :=
  let cause := s.sys.resetPend.elim 0 (·.1)
  let on := powerOrder.filter fun n => (s.num 0x120004).testBit n && !(s.bivouac && (n == 8 || n == 9))
  let s1 : State := { s with sys := { s.sys with
    stroke := 0, powerUp := on, firstFull := some (if cause = 2 ∨ cause = 3 then 4 else 5), windowWhole := s.sys.crystal
    windowLast := false, idleStrokes := 0 } }
  s1.openStroke.look

/-- Step 7, and step 8 where the device is no slave (R76, R429). -/
def State.bootFinish (s : State) (vhold state : Nat) : State :=
  let s1 := s.bootSettle vhold state
  if s1.isSlave then s1 else s1.bootStroke

/-- FIRST_STROKE: VHOLD has reached 4.50 V (R76). -/
def execFirstStroke (vhold : Nat) (s : State) : Out :=
  if s.sys.power = .waitVhold ∧ s.sys.darkLeft = 0 ∧ 4500 ≤ vhold then .next (s.bootFinish vhold 1) else .next s

/-- VHOLD_TIMEOUT: 1,000 ms without 4.50 V; strokes start with VHOLD_STATE ABSENT, which is gathered (R77). -/
def execVholdTimeout (vhold : Nat) (s : State) : Out :=
  if s.sys.power = .waitVhold ∧ s.sys.darkLeft = 0 ∧ vhold < 4500 then
    .next ((s.bootFinish vhold 2).offer 1 0 [2] [24, 2])
  else .next s

/-- SLAVE_FIRST_STROKE: the first compensated master boundary after a slave is ready, with the master's stroke number, or 1,000 ms
without one; the slave's first full stroke begins there (R429).
DESIGN CHOICE, log entry 34, unsafe. -/
def execSlaveFirstStroke (marker : Option Nat) (s : State) : Out :=
  if !s.isSlave then .next s
  else
    let t := s.setSelf fun p => { p with marked := marker.isSome, mstroke := marker.elim p.mstroke (· % 2 ^ 40) }
    if s.sys.power = .waitVhold ∧ s.sys.darkLeft = 1 then .next t.bootStroke
    else if s.sys.power = .standby ∧ s.sys.waking.isSome then .next (t.nextNumber false).openStroke.look
    else .next s

/-- CK_AO_CRYSTAL_STABLE: after 1,024 stable cycles the crystal drives CK_AO (R76). -/
def execCkAoCrystalStable (s : State) : Out :=
  if s.sys.power = .aoReset ∨ s.sys.power = .factoryHold then .next s else .next { s with sys := { s.sys with crystal := true } }

/-! ## Supply supervision (R95-R97) -/

/-- BLOTTER_ESTIMATE: the capacitance in microfarads that the timed charge gives (R96). -/
def execBlotterEstimate (uf : Nat) (s : State) : Out :=
  if s.sys.power = .waitVhold ∨ s.sys.power = .running then
    let u := min uf 1000
    let t : State := { s with sys := { s.sys with blotterUf := u } }
    .next (t.offer 1 0 (beBytes 2 u) [27, u])
  else .next s

/-- The supervisor serves strokes or dark strokes. -/
def State.supervised (s : State) : Bool :=
  s.sys.power == .running || s.sys.power == .dark || s.sys.power == .coreHeld || s.sys.power == .standby

/-- BROWN_OUT_WARNING: VDD3 below 2.90 V: gathered, and nothing else changes (R71, R95). -/
def execBrownOutWarning (s : State) : Out :=
  if s.supervised && s.sys.warnSince.isNone then
    let t : State := { s with sys := { s.sys with warnSince := some s.sys.stroke } }
    .next (t.offer 1 0 [1] [21])
  else .next s

/-- BROWN_OUT_WARNING_END: VDD3 past 2.95 V; the item holds the warning's duration in strokes (R95). -/
def execBrownOutWarningEnd (s : State) : Out :=
  match s.sys.warnSince with
  | none => .next s
  | some n =>
    let t : State := { s with sys := { s.sys with warnSince := none } }
    .next (t.offer 1 0 (beBytes 1 0 ++ beBytes 6 (s.sys.stroke - n)) [22])

/-- A bank's fault begins: its drivers are off until a schedule is committed after release, and a driver-fault item of the bank
records it (R97). `bit`: the bank's bit of VLF_BANK_STATE. -/
def State.vlfFault (s : State) (bank bit : Nat) : State :=
  if s.sys.vlfState.testBit bit || !s.supervised then s
  else
    let t : State := { s with sys := { s.sys with vlfState := setBit s.sys.vlfState bit true, vlfWait := setBit s.sys.vlfWait bank true } }
    t.offer 7 (32 * s.sys.cascId + 4 * bank) (lfItem 4 0xFF 0xFF 0 0 0 (t.vlfFlags (4 * bank)) 0 []) [1, 7, 0x0A, bank]

/-- VLF_UNDERVOLTAGE: a bank below 5.5 V (R71, R97). -/
def execVlfUndervoltage (bank : Nat) (s : State) : Out := .next (s.vlfFault (bank % 2) (bank % 2))

/-- VLF_OVERVOLTAGE: a bank above 19.5 V (R71, R97). -/
def execVlfOvervoltage (bank : Nat) (s : State) : Out := .next (s.vlfFault (bank % 2) (bank % 2 + 2))

/-- VLF_RELEASE: the bank's level is back; its drivers wait for the first schedule committed after it (R97). -/
def execVlfRelease (bank : Nat) (s : State) : Out :=
  .next { s with sys := { s.sys with vlfState := setBit (setBit s.sys.vlfState (bank % 2) false) (bank % 2 + 2) false } }

/-! ## Core reset (R80-R85, R90) -/

/-- The core halts: the stroke in which the reset strikes is dark, GATE_OPEN closes, the latest cause and stamp are kept (R83, R87,
R88).
DEDUCED, log entry 32, unsafe. -/
def State.strike (s : State) (cause : Nat) (t : Stamp) : State :=
  { s with
    guy := { s.guy with gateOpen := false }
    sys := { s.sys with
      power := .dark, resetReq := some cause, resetPend := some (cause, t), wdArmed := false, darkLeft := 0
      darkSpan := if s.sys.power = .running then 1 else s.sys.darkSpan } }

/-- WATCHDOG: the count of boundaries without a service word has reached WATCHDOG_STROKES at the boundary that opened this stroke
(R81). -/
def execWatchdog (s : State) : Out :=
  if s.sys.power = .running ∧ s.sys.phase = .gather ∧ s.sys.wdArmed = true ∧ s.num 0x120014 ≤ s.sys.wdCount then
    .next (s.strike 4 ⟨s.boot, s.sys.stroke - 1⟩)
  else .next s

/-- CORE_FAULT, while the core runs or starts again (R80, R85). `tagged`: a group being written has its commit tag.
DESIGN CHOICE, log entry 40, safe. -/
def execCoreFault (tagged : Bool) (s : State) : Out :=
  if s.sys.power = .running ∨ s.sys.power = .dark then
    let t := if tagged then s else s.cutGroup s.openPages
    .next (t.strike 6 s.stamp)
  else .next s

/-- A Gather item that a spared source holds: handle sense, Feed and the Guy latch, the supervisor (R84). -/
def Item.spared (i : Item) : Bool := i.cls == 3 || i.cls == 6 || (i.cls == 1 && decide (9 ≤ i.aux.headD 0))

/-- Ledger values that are not persisted and belong to what a core reset spares: boot and image objects, the stroke's records,
PD0, Inkwell, Feed and the start lock, the DELTA of an admission (R73, R78, R103).
DEDUCED, log entry 30, unsafe. -/
def sparedObj (key : Nat) : Bool :=
  let i := key / 256
  (i == 0x1000 || i == 0x1010 || i == 0x1020 || (i == 0x1100 && key != 0x11000B) || i == 0x1200 || i == 0x2400 || i == 0x4000 ||
    (decide (0x4800 ≤ i) && decide (i < 0x4900)) || key == 0x600006)

/-- The exchange a core reset abandons: it ends with DENIED at the later of its due stroke and the first full stroke; a countersign
exchange goes with its proposal (R84, R299). -/
def Exchange.lose (x : Exchange) : Option Exchange :=
  if x.kind = 4 then none else some { x with config := [], pos := none, due := some (x.due.getD 0), abandoned := true }

/-- PD1 but for the stroke timer island, PD2, PD3, PD5 to PD11 and PD13 cleared; their leads are idle (R56, R78, R83, R84).
DEDUCED, log entry 30, unsafe.
DEDUCED, log entry 38, unsafe. -/
def State.coreCleared (s : State) : State :=
  let p := s.polePowerDown
  { s with
    gq := s.gq.filter Item.spared
    gathered := [], rerun := [], cancelled := [], staged := [], deferred := [], reasm := []
    seqs := s.seqs.filter fun q => q.1 / 256 == 1 || q.1 / 256 == 3 || q.1 / 256 == 6
    newest := 0, evGlobal := 0, evCan := 0, evRidge := 0
    host := { HostPort.reset with gens := s.host.gens }
    mem := []
    ink := { s.ink with gates := 0, scrub := none, refusing := false, dirty := [] }
    folio := { s.folio with
      hold := [], carry := s.folio.carry.filter (·.type == 0x14), exporting := none, sending := none }
    img := { s.img with act := none }
    quill := { Quill.reset with drawn := s.quill.drawn }
    lf := { Lantern.reset with
      hs := s.lf.hs, chans := s.lf.chans.map fun c => (c.1, ⟨0, 0, false, false, false, false, false, c.2.dutyUs⟩) }
    radio := { Radio.reset with bandUs := s.radio.bandUs, uwbUs := s.radio.uwbUs, temp := s.radio.temp }
    tether := { Tether.reset with run := s.tether.run.bind Exchange.lose }
    people := People.reset
    release := ⟨0, s.release.since, []⟩
    ridge := Ridge.reset
    can0 := CanCtl.reset
    can1 := CanCtl.reset
    pole := { p.pole with standby := none, kept := [], slaves := p.pole.slaves.map fun n => (n.1, { n.2 with relay := none, standby := none }) }
    sys := { s.sys with
      rising := s.sys.rising.filter (·.1 == 12), service := false, wdCount := 0, wdArmed := false, idleStrokes := 0, entropyTaken := 0
      firstFull := none, phase := .gather, resetReq := none, coreResets := s.sys.coreResets + 1 } }

/-- The core held in reset (R85, R471). -/
def State.holdCore (s : State) : State := { s with sys := { s.sys with power := .coreHeld, darkLeft := 0 } }

/-- The cleared domains that were on rise again, configured from the committed Ledger (R74, R83). -/
def State.riseAgain (s : State) : State :=
  powerOrder.foldl (fun (s : State) n => if n ≠ 12 ∧ s.domOn n = true then s.rise n else s) s

/-- Adoption of the Guy latch: the latch stands, the PG count restarts, the gate opens (R90). The release entry receives its
disposition at the first full stroke. -/
def State.adopt (s : State) : State :=
  { s with guy := { s.guy with gateOpen := true }, release := { s.release with count := 0 } }

/-- CORE_RESET: the sequence of R83 runs to the end of step 5: domains cleared, the slot's digest checked, the Ledger restored, the
group settled against the latch, the latch adopted; the first full stroke opens at the next boundary. The fourth core reset
without a full stroke between holds the core, as a digest that differs does (R83, R85, R90, R471).
DEDUCED, log entry 39, unsafe. -/
def execCoreReset (s : State) : Out :=
  if s.sys.power ≠ .dark ∨ s.sys.resetReq = none then .next s
  else
    let c := s.coreCleared
    if 4 ≤ c.sys.coreResets ∨ c.slotDigest c.img.bootB ≠ c.img.digest then .next c.holdCore
    else
      let t := ((c.settleRestore false sparedObj).readRegions.riseAgain).adopt
      .next { t with sys := { t.sys with darkLeft := 1 } }

/-- GUY_LATCH_UPSET: one copy of a field differs from the other two; the majority stands in all three, and the correction is
gathered and counted (R88). -/
def execGuyLatchUpset (fld copy : Nat) (s : State) : Out :=
  if s.sys.power = .aoReset ∨ s.sys.power = .factoryHold then .next s
  else
    let t : State := { s with guy := { s.guy with released := Tri.all s.released, feedEn := Tri.all s.feedEn } }
    .next (t.offer 1 0 [BitVec.ofNat 8 fld, BitVec.ofNat 8 copy] [30])

/-! ## Standby and wake (R91-R93, R440) -/

/-- STANDBY_IDLE: STANDBY_IDLE_S seconds without activity; the device asks itself for standby, and stays up where an entry is
answered BUSY (R91). -/
def execStandbyIdle (s : State) : Out :=
  let n := s.num 0x12000A
  if s.working && n != 0 && decide (s.secStrokes n ≤ s.sys.idleStrokes) && !s.effects.contains .standby then
    let r := s.opStandby firmware
    if r.status = stOK then .next (s.stage (plainUnit 0x0E000000 r.effs [])) else .next s
  else .next s

/-- WAKE by source 1 to 5, where its bit of STANDBY_WAKE_MASK is set: the device resumes, the domains enabled rise, and the wake is
gathered in its first full stroke (R92, R93, R440).
DEDUCED, log entry 33, unsafe. -/
def execWake (source : Nat) (s : State) : Out :=
  if s.sys.power = .standby ∧ s.sys.waking = none ∧ 1 ≤ source ∧ source ≤ 5 ∧ (s.num 0x120008).testBit (source - 1) = true then
    let on := powerOrder.filter fun n => (s.num 0x120004).testBit n && !(s.bivouac && (n == 8 || n == 9))
    let s1 : State := { s with sys := { s.sys with waking := some source, domains := 0x17 } }
    let s2 := on.foldl State.rise s1
    let s3 := if s2.isSlave then s2.setSelf fun p => { p with woken := true } else s2
    .next (s3.offer 1 0 [BitVec.ofNat 8 source] [25, source])
  else .next s

/-- STANDBY_FRAME: a slave answers OK or BUSY, and on OK enters standby at its next Commit (R440). -/
def execStandbyFrame (s : State) : Out :=
  if !s.served then .next s
  else
    let t := s.repeated ⟨10, s.sys.cascId, false, s.masterStroke, []⟩
    if s.standbyBlocked || s.effects.contains .standby then .next (t.sendUp 0x45 (beBytes 1 stBUSY))
    else .next ((t.sendUp 0x45 (beBytes 1 stOK)).stage (plainUnit 0x0A000000 [.standby] []))

/-- A master's standby command ended with BUSY: its request completes so, and the slaves' answers are forgotten (R440).
DESIGN CHOICE, log entry 34, unsafe. -/
def State.standbyOff (s : State) (r : Requester) : State :=
  let t : State := { s with pole := { s.pole with
    standby := none, slaves := s.pole.slaves.map fun n => (n.1, { n.2 with standby := none }) } }
  t.stage (plainUnit 0x0A000000 [.respond r false stBUSY (response 2 stBUSY r.tag false [⟨stBUSY, 0x120007, []⟩])] [])

/-- STANDBY_REPLY: the master holds a slave's answer. Once every admitted slave has answered OK the master enters standby at its next
Commit; one BUSY ends the request (R440). A slave repeats the frame. -/
def execStandbyReply (source status : Nat) (s : State) : Out :=
  if !s.poleUp then .next s
  else if s.isSlave then .next (s.repeated ⟨0x45, 0, false, 0, beBytes 1 status⟩)
  else match s.pole.standby with
    | none => .next s
    | some x =>
      if !(s.isMaster && s.admitted.contains source) then .next s
      else if status ≠ stOK then .next (s.standbyOff x.1)
      else
        let t := s.setSlave source fun r => { r with standby := some status }
        if t.admitted.all (fun n => (t.slaveRec n).standby == some stOK) then
          .next (t.stage (plainUnit 0x0A000000 [.respond x.1 false stOK x.2.2, .poleStandby none, .standby] []))
        else .next t

/-- STANDBY_REPLY_TIMEOUT: a slave has not answered within 4 strokes (R440).
DESIGN CHOICE, log entry 34, unsafe. -/
def execStandbyReplyTimeout (s : State) : Out :=
  match s.pole.standby with
  | some x =>
    if s.poleUp && decide (x.2.1 + 4 < s.sys.stroke) && s.admitted.any (fun n => (s.slaveRec n).standby.isNone) then
      .next (s.standbyOff x.1)
    else .next s
  | none => .next s

end Sys2Proof.Machine
end

