-- ==== Sys2Proof/Machine/Pins.lean ====
section
/-!
DEFINITION. Pins.lean: the strap leads read again at every sheet end, and the JTAG TAP with its boundary-scan and self-test instructions
(R63-R65).
-/

namespace Sys2Proof.Machine

/-! ## Straps (R65) -/

/-- STRAP_CHANGE: at the Commit of a sheet's last stroke the levels of the straps differ from those last seen; levels that differ
from the sampled ones are recorded once (R65). -/
def execStrapChange (levels : Nat) (s : State) : Out :=
  let l := levels % 64
  if s.committing && decide (s.sys.stroke % 64 = 63) && l != s.sys.strapsSeen then
    let t : State := { s with sys := { s.sys with strapsSeen := l } }
    .next (if l = s.strapsByte then t else t.offer 1 0 (beBytes 1 l) [26, l])
  else .next s

/-! ## The TAP (R63, R64) -/

/-- The TAP conforms only under the strap value 0b10 (R63). -/
def State.tapOn (s : State) : Bool := s.sys.power == .scan

/-- Before provisioning the two self-test codes are instructions (R64, R290). -/
def State.unsealed (s : State) : Bool := s.tally 11 == 0

/-- The selected instruction. -/
def State.select (s : State) (code : Nat) : State := { s with sys := { s.sys with tapInstr := code } }

/-- EXTEST: the boundary-scan register is selected and its cells drive the leads; the cells of START_A, START_B_N, PWM, PHEN and LF
leads are observe-only (R63, R64).
DESIGN CHOICE, log entry 27, unsafe. -/
def execExtest (s : State) : Out := if s.tapOn then .next (s.select 0) else .next s

/-- SAMPLE/PRELOAD: the boundary-scan register is selected, `sampled` shifted out and `cells` shifted in (R64).
DESIGN CHOICE, log entry 27, unsafe. -/
def execSamplePreload (cells sampled : Nat) (s : State) : Out :=
  if s.tapOn then
    let t := s.select 1
    .next { t with sys := { t.sys with bsr := cells, tdo := sampled } }
  else .next s

/-- BYPASS, or a code that acts as BYPASS: the bypass register is selected (R64). -/
def execBypass (s : State) : Out := if s.tapOn then .next (s.select 15) else .next s

/-- SELF_TEST_RUN: the first entry to Run-Test/Idle starts the self-test, with PD2 to PD5 powered and the core in reset; after
provisioning the code acts as BYPASS (R64).
DESIGN CHOICE, log entry 27, unsafe. -/
def execSelfTestRun (s : State) : Out :=
  if !s.tapOn then .next s
  else if !s.unsealed then .next (s.select 15)
  else if s.sys.selfTest ≠ 0 then .next (s.select 8)
  else
    let t := s.select 8
    .next { t with mem := [], sys := { t.sys with selfTest := 2 ^ 30, domains := 0x3D } }

/-- SELF_TEST_DONE: the test completes with the five results of R64 in bits 4:0. -/
def execSelfTestDone (results : Nat) (s : State) : Out :=
  if s.tapOn && s.sys.selfTest == 2 ^ 30 then
    .next { s with sys := { s.sys with selfTest := 2 ^ 31 + results % 32, domains := 1 } }
  else .next s

/-- SELF_TEST_RESULT: the self-test register is shifted out; after provisioning the code acts as BYPASS (R64). -/
def execSelfTestResult (s : State) : Out :=
  if !s.tapOn then .next s
  else if !s.unsealed then .next (s.select 15)
  else
    let t := s.select 9
    .next { t with sys := { t.sys with tdo := t.sys.selfTest } }

end Sys2Proof.Machine
end

