-- ==== Sys2Proof/Machine/Dispatch.lean ====
section
/-!
DEFINITION. Dispatch.lean: exec, one arm per command, each one direct call of that command's meaning.
-/

namespace Sys2Proof.Machine

def exec (i : Instr) (s : State) : Host.Outcome State Fault Refusal :=
  match i with
  | .strokeBoundary ref ilim => Sys2Proof.Machine.execStrokeBoundary ref ilim s
  | .gatherClose padA padB corrected bad sram => Sys2Proof.Machine.execGatherClose padA padB corrected bad sram s
  | .unitReRun => Sys2Proof.Machine.execUnitReRun s
  | .workDeadline vhold service finish gate => Sys2Proof.Machine.execWorkDeadline vhold service finish gate s
  | .clockCheckWindow count => Sys2Proof.Machine.execClockCheckWindow count s
  | .powerOnReset pages => Sys2Proof.Machine.execPowerOnReset pages s
  | .aoRelease cascId bootOpt factory => Sys2Proof.Machine.execAoRelease cascId bootOpt factory s
  | .firstStroke vhold => Sys2Proof.Machine.execFirstStroke vhold s
  | .vholdTimeout vhold => Sys2Proof.Machine.execVholdTimeout vhold s
  | .ckAoCrystalStable => Sys2Proof.Machine.execCkAoCrystalStable s
  | .blotterEstimate uf => Sys2Proof.Machine.execBlotterEstimate uf s
  | .vdd3BrownOut cut => Sys2Proof.Machine.execVdd3BrownOut cut s
  | .regulatorFailure cut => Sys2Proof.Machine.execRegulatorFailure cut s
  | .aoBrownOut => Sys2Proof.Machine.execAoBrownOut s
  | .resetN => Sys2Proof.Machine.execResetN s
  | .brownOutWarning => Sys2Proof.Machine.execBrownOutWarning s
  | .brownOutWarningEnd => Sys2Proof.Machine.execBrownOutWarningEnd s
  | .vlfUndervoltage bank => Sys2Proof.Machine.execVlfUndervoltage bank s
  | .vlfOvervoltage bank => Sys2Proof.Machine.execVlfOvervoltage bank s
  | .vlfRelease bank => Sys2Proof.Machine.execVlfRelease bank s
  | .domainEnable r v => Sys2Proof.Machine.execDomainEnable r v s
  | .domainReady n pass => Sys2Proof.Machine.execDomainReady n pass s
  | .subsystemReset r v => Sys2Proof.Machine.execSubsystemReset r v s
  | .watchdog => Sys2Proof.Machine.execWatchdog s
  | .coreFault tagged => Sys2Proof.Machine.execCoreFault tagged s
  | .coreReset => Sys2Proof.Machine.execCoreReset s
  | .guyLatchUpset fld copy => Sys2Proof.Machine.execGuyLatchUpset fld copy s
  | .feedLatchOffClear => Sys2Proof.Machine.execFeedLatchOffClear s
  | .standbyRequest r v => Sys2Proof.Machine.execStandbyRequest r v s
  | .standbyIdle => Sys2Proof.Machine.execStandbyIdle s
  | .wake source => Sys2Proof.Machine.execWake source s
  | .strapChange levels => Sys2Proof.Machine.execStrapChange levels s
  | .extest => Sys2Proof.Machine.execExtest s
  | .samplePreload cells sampled => Sys2Proof.Machine.execSamplePreload cells sampled s
  | .selfTestRun => Sys2Proof.Machine.execSelfTestRun s
  | .selfTestResult => Sys2Proof.Machine.execSelfTestResult s
  | .bypass => Sys2Proof.Machine.execBypass s
  | .selfTestDone results => Sys2Proof.Machine.execSelfTestDone results s
  | .ledgerTransaction => Sys2Proof.Machine.execLedgerTransaction s
  | .transactionDeferred => Sys2Proof.Machine.execTransactionDeferred s
  | .segmentReassemblyTimeout src => Sys2Proof.Machine.execSegmentReassemblyTimeout src s
  | .readSingleLane cmd => Sys2Proof.Machine.execReadSingleLane cmd s
  | .readQuad cmd => Sys2Proof.Machine.execReadQuad cmd s
  | .writeSingleLane cmd data => Sys2Proof.Machine.execWriteSingleLane cmd data s
  | .writeQuad cmd data => Sys2Proof.Machine.execWriteQuad cmd data s
  | .probe cmd => Sys2Proof.Machine.execProbe cmd s
  | .registerWrite page off v => Sys2Proof.Machine.execRegisterWrite page off v s
  | .irqCauseClear page v => Sys2Proof.Machine.execIrqCauseClear page v s
  | .ringIrqStatusClear page w v => Sys2Proof.Machine.execRingIrqStatusClear page w v s
  | .tenantViolatedClear w v => Sys2Proof.Machine.execTenantViolatedClear w v s
  | .tenantReset v => Sys2Proof.Machine.execTenantReset v s
  | .tenantResetComplete t => Sys2Proof.Machine.execTenantResetComplete t s
  | .tenantEnable r v => Sys2Proof.Machine.execTenantEnable r v s
  | .coreResetRequest v => Sys2Proof.Machine.execCoreResetRequest v s
  | .ringEnable page v => Sys2Proof.Machine.execRingEnable page v s
  | .ringDisable page v => Sys2Proof.Machine.execRingDisable page v s
  | .ringDrained page ring => Sys2Proof.Machine.execRingDrained page ring s
  | .hostIdxWrite page ring v => Sys2Proof.Machine.execHostIdxWrite page ring v s
  | .granuleOwnerChange r n v => Sys2Proof.Machine.execGranuleOwnerChange r n v s
  | .ringQuota r quotas => Sys2Proof.Machine.execRingQuota r quotas s
  | .regrantMoved => Sys2Proof.Machine.execRegrantMoved s
  | .qpGo page v => Sys2Proof.Machine.execQpGo page v s
  | .bootLoadWindowClose => Sys2Proof.Machine.execBootLoadWindowClose s
  | .scrubVisit weak => Sys2Proof.Machine.execScrubVisit weak s
  | .scrubRewrite still => Sys2Proof.Machine.execScrubRewrite still s
  | .pageRetirement bad => Sys2Proof.Machine.execPageRetirement bad s
  | .cbcEncrypt lane => Sys2Proof.Machine.execCbcEncrypt lane s
  | .cbcDecrypt lane => Sys2Proof.Machine.execCbcDecrypt lane s
  | .ctr lane => Sys2Proof.Machine.execCtr lane s
  | .gcmEncrypt lane => Sys2Proof.Machine.execGcmEncrypt lane s
  | .gcmDecryptAndVerify lane => Sys2Proof.Machine.execGcmDecryptAndVerify lane s
  | .ccmEncrypt lane => Sys2Proof.Machine.execCcmEncrypt lane s
  | .ccmDecryptAndVerify lane => Sys2Proof.Machine.execCcmDecryptAndVerify lane s
  | .cmacGenerate lane => Sys2Proof.Machine.execCmacGenerate lane s
  | .cmacVerify lane => Sys2Proof.Machine.execCmacVerify lane s
  | .keyDerivation lane => Sys2Proof.Machine.execKeyDerivation lane s
  | .quillCompletion lane => Sys2Proof.Machine.execQuillCompletion lane s
  | .parityFault lane => Sys2Proof.Machine.execParityFault lane s
  | .entropyFault => Sys2Proof.Machine.execEntropyFault s
  | .drbgReseed => Sys2Proof.Machine.execDrbgReseed s
  | .keyLoad r v => Sys2Proof.Machine.execKeyLoad r v s
  | .keyLoadProtected r v => Sys2Proof.Machine.execKeyLoadProtected r v s
  | .keyErase r v => Sys2Proof.Machine.execKeyErase r v s
  | .keyInstall => Sys2Proof.Machine.execKeyInstall s
  | .keySettled pos => Sys2Proof.Machine.execKeySettled pos s
  | .lfActivityStart => Sys2Proof.Machine.execLfActivityStart s
  | .lfBurstEnd current phase under detuned => Sys2Proof.Machine.execLfBurstEnd current phase under detuned s
  | .lfDriverFault ch kind => Sys2Proof.Machine.execLfDriverFault ch kind s
  | .thermalRelease ch => Sys2Proof.Machine.execThermalRelease ch s
  | .regulatoryWindow => Sys2Proof.Machine.execRegulatoryWindow s
  | .lfCarrierChange => Sys2Proof.Machine.execLfCarrierChange s
  | .lfChannelClear r n v => Sys2Proof.Machine.execLfChannelClear r n v s
  | .cradleUplink rx current phase => Sys2Proof.Machine.execCradleUplink rx current phase s
  | .cradleUplinkTimeout current phase => Sys2Proof.Machine.execCradleUplinkTimeout current phase s
  | .handleScan m0 m1 m2 m3 => Sys2Proof.Machine.execHandleScan m0 m1 m2 m3 s
  | .hsStuck ch => Sys2Proof.Machine.execHsStuck ch s
  | .radioWake radio => Sys2Proof.Machine.execRadioWake radio s
  | .radioActivityStart gnt => Sys2Proof.Machine.execRadioActivityStart gnt s
  | .radioActivityEnd radio kind quality stamps fp rx => Sys2Proof.Machine.execRadioActivityEnd radio kind quality stamps fp rx s
  | .packetReceived rx rssi off => Sys2Proof.Machine.execPacketReceived rx rssi off s
  | .radioSleep radio => Sys2Proof.Machine.execRadioSleep radio s
  | .calibration n temp => Sys2Proof.Machine.execCalibration n temp s
  | .calStale n => Sys2Proof.Machine.execCalStale n s
  | .sniffWindow gnt => Sys2Proof.Machine.execSniffWindow gnt s
  | .coexGntLost => Sys2Proof.Machine.execCoexGntLost s
  | .pollStart => Sys2Proof.Machine.execPollStart s
  | .startRequest r v => Sys2Proof.Machine.execStartRequest r v s
  | .wakeListenEnd => Sys2Proof.Machine.execWakeListenEnd s
  | .responseGathered => Sys2Proof.Machine.execResponseGathered s
  | .decision => Sys2Proof.Machine.execDecision s
  | .lockoutWindowClose => Sys2Proof.Machine.execLockoutWindowClose s
  | .lockoutSecondServed => Sys2Proof.Machine.execLockoutSecondServed s
  | .lockoutClear r v => Sys2Proof.Machine.execLockoutClear r v s
  | .heldTelegramExpiry slot => Sys2Proof.Machine.execHeldTelegramExpiry slot s
  | .learnRecord r n v => Sys2Proof.Machine.execLearnRecord r n v s
  | .learnRecordClear r v => Sys2Proof.Machine.execLearnRecordClear r v s
  | .learnStart r v => Sys2Proof.Machine.execLearnStart r v s
  | .learnStage => Sys2Proof.Machine.execLearnStage s
  | .learnVerify => Sys2Proof.Machine.execLearnVerify s
  | .learnPhaseCommit => Sys2Proof.Machine.execLearnPhaseCommit s
  | .learnScrub => Sys2Proof.Machine.execLearnScrub s
  | .learnDone => Sys2Proof.Machine.execLearnDone s
  | .learnSlaveTimeout n => Sys2Proof.Machine.execLearnSlaveTimeout n s
  | .learnHoldTimeout => Sys2Proof.Machine.execLearnHoldTimeout s
  | .csAuth r v => Sys2Proof.Machine.execCsAuth r v s
  | .csTokenAuth r v => Sys2Proof.Machine.execCsTokenAuth r v s
  | .authentication => Sys2Proof.Machine.execAuthentication s
  | .proposalExpiry num => Sys2Proof.Machine.execProposalExpiry num s
  | .protectionSeal r v => Sys2Proof.Machine.execProtectionSeal r v s
  | .debugUnlock r v => Sys2Proof.Machine.execDebugUnlock r v s
  | .debugUnlockExpiry => Sys2Proof.Machine.execDebugUnlockExpiry s
  | .commissionStart r v => Sys2Proof.Machine.execCommissionStart r v s
  | .feedEnable => Sys2Proof.Machine.execFeedEnable s
  | .feedStartDelay => Sys2Proof.Machine.execFeedStartDelay s
  | .switchingBegins track => Sys2Proof.Machine.execSwitchingBegins track s
  | .rampComplete => Sys2Proof.Machine.execRampComplete s
  | .pgDelay => Sys2Proof.Machine.execPgDelay s
  | .pgDrop => Sys2Proof.Machine.execPgDrop s
  | .feedDisable => Sys2Proof.Machine.execFeedDisable s
  | .stopComplete => Sys2Proof.Machine.execStopComplete s
  | .undervoltageEvent => Sys2Proof.Machine.execUndervoltageEvent s
  | .startTimeout => Sys2Proof.Machine.execStartTimeout s
  | .hiccupOffEnd => Sys2Proof.Machine.execHiccupOffEnd s
  | .hiccupCountReset => Sys2Proof.Machine.execHiccupCountReset s
  | .feedFaultClear r v => Sys2Proof.Machine.execFeedFaultClear r v s
  | .feedLock f => Sys2Proof.Machine.execFeedLock f s
  | .syncInLoss => Sys2Proof.Machine.execSyncInLoss s
  | .relock f => Sys2Proof.Machine.execRelock f s
  | .loadStep ready => Sys2Proof.Machine.execLoadStep ready s
  | .loadStepRearm => Sys2Proof.Machine.execLoadStepRearm s
  | .feedConfigApply => Sys2Proof.Machine.execFeedConfigApply s
  | .status seq ref => Sys2Proof.Machine.execStatus seq ref s
  | .setVid seq vid slew ref => Sys2Proof.Machine.execSetVid seq vid slew ref s
  | .feedlineUnknownCmd cmd seq slew ref => Sys2Proof.Machine.execFeedlineUnknownCmd cmd seq slew ref s
  | .feedlineCrcError => Sys2Proof.Machine.execFeedlineCrcError s
  | .exchangeCut clocks => Sys2Proof.Machine.execExchangeCut clocks s
  | .transitionEnd => Sys2Proof.Machine.execTransitionEnd s
  | .ackSet ref => Sys2Proof.Machine.execAckSet ref s
  | .feedlineLost ref => Sys2Proof.Machine.execFeedlineLost ref s
  | .releaseFeedEnable => Sys2Proof.Machine.execReleaseFeedEnable s
  | .releaseOutputs => Sys2Proof.Machine.execReleaseOutputs s
  | .releaseTimeout => Sys2Proof.Machine.execReleaseTimeout s
  | .ignitionOff r v => Sys2Proof.Machine.execIgnitionOff r v s
  | .frameReceived slot a b => Sys2Proof.Machine.execFrameReceived slot a b s
  | .frameSend fid overlaps => Sys2Proof.Machine.execFrameSend fid overlaps s
  | .voteFrame => Sys2Proof.Machine.execVoteFrame s
  | .minislot win heard blind => Sys2Proof.Machine.execMinislot win heard blind s
  | .clockCorrection offset => Sys2Proof.Machine.execClockCorrection offset s
  | .listenTimeout => Sys2Proof.Machine.execListenTimeout s
  | .coldstartFrame => Sys2Proof.Machine.execColdstartFrame s
  | .coldstartComplete => Sys2Proof.Machine.execColdstartComplete s
  | .lossOfSynchronisation => Sys2Proof.Machine.execLossOfSynchronisation s
  | .lineBreak input => Sys2Proof.Machine.execLineBreak input s
  | .wrap => Sys2Proof.Machine.execWrap s
  | .sideRestore side => Sys2Proof.Machine.execSideRestore side s
  | .guardianTrip => Sys2Proof.Machine.execGuardianTrip s
  | .babble side kind source hops => Sys2Proof.Machine.execBabble side kind source hops s
  | .frameVerified => Sys2Proof.Machine.execFrameVerified s
  | .scheduleDecision => Sys2Proof.Machine.execScheduleDecision s
  | .scheduleSwitch => Sys2Proof.Machine.execScheduleSwitch s
  | .scheduleAdoption => Sys2Proof.Machine.execScheduleAdoption s
  | .ridgeIsolate r v => Sys2Proof.Machine.execRidgeIsolate r v s
  | .ridgeRequest r v => Sys2Proof.Machine.execRidgeRequest r v s
  | .ridgeGuardClear r v => Sys2Proof.Machine.execRidgeGuardClear r v s
  | .canFrameReceived k flags id data => Sys2Proof.Machine.execCanFrameReceived k flags id data s
  | .canFrameSent k => Sys2Proof.Machine.execCanFrameSent k s
  | .txLifetimeExpiry k => Sys2Proof.Machine.execTxLifetimeExpiry k s
  | .errorStateChange k tec rec => Sys2Proof.Machine.execErrorStateChange k tec rec s
  | .busOff k => Sys2Proof.Machine.execBusOff k s
  | .busOffHoldExpiry k => Sys2Proof.Machine.execBusOffHoldExpiry k s
  | .canRecover r n v => Sys2Proof.Machine.execCanRecover r n v s
  | .recoveryComplete k => Sys2Proof.Machine.execRecoveryComplete k s
  | .protocolException k => Sys2Proof.Machine.execProtocolException k s
  | .markerReceived marker arrival => Sys2Proof.Machine.execMarkerReceived marker arrival s
  | .echo => Sys2Proof.Machine.execEcho s
  | .echoReply => Sys2Proof.Machine.execEchoReply s
  | .echoReplyReceived rtt => Sys2Proof.Machine.execEchoReplyReceived rtt s
  | .discover => Sys2Proof.Machine.execDiscover s
  | .hello source payload ok => Sys2Proof.Machine.execHello source payload ok s
  | .poleAdmit payload ok => Sys2Proof.Machine.execPoleAdmit payload ok s
  | .admissionEffective => Sys2Proof.Machine.execAdmissionEffective s
  | .refuse reason => Sys2Proof.Machine.execRefuse reason s
  | .refuseRetry => Sys2Proof.Machine.execRefuseRetry s
  | .secondMaster => Sys2Proof.Machine.execSecondMaster s
  | .slaveFirstStroke marker => Sys2Proof.Machine.execSlaveFirstStroke marker s
  | .lfSchedule payload late => Sys2Proof.Machine.execLfSchedule payload late s
  | .radioList payload late => Sys2Proof.Machine.execRadioList payload late s
  | .abortActivity which => Sys2Proof.Machine.execAbortActivity which s
  | .keyContext payload => Sys2Proof.Machine.execKeyContext payload s
  | .learnPage payload => Sys2Proof.Machine.execLearnPage payload s
  | .learnCommit digest => Sys2Proof.Machine.execLearnCommit digest s
  | .standbyFrame => Sys2Proof.Machine.execStandbyFrame s
  | .relay prot msg => Sys2Proof.Machine.execRelay prot msg s
  | .poleItem source cls idx seq val due ok => Sys2Proof.Machine.execPoleItem source cls idx seq val due ok s
  | .poleStatus source payload => Sys2Proof.Machine.execPoleStatus source payload s
  | .learnReport source v => Sys2Proof.Machine.execLearnReport source v s
  | .standbyReply source status => Sys2Proof.Machine.execStandbyReply source status s
  | .relayResponse source msg => Sys2Proof.Machine.execRelayResponse source msg s
  | .standbyReplyTimeout => Sys2Proof.Machine.execStandbyReplyTimeout s
  | .slaveLost n => Sys2Proof.Machine.execSlaveLost n s
  | .slaveStranded => Sys2Proof.Machine.execSlaveStranded s
  | .poleRelay r n v => Sys2Proof.Machine.execPoleRelay r n v s
  | .poleRelayProtected r n v => Sys2Proof.Machine.execPoleRelayProtected r n v s
  | .relayTimeout n => Sys2Proof.Machine.execRelayTimeout n s
  | .exportSelection => Sys2Proof.Machine.execExportSelection s
  | .exportDelivery => Sys2Proof.Machine.execExportDelivery s
  | .folioAck r v => Sys2Proof.Machine.execFolioAck r v s
  | .ackTimeout stream => Sys2Proof.Machine.execAckTimeout stream s
  | .folioNote r n v => Sys2Proof.Machine.execFolioNote r n v s
  | .imageActivate r v => Sys2Proof.Machine.execImageActivate r v s
  | .activationCopy => Sys2Proof.Machine.execActivationCopy s
  | .activationVerified => Sys2Proof.Machine.execActivationVerified s
  | .activationSealed => Sys2Proof.Machine.execActivationSealed s
  | .activationCommitted => Sys2Proof.Machine.execActivationCommitted s
  | .pllLossOfLock => Sys2Proof.Machine.execPllLossOfLock s
  | .pllRelock => Sys2Proof.Machine.execPllRelock s
  | .supervisionLoss side => Sys2Proof.Machine.execSupervisionLoss side s
  | .symbolSyncLoss input => Sys2Proof.Machine.execSymbolSyncLoss input s
  | .symbolSyncRegain input => Sys2Proof.Machine.execSymbolSyncRegain input s
  | .canIntegrationComplete k => Sys2Proof.Machine.execCanIntegrationComplete k s
  | .activationHoldTimeout => Sys2Proof.Machine.execActivationHoldTimeout s

end Sys2Proof.Machine
end

