-- ==== Sys2Proof/Safety.lean ====
section
/-!
DEFINITION. Safety.lean: the terms in which statements speak of a command: that it completes, that it stages one unit and changes
nothing else, and the state predicates of the safety rules.
-/

namespace Sys2Proof.Machine

/-- The command answers a next state of which `P` holds. -/
def Completes (c : Instr) (s : State) (P : State → Prop) : Prop := ∃ t, exec c s = .next t ∧ P t

/-- The command stages one unit of which `P` holds, behind the units staged so far, and changes nothing else: its effect is
applied at the boundary that ends the stroke (R40, R44). -/
def Stages (c : Instr) (s : State) (P : Staged → Prop) : Prop := ∃ u, exec c s = .next (s.stage u) ∧ P u

/-- The unit carries an effect. -/
def Staged.carries (u : Staged) (e : Effect) : Prop := e ∈ u.effs

/-- The unit answers a requester with a final status. -/
def Staged.answers (u : Staged) (r : Requester) (status : Nat) : Prop := ∃ m, Effect.respond r false status m ∈ u.effs

/-- RELEASED stands only with FEED_EN (R88). -/
abbrev State.latchLegal (s : State) : Prop := s.released = true → s.feedEn = true

/-- Nothing of the state changed but what deposits an item: the queue of Gather, the sequence numbers, and on a slave the Pole
frames and the items kept until it is ACTIVE (R35, R434, R440). -/
def OnlyOffers (s t : State) : Prop :=
  { t with gq := s.gq, seqs := s.seqs, pole := { t.pole with out := s.pole.out, kept := s.pole.kept } } = s

/-- An item of class and index with a value waits for the next Gather, under the next sequence number of its source (R34, R35). -/
def Offered (s t : State) (cls idx : Nat) (val : Bytes) : Prop :=
  ∃ aux, t.gq = s.gq ++ [⟨cls, idx, (alookup (cls * 256 + idx) s.seqs).getD 0, val, aux⟩] ∧
    alookup (cls * 256 + idx) t.seqs = some (((alookup (cls * 256 + idx) s.seqs).getD 0 + 1) % 2 ^ 16)

/-- AO reset asserted: every block at its reset value, the latch locked with its gate closed, nothing gathered, staged or in
flight (R78, R88). The counts of free values drawn and of ring enablings are the model's own and go on. -/
def AoReset (t : State) : Prop :=
  { t.sys with free := 0 } = Sys.reset ∧ t.guy = State.reset.guy ∧ t.objs = [] ∧ t.mem = [] ∧ t.gq = [] ∧ t.seqs = [] ∧
    t.gathered = [] ∧ t.staged = [] ∧ t.inflight = [] ∧ { t.host with gens := 0 } = HostPort.reset ∧ t.quill.slots = [] ∧
    t.lf = Lantern.reset ∧ t.radio = Radio.reset ∧ t.tether = Tether.reset ∧ t.people = People.reset ∧ t.feed = Feed.reset ∧
    t.ridge = Ridge.reset ∧ t.can0 = CanCtl.reset ∧ t.can1 = CanCtl.reset ∧ t.pole = Pole.reset

/-- A power-loss marker stands whole in one of its two pages: the cause byte and the stamp of the last boundary (R82, R179). -/
def Marked (t : State) (cause : Nat) (m : Stamp) : Prop :=
  ∃ p j, (p = 1100 ∨ p = 1101) ∧ alookup p t.ink.pages = some j ∧ j.mark = .complete ∧ j.payload = beBytes 1 cause ++ stampLe m

/-- Register accesses of a page are accepted (R132, R136, R150): the port is up and the boot-load window closed, and a tenant is
enabled and not being reset. -/
def RegAccess (s : State) (p : Nat) : Prop :=
  s.portUp = true ∧ s.sys.power ≠ .bootWindow ∧ p ≤ 64 ∧ (p ≠ 0 → s.tenantOn (p - 1) = true ∧ s.tenantState (p - 1) ≠ 1)

/-- A requester as its transport names it: class and index (R100), a TAG of 16 bits (R116). -/
def Known (r : Requester) : Prop :=
  r.tag < 65536 ∧ (r.cls = 0 ∧ r.idx = 64 ∨ r.cls = 1 ∧ r.idx < 64 ∨ r.cls = 2 ∧ r.idx < 256 ∨ r.cls = 3 ∧ r.idx < 256 ∨
    r.cls = 4 ∧ r.idx = 0)

/-- The response to a write fits its buffer (R146). -/
def Roomy (r : Requester) (k : Nat) (v : Bytes) : Prop :=
  ∀ page ring pos gen addr cap, r.via = .ring page ring pos gen addr cap → longestResponse false [⟨true, k, v⟩] ≤ cap

/-- In Work, a write of an object that is not countersigned is let through as it stands: the requester's class may write it, and
the value is legal without a clamp (R101-R106). -/
def State.takes (s : State) (r : Requester) (k : Nat) (v : Bytes) : Prop :=
  s.working = true ∧ Known r ∧ Roomy r k v ∧ v.length ≤ 240 ∧ s.maskOpen r k = true ∧ classBarred r k = false ∧
    s.scheduleBusy k = false ∧ ∃ d, objDef k = some d ∧ s.clampSteps d k 0 v = some []

/-- In Work, a countersigned write is let through: an in-flight entry is free at `pos`, the value is legal, and the hold takes no
wait (R104, R106, R110). -/
def State.takesSigned (s : State) (r : Requester) (k : Nat) (v : Bytes) (pos : Nat) : Prop :=
  s.working = true ∧ Known r ∧ v.length ≤ 240 ∧ s.inflightSlot = some pos ∧ s.maskOpen r k = true ∧ classBarred r k = false ∧
    s.securityLegal k v = true ∧ s.holdBlocks = false ∧ ∃ d, objDef k = some d ∧ s.clampSteps d k 0 v = some []

/-- The command stages one unit of which `P` holds, which opens the in-flight entry of a protected change at `pos` and closes it
DONE, and changes nothing else (R110, R112). -/
def StagesSigned (c : Instr) (s : State) (r : Requester) (pos : Nat) (P : Staged → Prop) : Prop :=
  Stages c s fun u => P u ∧ u.carries (.inflight pos (s.newEntry 3 Config.proposalPhases 0 0 r)) ∧
    u.carries (.inflight pos (s.closed { s.newEntry 3 Config.proposalPhases 0 0 r with phase := Config.proposalPhases } 2 stOK))

end Sys2Proof.Machine
end

