-- ==== Sys2Proof/Certificates/Slice0/Obligations.lean ====
section
/-!
DEFINITION. Obligations.lean: the statements about the PM6464 for the provers. Each docstring names the rules of spec/ it
rests on; an entry of OBLIGATIONS.json says which it states whole.
-/

open Sys2Proof Sys2Proof.Machine

/-- A step takes the command at the front of the queue and runs it with the queue's rest; with none waiting the block idles (log
entry 11). The model's own frame of the commands; R44 and its fellows say what each does.
Readings and choices of the model behind it: log entry 11. -/
def Obligations.StepRunsFrontCommand : Prop :=
  (∀ (s : State) (c : Instr) (rest : List Instr), s.pending = c :: rest → step s = exec c { s with pending := rest }) ∧
  (∀ s : State, s.pending = [] → step s = .next s)

/-- After a power-on reset: stroke 0 and not sampled straps (R30, R59), the Guy latch locked with its gate closed and the start-lock
pair locked (R66, R88), the host port cleared (R134, R139), the pool zero (R147), nothing gathered, staged or in flight, and no
command waiting (log entry 11). -/
def Obligations.ResetState : Prop :=
  State.reset.sys.power = .aoReset ∧ State.reset.sys.stroke = 0 ∧ State.reset.released = false ∧ State.reset.feedEn = false ∧
    State.reset.guy.gateOpen = false ∧ State.reset.startA = false ∧ State.reset.startBN = true ∧ State.reset.host = HostPort.reset ∧
    State.reset.mem = [] ∧ Memory.wf State.reset.mem = true ∧ State.reset.gq = [] ∧ State.reset.staged = [] ∧
    State.reset.inflight = [] ∧ State.reset.feed.state = 0 ∧ State.reset.pending = []

/-- R88: RELEASED stands only with FEED_EN. Every step of the machine keeps it, from every state.
Readings and choices of the model behind it: log entry 11. -/
def Obligations.LatchLegalKept : Prop :=   ∀ s t : State, s.latchLegal → step s = .next t → t.latchLegal

/-- R88: the latch is legal after reset.
Readings and choices of the model behind it: log entries 1, 2, 4, 5, 41, 161. -/
def Obligations.LatchLegalAtReset : Prop :=  State.reset.latchLegal

/-- R66, R88, R89: whatever the command, RELEASED goes from 0 to 1 only at a STROKE_BOUNDARY that ends a stroke whose core reached its
Commit window, with GATE_OPEN set and the output change of a release staged in that stroke; likewise FEED_EN. -/
def Obligations.ReleaseOnlyAtBoundary : Prop :=
  ∀ (c : Instr) (s t : State), exec c s = .next t →
    (s.released = false → t.released = true →
      (∃ ref ilim, c = .strokeBoundary ref ilim) ∧ s.sys.power = .running ∧ s.sys.phase = .commit ∧ s.guy.gateOpen = true ∧
        Effect.latch .setReleased ∈ s.effects) ∧
    (s.feedEn = false → t.feedEn = true →
      (∃ ref ilim, c = .strokeBoundary ref ilim) ∧ s.sys.power = .running ∧ s.sys.phase = .commit ∧ s.guy.gateOpen = true ∧
        Effect.latch .setFeedEn ∈ s.effects)

/-- No command changes the queue of waiting commands; only `step` takes from it.
Readings and choices of the model behind it: log entry 11. -/
def Obligations.QueueUntouched : Prop :=
  ∀ (c : Instr) (s t : State), exec c s = .next t → t.pending = s.pending

/-- Every command, in every state and with every operand, answers a next state: no fault and no refusal.
Readings and choices of the model behind it: log entry 11. -/
def Obligations.EveryCommandAnswers : Prop :=  ∀ (c : Instr) (s : State), ∃ t, exec c s = .next t

/-- R34, R35: a deposited item waits behind those of its kind, under the next sequence number of its own source; the sequence number
wraps at 16 bits; other sources' numbers stand, and nothing else changes, but that on a slave an ITEM frame may leave or the item be
kept (R434, R440).
Readings and choices of the model behind it: log entry 4. -/
def Obligations.OfferDeposits : Prop :=
  ∀ (s : State) (cls idx : Nat) (v : Bytes) (aux : List Nat),
    Offered s (s.offer cls idx v aux) cls idx v ∧ OnlyOffers s (s.offer cls idx v aux) ∧
      (∀ k, k ≠ cls * 256 + idx → alookup k (s.offer cls idx v aux).seqs = alookup k s.seqs) ∧
      (s.sys.cascId = 0 → (s.offer cls idx v aux).pole = s.pole)

/-- R78, R82: a power-on reset, VDD3 below 2.80 V, a regulator failure, VAO below 2.30 V and RESET_N each complete with AO reset asserted,
however far the power-down sequence came.
Readings and choices of the model behind it: log entry 29. -/
def Obligations.LossOfSupplyAssertsAoReset : Prop :=
  ∀ s : State,
    (∀ k, Completes (.powerOnReset k) s AoReset) ∧
    (∀ cut, Completes (.vdd3BrownOut cut) s AoReset) ∧
    (∀ cut, Completes (.regulatorFailure cut) s AoReset) ∧
    Completes .aoBrownOut s AoReset ∧ Completes .resetN s AoReset

/-- R82, R87: where the power-down sequence completes, the power-loss marker holds the cause of the trigger and the stamp of the last
boundary, so that the next boot reads its RESET_CAUSE. -/
def Obligations.PowerDownLeavesMarker : Prop :=
  ∀ s : State, s.sys.power = .running ∨ s.sys.power = .dark →
    Completes (.vdd3BrownOut none) s (fun t => Marked t 1 s.stamp) ∧
    Completes (.regulatorFailure none) s (fun t => Marked t 0 s.stamp) ∧
    Completes .aoBrownOut s (fun t => Marked t 2 s.stamp) ∧
    Completes .resetN s (fun t => Marked t 3 s.stamp)

/-- R59, R61, R62, R76, R429, R477: at AO release the straps are sampled and decide: the factory hold, boundary scan, the boot-load window
with its lines open, or boot itself, which waits for VHOLD or, with no eligible pair, holds. The window's end goes on to boot. The
crystal takes over CK_AO. A slave's first full stroke begins at the master boundary it is given, with stroke number 0.

R73: a domain that has finished powering up is rising no more; its radio, if it is one, is then idle.
Readings and choices of the model behind it: log entry 34. -/
def Obligations.BootAndDomains : Prop :=
  ((∀ (s : State) (cascId bootOpt : Nat), s.sys.power = .aoReset →
       (Completes (.aoRelease cascId bootOpt true) s fun t =>
         t.sys.power = .factoryHold ∧ t.sys.cascId = cascId % 8 ∧ t.sys.bootOpt = bootOpt % 4 ∧ t.sys.factoryTest = true ∧
           { t with sys := s.sys } = s) ∧
       (bootOpt % 4 = 2 → Completes (.aoRelease cascId bootOpt false) s fun t =>
         t.sys.power = .scan ∧ t.sys.cascId = cascId % 8 ∧ { t with sys := s.sys } = s) ∧
       (bootOpt % 4 = 1 → Completes (.aoRelease cascId bootOpt false) s fun t =>
         t.sys.power = .bootWindow ∧ t.host.bwOpen = true ∧ t.sys.cascId = cascId % 8 ∧ t.sys.domains = 0x17 ∧
           { t with sys := s.sys, host := s.host } = s) ∧
       (bootOpt % 4 = 0 ∨ bootOpt % 4 = 3 → Completes (.aoRelease cascId bootOpt false) s fun t =>
         (t.sys.power = .waitVhold ∨ t.sys.power = .bootHold) ∧ t.sys.domains = 0x17 ∧ t.sys.cascId = cascId % 8 ∧
           { t with sys := s.sys, host := s.host, ink := s.ink, img := s.img } = s)) ∧
     (∀ s : State, s.sys.power = .bootWindow → Completes .bootLoadWindowClose s fun t =>
         (t.sys.power = .waitVhold ∨ t.sys.power = .bootHold) ∧ t.sys.domains = 0x17 ∧ t.host.bwOpen = false ∧
           { t with sys := s.sys, host := s.host, ink := s.ink, img := s.img } = s) ∧
     (∀ s : State, s.sys.power ≠ .aoReset → s.sys.power ≠ .factoryHold →
       Completes .ckAoCrystalStable s fun t => t = { s with sys := { s.sys with crystal := true } }) ∧
     (∀ (s : State) (marker : Option Nat), s.sys.power = .waitVhold → s.sys.darkLeft = 1 → s.isSlave = true →
       Completes (.slaveFirstStroke marker) s fun t =>
         t.sys.power = .running ∧ t.sys.phase = .gather ∧ t.sys.stroke = 0 ∧ t.sys.wdArmed = true ∧
           t.pole.self.marked = marker.isSome ∧ t.guy = s.guy ∧ t.staged = s.staged)) ∧
  (∀ (s : State) (n : Nat) (pass : Bool), s.sys.rising.any (fun d => d.1 == n) = true →
       (n = 8 → exec (.domainReady n pass) s = .next { s with
         sys := { s.sys with rising := s.sys.rising.filter fun d => d.1 != n }, radio := { s.radio with uhf := 1 } }) ∧
       (n = 9 → exec (.domainReady n pass) s = .next { s with
         sys := { s.sys with rising := s.sys.rising.filter fun d => d.1 != n }, radio := { s.radio with uwb := 1 } }) ∧
       Completes (.domainReady n pass) s fun t => t.sys.rising.all (fun d => d.1 != n) = true ∧ t.sys.domains = s.sys.domains)

/-- R95-R97: a VDD3 warning and its end change only the supervisor's record of it and deposit a supervisor item, the end with the warning's
duration in strokes. A bank fault sets its bit of VLF_BANK_STATE, turns the bank off until a schedule is committed after release, and
deposits a driver-fault item; release clears the bank's two bits. The Blotter estimate is stored up to 1,000 microfarads and deposited.

R33, R48: the count of a whole window is gathered with its first stroke; a loss of lock of a PLL opens a withdrawn span that is gathered,
and the return of lock closes it with the stroke after.
Readings and choices of the model behind it: log entries 4, 25. -/
def Obligations.SupplyAndClock : Prop :=
  ((∀ s : State, s.supervised = true → s.sys.warnSince = none →
       exec .brownOutWarning s =
         .next (State.offer { s with sys := { s.sys with warnSince := some s.sys.stroke } } 1 0 [1] [21])) ∧
     (∀ (s : State) (n : Nat), s.sys.warnSince = some n →
       exec .brownOutWarningEnd s =
         .next (State.offer { s with sys := { s.sys with warnSince := none } } 1 0 (beBytes 1 0 ++ beBytes 6 (s.sys.stroke - n)) [22])) ∧
     (∀ (s : State) (bank : Nat), s.supervised = true → s.sys.vlfState.testBit (bank % 2) = false →
       Completes (.vlfUndervoltage bank) s fun t => ∃ v aux,
         t = State.offer { s with sys := { s.sys with
           vlfState := setBit s.sys.vlfState (bank % 2) true, vlfWait := setBit s.sys.vlfWait (bank % 2) true } }
           7 (32 * s.sys.cascId + 4 * (bank % 2)) v aux) ∧
     (∀ (s : State) (bank : Nat), s.supervised = true → s.sys.vlfState.testBit (bank % 2 + 2) = false →
       Completes (.vlfOvervoltage bank) s fun t => ∃ v aux,
         t = State.offer { s with sys := { s.sys with
           vlfState := setBit s.sys.vlfState (bank % 2 + 2) true, vlfWait := setBit s.sys.vlfWait (bank % 2) true } }
           7 (32 * s.sys.cascId + 4 * (bank % 2)) v aux) ∧
     (∀ (s : State) (bank : Nat), exec (.vlfRelease bank) s =
         .next { s with sys := { s.sys with vlfState := setBit (setBit s.sys.vlfState (bank % 2) false) (bank % 2 + 2) false } }) ∧
     (∀ (s : State) (uf : Nat), s.sys.power = .waitVhold ∨ s.sys.power = .running →
       exec (.blotterEstimate uf) s = .next (State.offer { s with sys := { s.sys with blotterUf := min uf 1000 } } 1 0
         (beBytes 2 (min uf 1000)) [27, min uf 1000]))) ∧
  ((∀ (s : State) (count : Nat), s.sys.power = .running → s.sys.stroke % 1024 = 0 → s.sys.phase = .gather → s.sys.windowLast = true →
       exec (.clockCheckWindow count) s = .next (State.offer { s with sys := { s.sys with windowLast := false } } 1 0 (beBytes 4 count)
         [20, count, s.sys.stroke - 1024])) ∧
     (∀ s : State, s.sys.pllSince = none → s.sys.power ≠ .aoReset → exec .pllLossOfLock s =
       .next (State.offer { s with sys := { s.sys with pllSince := some s.sys.stroke } } 1 0 [6] [28, s.sys.stroke])) ∧
     (∀ (s : State) (first : Nat), s.sys.pllSince = some first → exec .pllRelock s =
       .next (State.offer { s with sys := { s.sys with
         pllSince := none
         spans := s.sys.spans ++ [(⟨6, first, s.sys.stroke + 1⟩ : Span)] } } 1 0 [7]
         [29, first, s.sys.stroke + 1])))

/-- R76, R77, R429: with VHOLD at 4.50 V, or 1,000 ms without it, a master opens stroke 0 in Gather with GATE_OPEN set, the watchdog armed and
VHOLD_STATE as found, ABSENT being gathered; a slave waits one boundary for its master. The latch keeps its fields. -/
def Obligations.FirstStrokeOpens : Prop :=
  ∀ (s : State) (vhold : Nat), s.sys.power = .waitVhold → s.sys.darkLeft = 0 →
    (4500 ≤ vhold →
      (s.sys.cascId = 0 → Completes (.firstStroke vhold) s fun t =>
        t.sys.power = .running ∧ t.sys.phase = .gather ∧ t.sys.stroke = 0 ∧ t.sys.wdArmed = true ∧ t.sys.vholdState = 1 ∧
          t.guy = { s.guy with gateOpen := true }) ∧
      (s.sys.cascId ≠ 0 → Completes (.firstStroke vhold) s fun t =>
        t.sys.power = .waitVhold ∧ t.sys.darkLeft = 1 ∧ t.guy = { s.guy with gateOpen := true })) ∧
    (vhold < 4500 → s.sys.cascId = 0 → Completes (.vholdTimeout vhold) s fun t =>
        t.sys.power = .running ∧ t.sys.phase = .gather ∧ t.sys.stroke = 0 ∧ t.sys.vholdState = 2 ∧
          t.guy = { s.guy with gateOpen := true } ∧ (∃ i ∈ t.gq, i.cls = 1 ∧ i.idx = 0 ∧ i.val = [2]))

/-- R80, R81, R83, R85, R88, R90: the watchdog strikes in the stroke whose boundary found the count at WATCHDOG_STROKES, a core fault at once;
a strike makes the stroke dark, closes GATE_OPEN, keeps RELEASED and FEED_EN, and keeps the cause. The reset's sequence ends with the
latch adopted, its fields as they stood and the gate open, one boundary before the first full stroke; the fourth reset without a full
stroke, and a slot whose digest differs, hold the core with the gate as it was.
Readings and choices of the model behind it: log entries 29, 30, 32, 38, 39, 40. -/
def Obligations.CoreResets : Prop :=
  (∀ s : State, s.sys.power = .running → s.sys.phase = .gather → s.sys.wdArmed = true → s.num 0x120014 ≤ s.sys.wdCount →
    exec .watchdog s = .next (s.strike 4 ⟨s.boot, s.sys.stroke - 1⟩)) ∧
  (∀ s : State, s.sys.power = .running ∨ s.sys.power = .dark → exec (.coreFault true) s = .next (s.strike 6 s.stamp)) ∧
  (∀ s : State, s.sys.power = .running ∨ s.sys.power = .dark →
    exec (.coreFault false) s = .next ((s.cutGroup s.openPages).strike 6 s.stamp)) ∧
  (∀ (s : State) (cause : Nat) (m : Stamp), (s.strike cause m).sys.power = .dark ∧ (s.strike cause m).sys.resetReq = some cause ∧
    (s.strike cause m).sys.resetPend = some (cause, m) ∧ (s.strike cause m).sys.wdArmed = false ∧
    (s.strike cause m).guy = { s.guy with gateOpen := false } ∧
    { s.strike cause m with guy := s.guy, sys := s.sys } = s) ∧
  (∀ s : State, s.sys.power = .dark → s.sys.resetReq ≠ none →
    (4 ≤ s.sys.coreResets + 1 ∨ s.coreCleared.slotDigest s.img.bootB ≠ s.img.digest → Completes .coreReset s fun t =>
      t.sys.power = .coreHeld ∧ t.guy = s.guy ∧ t.mem = [] ∧ t.staged = []) ∧
    (s.sys.coreResets + 1 < 4 → s.coreCleared.slotDigest s.img.bootB = s.img.digest → Completes .coreReset s fun t =>
      t.sys.darkLeft = 1 ∧ t.guy = { s.guy with gateOpen := true } ∧ t.release.count = 0))

/-- R88, R89, R326: a copy that differs is corrected to the majority of the three, which the reading of the field does not notice, and the
correction is gathered. Feed's latch-off clears both fields at a boundary, whether or not the core runs, with GUY_LATCH_CAUSE 4 and the
stamp of that boundary, and leaves an item for the next Gather. -/
def Obligations.GuyLatchUpsetAndLatchOff : Prop :=
  (∀ (s : State) (fld copy : Nat), s.sys.power ≠ .aoReset → s.sys.power ≠ .factoryHold → Completes (.guyLatchUpset fld copy) s fun t =>
      t.guy = ⟨Tri.all s.released, Tri.all s.feedEn, s.guy.gateOpen⟩ ∧ t.released = s.released ∧ t.feedEn = s.feedEn ∧
        Offered s t 1 0 [BitVec.ofNat 8 fld, BitVec.ofNat 8 copy] ∧ OnlyOffers s { t with guy := s.guy }) ∧
  (∀ s : State, s.feed.state = 9 → s.released = true ∨ s.feedEn = true → Completes .feedLatchOffClear s fun t =>
      t.released = false ∧ t.feedEn = false ∧ t.guy.gateOpen = s.guy.gateOpen ∧ t.num 0x12000C = 4 ∧
        t.raw 0x12000D = stampBytes s.stamp ∧ Offered s t 1 0 (beBytes 1 4 ++ beBytes 1 (b2n s.released)) ∧
        OnlyOffers s { t with guy := s.guy, objs := s.objs, folio := s.folio })

/-- R91-R93, R440: an idle device with nothing open stages its own entry to standby; a wake source enabled in STANDBY_WAKE_MASK is
remembered and gathered; a slave answers STANDBY with OK and stages the entry, or BUSY and does not; a master's request ends with the first
BUSY, with the last OK enters standby, and ends when an answer is overdue.
Readings and choices of the model behind it: log entries 33, 34, 147. -/
def Obligations.StandbyAndWake : Prop :=
  (∀ s : State, s.working = true → s.num 0x12000A ≠ 0 → s.secStrokes (s.num 0x12000A) ≤ s.sys.idleStrokes →
    s.effects.contains .standby = false → s.standbyBlocked = false → (s.isMaster && s.poleUp) = false →
    exec .standbyIdle s = .next (s.stage (plainUnit 0x0E000000 [.standby] []))) ∧
  (∀ (s : State) (source : Nat), s.sys.power = .standby → s.sys.waking = none → 1 ≤ source → source ≤ 5 →
    (s.num 0x120008).testBit (source - 1) = true → Completes (.wake source) s fun t =>
      t.sys.waking = some source ∧ t.sys.power = .standby ∧ Offered s t 1 0 [BitVec.ofNat 8 source]) ∧
  (∀ s : State, s.served = true →
    ((s.standbyBlocked || s.effects.contains .standby) = false → exec .standbyFrame s =
      .next (((s.repeated ⟨10, s.sys.cascId, false, s.masterStroke, []⟩).sendUp 0x45 (beBytes 1 stOK)).stage
        (plainUnit 0x0A000000 [.standby] []))) ∧
    ((s.standbyBlocked || s.effects.contains .standby) = true → exec .standbyFrame s =
      .next ((s.repeated ⟨10, s.sys.cascId, false, s.masterStroke, []⟩).sendUp 0x45 (beBytes 1 stBUSY)))) ∧
  (∀ (s : State) (source status : Nat) (x : Requester × Nat × Bytes), s.poleUp = true → s.isSlave = false → s.pole.standby = some x →
    s.isMaster = true → s.admitted.contains source = true →
    (status ≠ stOK → exec (.standbyReply source status) s = .next (s.standbyOff x.1)) ∧
    (status = stOK →
      (s.setSlave source fun r => { r with standby := some stOK }).admitted.all
        (fun n => ((s.setSlave source fun r => { r with standby := some stOK }).slaveRec n).standby == some stOK) = true →
      exec (.standbyReply source status) s = .next ((s.setSlave source fun r => { r with standby := some stOK }).stage
        (plainUnit 0x0A000000 [.respond x.1 false stOK x.2.2, .poleStandby none, .standby] [])))) ∧
  (∀ (s : State) (x : Requester × Nat × Bytes), s.pole.standby = some x → s.poleUp = true → x.2.1 + 4 < s.sys.stroke →
    s.admitted.any (fun n => (s.slaveRec n).standby.isNone) = true → exec .standbyReplyTimeout s = .next (s.standbyOff x.1))

/-- R63-R65: a strap level that differs at a sheet end is seen, and gathered unless it equals the sampled one. The TAP answers only in the
boundary-scan mode: each instruction selects its register; the self-test runs once, with its five results, and before provisioning only.
Readings and choices of the model behind it: log entries 4, 27. -/
def Obligations.StrapsAndTap : Prop :=
  (∀ (s : State) (levels : Nat), s.committing = true → s.sys.stroke % 64 = 63 → levels % 64 ≠ s.sys.strapsSeen →
    levels % 64 ≠ State.strapsByte { s with sys := { s.sys with strapsSeen := levels % 64 } } →
    exec (.strapChange levels) s =
      .next (State.offer { s with sys := { s.sys with strapsSeen := levels % 64 } } 1 0 (beBytes 1 (levels % 64)) [26, levels % 64])) ∧
  (∀ s : State, s.tapOn = true →
    exec .extest s = .next { s with sys := { s.sys with tapInstr := 0 } } ∧
    (∀ cells sampled, exec (.samplePreload cells sampled) s =
      .next { s with sys := { s.sys with tapInstr := 1, bsr := cells, tdo := sampled } }) ∧
    exec .bypass s = .next { s with sys := { s.sys with tapInstr := 15 } } ∧
    (s.unsealed = true → s.sys.selfTest = 0 → exec .selfTestRun s =
      .next { s with mem := [], sys := { s.sys with tapInstr := 8, selfTest := 2 ^ 30, domains := 0x3D } }) ∧
    (s.unsealed = false → exec .selfTestRun s = .next { s with sys := { s.sys with tapInstr := 15 } } ∧
      exec .selfTestResult s = .next { s with sys := { s.sys with tapInstr := 15 } }) ∧
    (∀ results, s.sys.selfTest = 2 ^ 30 → exec (.selfTestDone results) s =
      .next { s with sys := { s.sys with selfTest := 2 ^ 31 + results % 32, domains := 1 } }) ∧
    (s.unsealed = true → exec .selfTestResult s = .next { s with sys := { s.sys with tapInstr := 9, tdo := s.sys.selfTest } }))

/-- R130-R132: while the port is up every transfer drives a status pair, the status and its complement, before anything else: OK with the
words read and their CRC-16, or a refusal by the rules of R131 with zeros as data; while it is not, the lines read as zeros and nothing
changes but the answer.
Readings and choices of the model behind it: log entries 54, 148. -/
def Obligations.HostTransfers : Prop :=
  (∀ (s : State) (cmd data : Bytes), s.portUp = false →
    Completes (.readSingleLane cmd) s (fun t => t = { s with host := { s.host with reply := zeros (4 + 4 * cmdWords cmd) } }) ∧
    Completes (.readQuad cmd) s (fun t => t = { s with host := { s.host with reply := zeros (4 + 4 * cmdWords cmd) } }) ∧
    Completes (.writeSingleLane cmd data) s (fun t => t = { s with host := { s.host with reply := zeros 2 } }) ∧
    Completes (.writeQuad cmd data) s (fun t => t = { s with host := { s.host with reply := zeros 2 } }) ∧
    Completes (.probe cmd) s (fun t => t = { s with host := { s.host with reply := zeros 2 } })) ∧
  (∀ (s : State) (cmd : Bytes), s.portUp = true →
    Completes (.readSingleLane cmd) s (fun t => t.host.reply.take 2 = statusPair (s.transferStatus 0xA1 cmd true) ∧
      t.mem = s.mem ∧ (s.transferStatus 0xA1 cmd true ≠ stOK → (t.host.reply.drop 2).take (4 * cmdWords cmd) = zeros (4 * cmdWords cmd))) ∧
    Completes (.readQuad cmd) s (fun t => t.host.reply.take 2 = statusPair (s.transferStatus 0xA4 cmd true) ∧
      t.mem = s.mem ∧ (s.transferStatus 0xA4 cmd true ≠ stOK → (t.host.reply.drop 2).take (4 * cmdWords cmd) = zeros (4 * cmdWords cmd))) ∧
    Completes (.probe cmd) s (fun t => t.host.reply = statusPair (s.transferStatus 0xE0 cmd true) ∧ t.mem = s.mem)) ∧
  (∀ (s : State) (cmd data : Bytes) (st : Nat), s.portUp = true → 4 * cmdWords cmd + 2 ≤ data.length → st ≠ stOK →
    (s.transferStatus 0xB1 cmd (crc16 (data.take (4 * cmdWords cmd)) == beNat (slice data (4 * cmdWords cmd) 2)) = st →
      exec (.writeSingleLane cmd data) s = .next (s.answer st [])) ∧
    (s.transferStatus 0xB4 cmd (crc16 (data.take (4 * cmdWords cmd)) == beNat (slice data (4 * cmdWords cmd) 2)) = st →
      exec (.writeQuad cmd data) s = .next (s.answer st []))) ∧
  (∀ (s : State) (cmd data : Bytes), s.portUp = true → s.sys.power ≠ .bootWindow → 4 * cmdWords cmd + 2 ≤ data.length →
    cmdPage cmd = 0 → cmdOff cmd = 0x014 → cmdWords cmd = 1 →
    (s.transferStatus 0xB1 cmd (crc16 (data.take 4) == beNat (slice data 4 2)) = stOK → exec (.writeSingleLane cmd data) s =
      .next ((s.setPage 0 { s.page 0 with irqEnable := beNat (data.take 4) % 128 }).answer stOK [])) ∧
    (s.transferStatus 0xB4 cmd (crc16 (data.take 4) == beNat (slice data 4 2)) = stOK → exec (.writeQuad cmd data) s =
      .next ((s.setPage 0 { s.page 0 with irqEnable := beNat (data.take 4) % 128 }).answer stOK [])))

/-- R132, R134, R136, R137, R148, R150, R151, R199: a register write of an enabled page takes the effect of its register: IRQ_ENABLE and
WINDOW are stored in their bits, IRQ_CAUSE, RING_IRQ_STATUS and TENANT_VIOLATED are cleared by ones, TENANT_RESET needs its key, the two words
of CORE_RESET in order ask for a core reset and any other word cancels, and QP_GO starts an operation. A write by a disabled tenant
changes nothing but the record of the violation.
Readings and choices of the model behind it: log entries 4, 57. -/
def Obligations.HostRegisters : Prop :=
  (∀ (s : State) (p v : Nat), RegAccess s p →
    exec (.registerWrite p 0x014 v) s = .next (s.setPage p { s.page p with irqEnable := v % 2 ^ 32 % 128 }) ∧
    exec (.registerWrite p 0x040 v) s = .next (s.setPage p { s.page p with window := v % 2 ^ 32 &&& 0x17F }) ∧
    exec (.irqCauseClear p v) s = .next (s.opIrqClear p (v % 2 ^ 32)) ∧
    (∀ w, exec (.ringIrqStatusClear p w v) s = .next (s.opRingIrqClear p (w % 4) (v % 2 ^ 32))) ∧
    (s.pathPage p = true → (s.page p).qpStatus.testBit 0 = false → s.domReady 5 = true →
      exec (.qpGo p 1) s = .next (s.setPage p { s.page p with qpStatus := 1 }))) ∧
  (∀ (s : State) (p off v : Nat), s.portUp = true → s.sys.power ≠ .bootWindow → p ≤ 64 → p ≠ 0 → s.tenantOn (p - 1) = false →
    off < 4096 → off % 4 = 0 → exec (.registerWrite p off v) s = .next (s.violate p off true)) ∧
  (∀ s : State, RegAccess s 0 →
    (∀ w v, exec (.tenantViolatedClear w v) s = .next (s.opViolatedClear (w % 2) (v % 2 ^ 32))) ∧
    (∀ n, n < 64 → exec (.tenantReset (0xA700 + n)) s = .next (s.offer 0x0D 64 [] [5, n])) ∧
    exec (.coreResetRequest 0xC5) s = .next { s with host := { s.host with coreSeq := true } } ∧
    (s.host.coreSeq = true → exec (.coreResetRequest 0x3A) s =
      .next (State.offer { s with host := { s.host with coreSeq := false } } 0x0D 64 [] [6])) ∧
    (∀ v, v < 2 ^ 32 → v ≠ 0xC5 → v ≠ 0x3A → exec (.coreResetRequest v) s = .next { s with host := { s.host with coreSeq := false } }))

/-- R139-R141: RING_CFG with ENABLE activates the selected ring where its type, its completion ring, its table and the pool allow: both
indices 0, ERROR 0, nothing taken; else ERROR is NO_SUCH_OBJECT and the ring stays inactive. ENABLE clear on an active ring makes it drain,
and it is inactive once its descriptors have completed. HOST_IDX within the ring is stored, beyond it the write is dropped with ERROR DENIED.

R150, R152: the reset of a tenant ends at its stroke with READY staged for the Commit; phase 2 of a ring re-grant is staged once every
closing ring is idle, or 8 strokes after phase 1, and closes its entries DONE.
Readings and choices of the model behind it: log entries 18, 56. -/
def Obligations.RingsAndTenants : Prop :=
  ((∀ (s : State) (p v : Nat), RegAccess s p → v < 2 ^ 32 →
       let n := (s.page p).ringSel
       let r := s.ring p n
       let cfg := (v ||| 1) &&& 0x7F01FE
       n < s.ringCount p → r.active = false →
       (bits cfg 3 1 = 3 ∨ bits cfg 3 1 = 2 → s.ownsRun p r.base (32 * Ring.size { r with cfg := cfg }) = true → s.domReady 3 = true →
         Completes (.ringEnable p v) s fun t => t.ring p n = { r with
           cfg := cfg, active := true, draining := false, hostIdx := 0, devIdx := 0, error := 0, taken := [], gen := s.host.gens + 1 }) ∧
       (s.domReady 3 = false → Completes (.ringEnable p v) s fun t =>
         (t.ring p n).active = false ∧ (t.ring p n).error = stNO_SUCH_OBJECT)) ∧
     (∀ (s : State) (p v : Nat), RegAccess s p → (s.page p).ringSel < s.ringCount p → (s.ring p (s.page p).ringSel).active = true →
       exec (.ringDisable p v) s = .next (s.setRing { s.ring p (s.page p).ringSel with draining := true })) ∧
     (∀ (s : State) (p n : Nat), (s.ring p n).draining = true → (s.ring p n).taken = [] →
       exec (.ringDrained p n) s = .next (s.setRing { s.ring p n with draining := false, active := false })) ∧
     (∀ (s : State) (p n v : Nat), RegAccess s p → n < 128 → n < s.ringCount p → v < 2 ^ 13 → (s.ring p n).active = true →
       (s.ring p n).closing = false → (s.ring p n).type ≠ 2 →
       (v < 2 * (s.ring p n).size → (s.ring p n).ready ≤ (s.ring p n).dist (s.ring p n).devIdx v →
         (s.ring p n).dist (s.ring p n).devIdx v ≤ (s.ring p n).size →
         exec (.hostIdxWrite p n v) s = .next (s.setRing { s.ring p n with hostIdx := v })) ∧
       (2 * (s.ring p n).size ≤ v ∨ (s.ring p n).size < (s.ring p n).dist (s.ring p n).devIdx v →
         exec (.hostIdxWrite p n v) s = .next (s.ringError (s.ring p n) stDENIED)))) ∧
  ((∀ (s : State) (n due : Nat), alookup n s.host.resets = some due → s.sys.power = .running → s.sys.phase ≠ .gather → due ≤ s.sys.stroke →
       exec (.tenantResetComplete n) s = .next (s.stage (plainUnit 0x0D400000 [.tenantReady n] []))) ∧
     (∀ (s : State) (pos first : Nat), s.host.regrants = [(pos, first)] → s.working = true →
       ((s.host.rings.filter (·.closing)).all (·.idle) = true ∨ first + 8 ≤ s.sys.stroke) →
       exec .regrantMoved s = .next (s.stage (plainUnit 0x0E000000
         [.regrantMove, .inflight pos (s.closed (s.phased (s.inflightAt pos) 2) 2 stOK)] []))))

/-- R107, R109, R119, R121: the first gathered request is answered as one unit of the stroke: a message whose CRC fails is counted and
dropped, one that is malformed is answered DENIED, a response or an event is ignored. A deferred transaction leads this stroke's units.
A reassembly 20 strokes old is dropped and counted.
Readings and choices of the model behind it: log entry 51. -/
def Obligations.LedgerMessages : Prop :=
  (∀ (s : State) (i : Item), s.working = true → s.gathered.find? Item.isRequest = some i →
    (parseRequest i.val = .discard → exec .ledgerTransaction s = .next ((s.consume i).countObj 0x730004 1)) ∧
    (parseRequest i.val = .ignored → exec .ledgerTransaction s = .next (s.consume i)) ∧
    (parseRequest i.val = .malformed → exec .ledgerTransaction s = .next ((s.consume i).stage (plainUnit i.key
      [.respond i.requester false stDENIED (response 2 stDENIED i.requester.tag false [])] []))) ∧
    (∀ echo body es, parseRequest i.val = .request echo body es → (∀ page ring pos gen addr cap,
        i.requester.via = .ring page ring pos gen addr cap → longestResponse echo es ≤ cap) →
      exec .ledgerTransaction s = .next (((s.consume i).transact i.key i.requester echo body es).getD ((s.consume i).cancelItem i)))) ∧
  (∀ (s : State) (u : Staged) (rest : List Staged), s.working = true → s.deferred = u :: rest →
    exec .transactionDeferred s = .next { s with deferred := rest, staged := { u with key := 0 } :: s.staged }) ∧
  (∀ (s : State) (src : Nat) (r : Reasm), s.reasm = [r] → r.src = src → r.first + 20 ≤ s.sys.stroke →
    Completes (.segmentReassemblyTimeout src) s fun t => t.reasm = [] ∧ t.shadow 5 = (s.shadow 5 + 1) % 2 ^ 32)

/-- R74, R86, R91, R109, R147, R150, R153, R440: what one unit stages for an accepted write of DOMAIN_ENABLE, SUBSYSTEM_RESET, STANDBY_REQUEST,
TENANT_ENABLE and GRANULE_OWNER, with the response. A subsystem reset of Feed waits for FEED_EN; standby of a master asks its slaves and
withholds the response; a tenant whose bit clears is reset; a granule whose owner changes is cleared.
Readings and choices of the model behind it: log entries 42, 46, 48, 51, 53. -/
def Obligations.WritesOfTheSystem : Prop :=
  ∀ (s : State) (r : Requester) (v : Bytes),
    (s.takes r 0x120004 v → Stages (.domainEnable r v) s fun u =>
      u.carries (.obj 0x120004 v) ∧ u.carries (.domains (beNat v)) ∧ u.answers r stOK ∧
        u.recs = if s.num 0x120004 = beNat v then [] else [s.recObj 3 0x120004 r.cls r.idx v]) ∧
    (s.takes r 0x120006 v →
      (beNat v ≠ 0 → (beNat v = 8 → s.feedEn = false) → Stages (.subsystemReset r v) s fun u =>
        u.carries (.subsystem (beNat v)) ∧ u.answers r stOK) ∧
      (beNat v = 8 → s.feedEn = true → Completes (.subsystemReset r v) s fun t => ∃ u, t.staged = s.staged ++ [u] ∧
        u.answers r stBUSY ∧ ∀ n, ¬ u.carries (.subsystem n))) ∧
    (s.takes r 0x120007 v → beNat v = 1 → s.standbyBlocked = false →
      ((if s.isMaster && s.poleUp then s.admitted else []) = [] → Stages (.standbyRequest r v) s fun u =>
        u.carries .standby ∧ u.answers r stOK) ∧
      (∀ n, n ∈ (if s.isMaster && s.poleUp then s.admitted else []) → Stages (.standbyRequest r v) s fun u =>
        u.carries (.poleSend ⟨10, n, false, s.sys.stroke + 1, []⟩) ∧ (∃ m, u.carries (.poleStandby (some (r, s.sys.stroke, m)))) ∧
          ∀ st, ¬ u.answers r st)) ∧
    (s.takes r 0x3A0001 v → Stages (.tenantEnable r v) s fun u =>
      u.carries (.obj 0x3A0001 v) ∧ u.answers r stOK ∧
        ∀ n, n < 64 → s.tenantOn n = true → (beNat v).testBit n = false → u.carries (.tenantReset n true)) ∧
    (∀ n, s.takes r (0x3A1201 + n % 96) v → Stages (.granuleOwnerChange r n v) s fun u =>
      u.carries (.obj (0x3A1201 + n % 96) v) ∧ u.answers r stOK ∧ (beNat v ≠ s.granuleOwner (n % 96) → u.carries (.granule (n % 96))))

/-- R191-R193: KEY_LOAD and KEY_LOAD_PROTECTED open their entry and queue the install on queue 3; KEY_ERASE opens its entry, erases the
slot at its Commit and raises its generation, unless the generation is at its last value: COUNTER_STUCK.
Readings and choices of the model behind it: log entries 18, 47, 48, 73. -/
def Obligations.WritesOfKeys : Prop :=
  ∀ (s : State) (r : Requester) (v : Bytes) (pos : Nat),
    (s.takes r 0x381001 v → slotAllowed false (loadSlot v) = true → loadLegal v = true →
      loadExpect v = (s.slotView (loadSlot v)).gen → (s.slotView (loadSlot v)).gen ≠ 2 ^ 32 - 1 →
      (loadWrapped v = true ∨ s.num 0x380008 ≠ 0) → s.inflightSlot = some pos → Stages (.keyLoad r v) s fun u =>
        u.carries (.inflight pos (s.newEntry 5 2 (loadSlot v) 0 r)) ∧ u.carries (.keyLoad ⟨pos, loadSlot v, loadExpect v, v, false⟩) ∧
          u.carries (.quillQueue ⟨3, 5, 0, loadSlot v, none, [], [], v, [], 0, [pos]⟩) ∧ u.answers r stPENDING) ∧
    (s.takesSigned r 0x381003 v pos → slotAllowed true (loadSlot v) = true → loadLegal v = true →
      loadExpect v = (s.slotView (loadSlot v)).gen → (s.slotView (loadSlot v)).gen ≠ 2 ^ 32 - 1 →
      (loadWrapped v = true ∨ s.num 0x380008 ≠ 0) →
      (s.stage (plainUnit 0 [.inflight pos (s.newEntry 3 Config.proposalPhases 0 0 r)] [])).inflightSlot ≠ none →
      StagesSigned (.keyLoadProtected r v) s r pos fun u => ∃ p,
        u.carries (.inflight p (s.newEntry 5 2 (loadSlot v) 0 r)) ∧ u.carries (.keyLoad ⟨p, loadSlot v, loadExpect v, v, false⟩) ∧
          u.answers r stPENDING) ∧
    (s.takes r 0x381002 v → slotAllowed false (byteAt v 0) = true → byteAt v 1 < 2 → slice v 2 2 = zeros 2 →
      beNat (slice v 4 4) = (s.slotView (byteAt v 0)).gen →
      (beNat (slice v 4 4) ≠ 2 ^ 32 - 1 → s.inflightSlot = some pos → Stages (.keyErase r v) s fun u =>
        u.carries (.inflight pos (s.newEntry 5 2 (byteAt v 0) 1 r)) ∧ u.carries (.keyErase (byteAt v 0) pos ((byteAt v 1).testBit 0)) ∧
          u.answers r stPENDING ∧ u.recs = [s.keyRec (byteAt v 0) 0 r.cls r.idx] ∧
          u.pairs = s.keyWrites (byteAt v 0) { s.slotView (byteAt v 0) with key := [], state := 0, gen := beNat (slice v 4 4) + 1 }) ∧
      (beNat (slice v 4 4) = 2 ^ 32 - 1 → Completes (.keyErase r v) s fun t => ∃ u, t.staged = s.staged ++ [u] ∧
        u.answers r stCOUNTER_STUCK ∧ u.pairs = []))

/-- R223, R259, R290, R293, R294, R300, R307: what one unit stages for an accepted write of LF_CHANNEL_CLEAR, START_REQUEST, LEARN_RECORD,
LEARN_RECORD_CLEAR, CS_AUTH, CS_TOKEN_AUTH, PROTECTION_SEAL and COMMISSION_START, with the response. A start request with no exchange running
and no telegram held opens the listen window, with another running it is held; a token's countersign is held likewise.
Readings and choices of the model behind it: log entries 18, 48, 51, 53, 58, 95, 98, 143. -/
def Obligations.WritesOfTheCabin : Prop :=
  ∀ (s : State) (r : Requester) (v : Bytes) (pos : Nat),
    (∀ n, s.takes r (0x200C01 + n % 8) v → beNat v = 1 → Stages (.lfChannelClear r n v) s fun u =>
      u.carries (.lfClear (n % 8)) ∧ u.answers r stOK) ∧
    (s.takes r 0x2C0201 v → beNat v = 1 → s.released = false → s.releasing = false → s.tether.waiting = none → s.holdBlocks = false →
      s.inflightSlot = some pos →
      (s.tether.run = none → s.bivouac = false → s.newestWake = none → Stages (.startRequest r v) s fun u =>
        u.carries (.inflight pos (s.newEntry 2 3 0 0 r)) ∧ u.answers r stPENDING ∧
          u.carries (.exchange (some { s.newExchange 2 0xFE (s.num 0x2C0004) (some pos) [] with phase := .listening })) ∧
          u.carries (.radioList ⟨[s.uhfEntry 1 (s.sys.stroke + 1) 0 [] (1000 * s.num 0x2C0003)], false⟩)) ∧
      (s.tether.run ≠ none → (s.bivouac = true → s.hasCradle = true) → Stages (.startRequest r v) s fun u =>
        u.carries (.inflight pos (s.newEntry 2 3 0 0 r)) ∧ u.carries (.holdStart (some ⟨some pos, 0⟩)) ∧ u.answers r stPENDING)) ∧
    (∀ n, s.takes r (0x302001 + n % 64) v → s.learning = false → Stages (.learnRecord r n v) s fun u =>
      u.carries (.learnRecord (n % 64) v) ∧ u.answers r stOK) ∧
    (s.takes r 0x301004 v → beNat v = 1 → s.learning = false → Stages (.learnRecordClear r v) s fun u =>
      u.carries .learnClear ∧ u.answers r stOK) ∧
    (∀ q, s.takes r 0x681001 v → s.proposalsNow.find? (·.num == beNat (slice v 0 2)) = some q → 0x40 ≤ byteAt v 2 →
      s.isMember (byteAt v 2) = true → Stages (.csAuth r v) s fun u => u.answers r stOK ∧
        u.carries (.quillQueue ⟨3, 3, 9, byteAt v 2, none, [], [],
          [0x31] ++ beBytes 1 (byteAt v 2) ++ beBytes 2 (beNat (slice v 0 2)) ++ q.digest ++ q.challenge, slice v 4 16, 0,
          [beNat (slice v 0 2), byteAt v 2]⟩)) ∧
    (∀ q, s.takes r 0x681002 v → s.proposalsNow.find? (·.num == beNat v) = some q → s.hasCradle = true → s.tether.waiting = none →
      (s.tether.run ≠ none → Stages (.csTokenAuth r v) s fun u =>
        u.carries (.holdStart (some ⟨none, beNat v⟩)) ∧ u.answers r stOK) ∧
      (s.tether.run = none → s.sys.entropyTaken + 8 ≤ 128 → Completes (.csTokenAuth r v) s fun t =>
        t.sys.entropyTaken = s.sys.entropyTaken + 8 ∧ ∃ u x, t.staged = s.staged ++ [u] ∧ u.answers r stOK ∧
          u.carries (.exchange (some x)) ∧ x.kind = 4 ∧ x.proposal = q.num ∧ x.c = q.cPrime ∧ x.dn.length = 8 ∧
          u.carries (.lfSchedule ⟨2, 0, s.sys.stroke + 1, 200, [0x21] ++ s.carId ++ x.dn, q.cPrime⟩))) ∧
    (s.takes r 0x680004 v → beNat v = 1 → r.cls = 0 → s.isSealed = false → 2 ≤ s.members → Stages (.protectionSeal r v) s fun u =>
      u.cells = [.tally 11 1] ∧ u.answers r stOK) ∧
    (s.takes r 0x2C2001 v → s.bivouac = false → s.openEntry 7 = none → s.inflightSlot = some pos → Stages (.commissionStart r v) s fun u =>
      u.carries (.inflight pos (s.newEntry 7 2 0 1 r)) ∧ u.carries (.commission (byteAt v 1)) ∧
        u.carries (.obj 0x2C2101 (commissionEmpty (byteAt v 0))) ∧ u.answers r stPENDING)

/-- R326, R345, R397, R403, R405, R417, R441, R460, R463: what one unit stages for an accepted write of FEED_FAULT_CLEAR, IGNITION_OFF,
RIDGE_ISOLATE, RIDGE_REQUEST, RIDGE_GUARD_CLEAR, CAN_RECOVER, POLE_RELAY, FOLIO_ACK and FOLIO_NOTE, with the response.
Readings and choices of the model behind it: log entries 48, 51, 53. -/
def Obligations.WritesOfThePorts : Prop :=
  ∀ (s : State) (r : Requester) (v : Bytes),
    (s.takes r 0x480004 v → beNat v = 1 →
      (s.feedEn = false → Stages (.feedFaultClear r v) s fun u => u.carries .feedClear ∧ u.answers r stOK)) ∧
    (s.takes r 0x482001 v → beNat v = 1 → s.released = true ∨ s.feedEn = true → Stages (.ignitionOff r v) s fun u =>
      u.carries (.latch .clear) ∧ u.answers r stOK ∧ s.recLatch (s.latchByte 0) 3 ∈ u.recs) ∧
    (s.takes r 0x50000C v → Stages (.ridgeIsolate r v) s fun u => u.carries (.obj 0x50000C v) ∧ u.answers r stOK) ∧
    (s.takes r 0x50000B v → s.bivouac = false → Stages (.ridgeRequest r v) s fun u => u.carries (.obj 0x50000B v) ∧ u.answers r stOK) ∧
    (s.takes r 0x50000D v → beNat v = 1 → Stages (.ridgeGuardClear r v) s fun u => u.carries .ridgeGuardClear ∧ u.answers r stOK) ∧
    (∀ n, s.takes r (0x58000E + n % 2 * 0x1000) v → beNat v = 1 → (s.can (n % 2)).state = 4 → s.canObj (n % 2) 0x0C = 1 →
      Stages (.canRecover r n v) s fun u => u.carries (.canRecover (n % 2)) ∧ u.answers r stOK) ∧
    (∀ n, 1 ≤ n → n ≤ 7 → s.takes r (0x601000 + n) v → s.bivouac = false → s.slaveUp n = true → (s.slaveRec n).relay = none →
      (∀ x, Effect.slaveRelay n (some x) ∉ s.effects) → Stages (.poleRelay r n v) s fun u => u.carries (.slaveRelay n (some (s.sys.stroke, beNat (slice v 2 2)))) ∧ u.answers r stOK ∧
        u.carries (.poleSend ⟨11, n, false, s.sys.stroke + 1, beBytes 1 0 ++ padTo 240 v⟩)) ∧
    (s.takes r 0x440004 v → byteAt v 0 < 16 → slice v 1 7 = zeros 7 →
      ((s.stream (byteAt v 0)).delivered.any (fun d => d.last == beNat (slice v 8 8) && d.tag == slice v 16 8) = true →
        Stages (.folioAck r v) s fun u => u.carries (.folioAck (byteAt v 0) (beNat (slice v 8 8))) ∧ u.answers r stOK)) ∧
    (∀ n, 13 ≤ n → n ≤ 15 → s.takes r (0x440901 + (n - 13)) v → Stages (.folioNote r n v) s fun u => u.answers r stOK ∧
      u.recs = [⟨n, 0x15, s.stamp, 0x80, beBytes 1 r.cls ++ beBytes 1 r.idx ++ beBytes 1 v.length ++ v⟩])

/-- R110, R152, R191, R282, R298, R301, R441, R473: what one unit stages where a countersigned LOCKOUT_CLEAR, DEBUG_UNLOCK, LEARN_START,
POLE_RELAY_PROTECTED, IMAGE_ACTIVATE or ring quota is applied: its own in-flight entry opened and closed DONE, the operation, the response.
Readings and choices of the model behind it: log entries 18, 45, 46, 47, 48, 51, 53. -/
def Obligations.SignedWrites : Prop :=
  ∀ (s : State) (r : Requester) (v : Bytes) (pos p : Nat),
    (s.takesSigned r 0x340005 v pos → beNat v = 1 → StagesSigned (.lockoutClear r v) s r pos fun u =>
      u.carries (.lockWindow none) ∧ u.answers r stOK ∧
        u.cells = [.tally 6 (s.tally 5), .tally 2 (s.tally 1), .tally 4 (s.tally 3), .tally 7 (min (2 ^ 48 - 1) (s.tally 7 + 1))]) ∧
    (s.takesSigned r 0x680005 v pos → StagesSigned (.debugUnlock r v) s r pos fun u =>
      u.carries (.obj 0x680005 v) ∧ u.answers r stOK ∧
        u.carries (.debugUntil (if beNat v = 0 then none else some (s.sys.stroke + 1 + s.secStrokes (beNat v))))) ∧
    (s.takesSigned r 0x301001 v pos → slice v 0 32 = s.stagedDigest → beNat (slice v 32 4) = s.epoch % 2 ^ 32 →
      (∀ n, n < 64 → recWrong (s.num 0x380008 == 1) (s.imageRec n) = false) → s.imageAdmins ≤ 8 →
      (s.isSealed = false ∨ 2 ≤ s.imageAdmins) → s.learning = false → s.epoch % 2 ^ 32 ≠ 2 ^ 32 - 1 →
      (s.stage (plainUnit 0 [.inflight pos (s.newEntry 3 Config.proposalPhases 0 0 r)] [])).inflightSlot = some p →
      StagesSigned (.learnStart r v) s r pos fun u =>
        u.carries (.inflight p (s.newEntry 1 5 (s.epoch + 1) 0 r)) ∧ u.carries (objN 0x301003 stPENDING) ∧ u.answers r stPENDING ∧
          ∃ l, u.carries (.learn (some l)) ∧ l.pos = p) ∧
    (∀ n, 1 ≤ n → n ≤ 7 → s.takesSigned r (0x601100 + n) v pos → s.bivouac = false → s.slaveUp n = true → (s.slaveRec n).relay = none →
      (∀ x, Effect.slaveRelay n (some x) ∉ s.effects) → StagesSigned (.poleRelayProtected r n v) s r pos fun u =>
        u.carries (.slaveRelay n (some (s.sys.stroke, beNat (slice v 2 2)))) ∧ u.answers r stOK ∧
          u.carries (.poleSend ⟨11, n, false, s.sys.stroke + 1, beBytes 1 1 ++ padTo 240 v⟩)) ∧
    (s.takesSigned r 0x102001 v pos → slice v 1 3 = zeros 3 →
      (∀ i, i < 24 → byteAt v 0 + i < 96 ∧ s.granuleOwner (byteAt v 0 + i) = 64) → s.domReady 3 = true →
      beNat (slice v 36 4) = s.tally 16 % 2 ^ 32 → s.openEntry 4 = none → s.tally 16 < 2 ^ 48 - 1 →
      (s.stage (plainUnit 0 [.inflight pos (s.newEntry 3 Config.proposalPhases 0 0 r)] [])).inflightSlot = some p →
      StagesSigned (.imageActivate r v) s r pos fun u =>
        u.carries (.inflight p (s.newEntry 4 5 (s.tally 16 + 1) 0 r)) ∧ u.carries (.obj 0x102001 v) ∧ u.answers r stPENDING ∧
          u.carries (.act (some ⟨p, byteAt v 0, slice v 4 32, s.tally 16, false, 0, 0⟩))) ∧
    (∀ o n, o ≤ 64 → n < 256 → n ≠ s.num (0x6A0001 + o) → s.takesSigned r (0x6A0001 + o) (beBytes 1 n) pos →
      (s.stage (plainUnit 0 [.inflight pos (s.newEntry 3 Config.proposalPhases 0 0 r)] [])).inflightSlot = some p →
      StagesSigned (.ringQuota r [(o, n)]) s r pos fun u =>
        u.carries (.obj (0x6A0001 + o) (beBytes 1 n)) ∧ u.answers r stPENDING ∧
          u.carries (.inflight p (s.newEntry 8 2 0 1 r)) ∧ ∃ c, u.carries (.regrantClose p c))

/-- R30, R41, R44, R80, R92: the boundary of a running stroke moves the stroke number on by one, leaves nothing gathered or staged and hands
the cancelled units to the next stroke; it opens that stroke in Gather with the watchdog armed, or enters standby where that is staged,
or goes dark for a requested core reset with the gate closed. A boundary of a dark stroke only moves the number. -/
def Obligations.StrokeBoundary : Prop :=
  ∀ (s : State) (ref : Nat) (ilim : Bool),
    (s.sys.power = .running → s.sys.resetReq ≠ some 5 → (s.sys.phase = .commit → Effect.standby ∉ s.effects) →
      Completes (.strokeBoundary ref ilim) s fun t =>
        t.sys.power = .running ∧ t.sys.phase = .gather ∧ t.sys.wdArmed = true ∧ t.sys.stroke = nextStroke s.sys.stroke ∧
          t.gathered = [] ∧ t.staged = [] ∧ t.rerun = s.cancelled ∧ t.cancelled = [] ∧ t.guy.gateOpen = s.guy.gateOpen) ∧
    (s.sys.power = .running → s.sys.resetReq = some 5 → (s.sys.phase = .commit → Effect.standby ∉ s.effects) →
      Completes (.strokeBoundary ref ilim) s fun t =>
        t.sys.power = .dark ∧ t.guy.gateOpen = false ∧ t.sys.resetPend = some (5, s.stamp) ∧ t.sys.wdArmed = false ∧
          t.sys.stroke = nextStroke s.sys.stroke ∧ t.staged = []) ∧
    (s.sys.power = .running → s.sys.phase = .commit → Effect.standby ∈ s.effects →
      Completes (.strokeBoundary ref ilim) s fun t =>
        t.sys.power = .standby ∧ t.sys.domains = 5 ∧ t.sys.wdArmed = false ∧ t.sys.stroke = nextStroke s.sys.stroke ∧ t.staged = []) ∧
    (s.sys.power = .coreHeld → s.feed.state = 0 → Completes (.strokeBoundary ref ilim) s fun t =>
      t.sys.stroke = nextStroke s.sys.stroke ∧ t.sys.darkSpan = s.sys.darkSpan + 1 ∧ { t with sys := s.sys } = s)

/-- R29, R34, R41, R43, R158: Gather closes into Work with nothing of the stroke's time moved; the deadline of Work opens the Commit window, takes
the core's service word and the VHOLD measurement, and leaves no re-run for later.
Readings and choices of the model behind it: log entry 61. -/
def Obligations.StrokePhases : Prop :=
  (∀ (s : State) (padA padB : Bool) (corrected : Nat) (bad : List Nat) (sram : Bool), s.sys.power = .running → s.sys.phase = .gather →
    Completes (.gatherClose padA padB corrected bad sram) s fun t =>
      t.sys.power = .running ∧ t.sys.phase = .work ∧ t.sys.stroke = s.sys.stroke ∧ t.guy = s.guy) ∧
  (∀ (s : State) (vhold : Nat) (service : Bool) (finish : Nat) (gate : Bool), s.sys.power = .running → s.sys.phase = .work →
    Completes (.workDeadline vhold service finish gate) s fun t =>
      t.sys.power = .running ∧ t.sys.phase = .commit ∧ t.sys.service = service ∧ t.sys.vholdMv = min vhold 6000 ∧ t.rerun = [] ∧
        t.sys.stroke = s.sys.stroke ∧ t.guy = s.guy)

/-- R41, R42: a request cancelled in the last stroke runs again ahead of this stroke's own units; one that is cancelled a second time is
answered BUSY, without a third run.
Readings and choices of the model behind it: log entries 20, 44. -/
def Obligations.CancelledUnitRunsAgain : Prop :=
  ∀ (s : State) (i : Item), s.working = true → s.rerun = [i] → i.isRequest = true → i.cls ≠ 8 → s.staged = [] →
    State.rerunEntry { s with rerun := [] } i.requester = none →
    ((State.ledgerUnit { s with rerun := [] } 0 i []).cancelled.length = s.cancelled.length →
      exec .unitReRun s = .next { State.ledgerUnit { s with rerun := [] } 0 i [] with
        staged := (State.ledgerUnit { s with rerun := [] } 0 i []).staged.map fun u => { u with key := 0 } }) ∧
    ((State.ledgerUnit { s with rerun := [] } 0 i []).cancelled.length ≠ s.cancelled.length → i.isProtected = false → i.asks ≠ none →
      Completes .unitReRun s fun t => ∃ u, u ∈ t.staged ∧ u.answers i.requester stBUSY)

/-- R100, R116-R119, R121: the message of a request spelled out from its requester and entries reads back as that request: every entry with
its operation, object and value, and the requester with its class, index, transport and TAG. -/
def Obligations.RequestReadsBack : Prop :=
  ∀ (r : Requester) (es : List LEntry), Known r → es ≠ [] → es.length ≤ 64 → (∀ e ∈ es, e.key < 2 ^ 24 ∧ e.val.length < 256) →
    (es.map fun e => 5 + e.val.length).sum ≤ 2048 →
    (∃ body, parseRequest (requestItem r es).val = .request false body es ∧
      body.length = (es.map fun e => 5 + e.val.length).sum) ∧
    (requestItem r es).requester = r

/-- R170-R172: in its Commit window a scrub visit marks the page and deposits what it found; a rewrite counts its weak words and ends the visit
when none is weak again; after two rewrites the page takes the lowest good spare, or, with none left, stays in place as failing.
Readings and choices of the model behind it: log entry 62. -/
def Obligations.PageScrub : Prop :=
  (∀ (s : State) (weak : List Nat), s.committing = true → s.sys.stroke % 64 = 31 → Completes (.scrubVisit weak) s fun t =>
    t.ink.scrub = (if weak = [] then none else some ⟨s.sys.stroke / 64 % 2048, weak, 0⟩) ∧
      Offered s t 4 0 (beBytes 2 (s.sys.stroke / 64 % 2048) ++ beBytes 1 weak.length) ∧ t.guy = s.guy) ∧
  (∀ (s : State) (sc : Scrub) (still : List Nat), s.ink.scrub = some sc → s.committing = true → sc.tries < 2 →
    Completes (.scrubRewrite still) s fun t =>
      t.ink.scrub = (if still = [] then none else some { sc with weak := still, tries := sc.tries + 1 }) ∧
        (∀ w ∈ t.ink.badWords, w ∈ s.ink.badWords ∧ ∀ k ∈ sc.weak, w ≠ sc.page * 32 + k) ∧
        (still = [] → sc.page ∉ t.ink.failing) ∧ t.gq = s.gq ∧ t.staged = s.staged) ∧
  (∀ (s : State) (sc : Scrub) (bad : Nat), s.ink.scrub = some sc → s.committing = true → 2 ≤ sc.tries →
    (s.ink.spares.length + bad < 32 → Completes (.pageRetirement bad) s fun t =>
      t.ink.spares.getLast? = some (some sc.page) ∧ t.ink.spares.length = s.ink.spares.length + bad + 1 ∧ t.ink.scrub = none ∧
        t.num 0x400008 = sc.page % 2 ^ 16 ∧ Offered s t 4 0 (beBytes 2 sc.page)) ∧
    (32 ≤ s.ink.spares.length + bad → s.ink.spares.length ≤ 32 → Completes (.pageRetirement bad) s fun t =>
      t.ink.spares.length = 32 ∧ sc.page ∈ t.ink.failing ∧ t.ink.scrub = none ∧ t.num 0x400007 = 32 ∧
        Offered s t 4 0 (beBytes 2 sc.page)))

/-- R183, R184, R194: on a free lane of a ready Quill the next operation of its source starts under the command of its mode, and under no
other: the lane holds it, and nothing else changes but the source it was taken from. -/
def Obligations.QuillModesStart : Prop :=
  ∀ (s : State) (lane : Nat) (op : QOp) (s' : State), s.quillUp = true → lane < 4 → alookup lane s.quill.lanes = none →
    s.nextOp lane = some (op, s') →
    let t : State := { s' with quill := { s'.quill with lanes := ainsert lane op s'.quill.lanes } }
    exec (.cbcEncrypt lane) s = .next (if op.mode = 1 then t else s) ∧ exec (.cbcDecrypt lane) s = .next (if op.mode = 2 then t else s) ∧
    exec (.ctr lane) s = .next (if op.mode = 3 then t else s) ∧ exec (.gcmEncrypt lane) s = .next (if op.mode = 4 then t else s) ∧
    exec (.gcmDecryptAndVerify lane) s = .next (if op.mode = 5 then t else s) ∧
    exec (.ccmEncrypt lane) s = .next (if op.mode = 6 then t else s) ∧
    exec (.ccmDecryptAndVerify lane) s = .next (if op.mode = 7 then t else s) ∧
    exec (.cmacGenerate lane) s = .next (if op.mode = 8 then t else s) ∧ exec (.cmacVerify lane) s = .next (if op.mode = 9 then t else s) ∧
    exec (.keyDerivation lane) s = .next (if op.mode = 10 then t else s)

/-- R197, R198, R202-R205: the operation of a lane completes with its status and leaves the lane free; a parity fault ends it with FAULT_PARITY and is
counted, the third of a sheet quarantining Quill with cause 1; an entropy fault stops the DRBG and quarantines with cause 2; at a sheet's
end a sound DRBG reseeds.
Readings and choices of the model behind it: log entries 66, 68, 69, 70. -/
def Obligations.QuillLanesEnd : Prop :=
  (∀ (s : State) (lane : Nat) (op : QOp), s.quill.held = [] → alookup lane s.quill.lanes = some op →
    exec (.quillCompletion lane) s = .next (((s.freeLane lane).countTag op).finish op op.status) ∧
      alookup lane (((s.freeLane lane).countTag op).finish op op.status).quill.lanes = none) ∧
  (∀ (s s' : State) (lane : Nat) (op : QOp), s.quill.held = [] → alookup lane s.quill.lanes = none → s.quillUp = true → lane < 4 →
    s.nextOp lane = some (op, s') → op.mode = 0 ∨ 10 < op.mode →
    exec (.quillCompletion lane) s = .next ((s'.countTag op).finish op op.status)) ∧
  (∀ (s : State) (lane : Nat) (op : QOp), alookup lane s.quill.lanes = some op →
    Completes (.parityFault lane) s fun t => alookup lane t.quill.lanes = none ∧ t.quill.lastFault = s.stamp ∧
      t.quill.sheet = s.sys.stroke / 64 ∧
      (s.quill.sheet = s.sys.stroke / 64 → t.quill.sheetFaults = min 3 (s.quill.sheetFaults + 1)) ∧
      (s.quill.sheet ≠ s.sys.stroke / 64 → t.quill.sheetFaults = 1) ∧
      (t.quill.sheetFaults < 3 → t.quill.state = s.quill.state ∧ t.quill.cause = s.quill.cause) ∧
      (t.quill.sheetFaults = 3 → s.quill.state ≠ 1 → t.quill.state = 1 ∧ t.quill.cause = 1 ∧ t.quill.lanes = [])) ∧
  (∀ s : State, s.domOn 5 = true → Completes .entropyFault s fun t => t.quill.drbgOk = false ∧
    (s.quill.state ≠ 1 → t.quill.state = 1 ∧ t.quill.cause = 2 ∧ t.quill.lanes = [])) ∧
  (∀ s : State, s.quill.drbgOk = true → s.sys.stroke % 64 = 63 →
    exec .drbgReseed s = .next { s with quill := { s.quill with drawn := s.quill.drawn + 1 } })

/-- R192, R193: a gathered install completion that is OK, for a slot whose generation is still the one expected and no store or erase of which
is staged, stores the key and raises the generation at PHASE 1; any other closes the load REFUSED. The entry of a stored load or an erase
closes DONE once no operation holds the old copy.
Readings and choices of the model behind it: log entries 18, 72, 73. -/
def Obligations.KeyOperations : Prop :=
  (∀ (s : State) (i : Item) (l : KeyLoadOp), s.working = true → s.staged = [] →
    s.gathered.find? (fun i => i.cls == 5 && i.idx == 3 && i.aux.getD 1 0 == 5 && i.aux.head? == some 100) = some i →
    s.quill.loads.find? (fun m => m.pos == (installOf i).1) = some l →
    (byteAt i.val 0 = stOK → (s.slotView l.slot).gen = l.expect → (s.slotView l.slot).gen < 2 ^ 32 - 1 →
      Completes .keyInstall s fun t => ∃ u, t = (s.consume i).stage u ∧
        u.carries (.keyStore l.pos (installOf i).2) ∧ u.carries (.inflight l.pos (s.phased (s.inflightAt l.pos) 1)) ∧
        u.pairs = s.keyWrites l.slot { s.slotView l.slot with key := (installOf i).2, state := 1, gen := (s.slotView l.slot).gen + 1 }) ∧
    (byteAt i.val 0 ≠ stOK ∨ (s.slotView l.slot).gen ≠ l.expect →
      Completes .keyInstall s fun t => ∃ u, t = (s.consume i).stage u ∧ u.carries (.keyDrop l.pos) ∧ u.pairs = [] ∧
        u.carries (.inflight l.pos (s.closed (s.inflightAt l.pos) 6 (if byteAt i.val 0 = stQUARANTINED then stQUARANTINED else stDENIED))))) ∧
  (∀ (s : State) (pos : Nat), s.working = true → s.effects = [] → (s.inflightAt pos).op = 5 → (s.inflightAt pos).isOpen = true →
    (s.inflightAt pos).phase = 1 → s.holdsOld (s.inflightAt pos).inst (s.slotGen (s.inflightAt pos).inst) = false →
    exec (.keySettled pos) s = .next (s.stage (plainUnit 0x05030000
      [.inflight pos (s.closed (s.phased (s.inflightAt pos) 2) 2 stOK), .keyDrop pos] [])))

/-- R474: the steps of an activation. Its first group voids the target's seal and copies three pages, each later one four, the last bringing
PHASE 1; the verified copy brings PHASE 2, one that fails rolls the activation back with DENIED; the seal brings PHASE 3; the cell words and
IMAGE_PENDING bring PHASE 4; a thousand checks that refuse its pages roll it back with INKWELL_LOW_HOLD.
Readings and choices of the model behind it: log entries 18, 155. -/
def Obligations.ImageActivation : Prop :=
  ∀ (s : State) (a : Activation),
    (s.actAt 0 = some a → a.nextPage + (if a.voided then 4 else 3) < 383 → Completes .activationCopy s fun t => ∃ u, t = s.stage u ∧ u.need = .phase ∧
      u.effs = (if a.voided then [] else [.slotSeal none]) ++ [.slotPages a.nextPage ((List.range (if a.voided then 4 else 3)).map fun i =>
          s.memRead (a.granule * 4096 + (a.nextPage + i) * 256) 256),
        .act (some { a with voided := true, nextPage := a.nextPage + (if a.voided then 4 else 3), refused := 0 })]) ∧
    (s.actAt 0 = some a → 383 ≤ a.nextPage + (if a.voided then 4 else 3) → Completes .activationCopy s fun t => ∃ u, t = s.stage u ∧
      u.carries (s.actEntry a fun e => s.phased e 1)) ∧
    (s.actAt 1 = some a → s.targetPasses a = true → exec .activationVerified s = .next (s.stage (actUnit [.act (some a), s.actEntry a fun e => s.phased e 2]))) ∧
    (s.actAt 1 = some a → s.targetPasses a = false →
      exec .activationVerified s = .next (s.stage (actUnit [.act none, s.actEntry a fun e => s.closed e 3 stDENIED]))) ∧
    (s.actAt 2 = some a → Completes .activationSealed s fun t => ∃ u, t = s.stage u ∧ u.need = .phase ∧ u.carries (.slotSeal (some s.newSeal)) ∧
      u.carries (s.actEntry a fun e => s.phased e 3)) ∧
    (s.actAt 3 = some a → Completes .activationCommitted s fun t => ∃ u, t = s.stage u ∧ u.need = .phase ∧ u.carries .imagePending ∧
      u.carries (s.actEntry a fun e => s.phased e 4) ∧ u.cells.head? = some (.tally 16 (s.tally 16 + 1))) ∧
    (s.actNow = some a → s.working = true → 1000 ≤ a.refused → (s.inflightAt a.pos).isOpen = true → exec .activationHoldTimeout s =
      .next (s.stage (actUnit [.act none, s.actEntry a fun e => s.closed e 3 stINKWELL_LOW_HOLD])))

/-- R457, R459, R460: with export idle a block of the stream in turn is selected, its entry opened at PHASE 1 and its seal queued; the seal's
completion delivers the block and closes the entry DONE, or rolls it back with its status; a stop stream not acknowledged in time
exports again from its acknowledged point.
Readings and choices of the model behind it: log entries 18, 151, 152. -/
def Obligations.FolioExport : Prop :=
  (∀ (s : State) (n pos : Nat), s.working = true → s.openEntry 6 = none → s.portsIdle = true → s.exportStream = some n →
    s.inflightSlot = some pos → Completes .exportSelection s fun t => ∃ u e, t = s.stage u ∧ u.carries (.exportStart e) ∧
      e.pos = pos ∧ e.stream = n ∧ e.plain = (s.exportRecs n).flatMap (FRec.bytes n) ∧
      u.carries (.inflight pos (s.newEntry 6 2 e.first 1 firmware)) ∧
      u.carries (.quillQueue ⟨2, 6, 4, 0x44, none, exportIv e, exportHeader e, e.plain, [], 0, []⟩)) ∧
  (∀ (s : State) (i : Item) (e : Export),
    s.gathered.find? (fun i => i.cls == 5 && i.idx == 2 && i.aux.take 2 == [100, 6]) = some i → s.folio.exporting = some e →
    s.working = true → (s.inflightAt e.pos).isOpen = true →
    (byteAt i.val 0 = stOK → exec .exportDelivery s = .next ((s.consume i).stage (plainUnit i.key
      [.exportEnd true (exportHeader e ++ toBytes (i.aux.drop 3)), .inflight e.pos (s.closed (s.phased (s.inflightAt e.pos) 2) 2 stOK)] []))) ∧
    (byteAt i.val 0 ≠ stOK → exec .exportDelivery s = .next ((s.consume i).stage (plainUnit i.key
      [.exportEnd false [], .inflight e.pos (s.closed (s.inflightAt e.pos) 3 (byteAt i.val 0))] [])))) ∧
  (∀ (s : State) (n u : Nat), (s.stream n).ackDue = some u → u ≤ s.sys.stroke →
    exec (.ackTimeout n) s = .next (s.setStream n { s.stream n with cursor := (s.stream n).acked, ackDue := none }))

/-- R210, R212, R219, R220, R223, R245: a pending schedule starts once its stroke has come and nothing runs, its guard judged; the end of a burst on an
own channel that may drive uses the channel's duty and deposits its item; a driver fault stops the channel and is counted once an activity;
a cooled channel may drive again; a window's end restores every duty budget; the carrier changes with no activity about.

R222, R225-R228: an uplink or its lateness goes on with the cradle exchange and deposits the cradle item, with the bytes as checked or status 1.
Scans take every enabled channel, and a channel that is not enabled goes off; a channel touched for HS_STUCK_S is stuck, which is an event.
Readings and choices of the model behind it: log entries 12, 74, 76, 77, 79, 81, 82. -/
def Obligations.LanternAndHandles : Prop :=
  ((∀ (s : State) (x : LfSched), s.lf.next = some x → s.lf.running = none → x.start ≤ s.sys.stroke → s.sys.power = .running →
       (x.kind = 2 ∨ s.bivouac = false) → s.guardMet = true → Completes .lfActivityStart s fun t =>
         t.lf.next = none ∧ t.lf.running = some ⟨x, s.schedBursts x, false⟩ ∧ t.lf.guard = 0 ∧
           t.lf.chans = s.lf.chans.map (fun c => (c.1, { c.2 with flags := 0, stopped := false, counted := false, drove := false })) ∧
           { t with lf := s.lf } = s) ∧
     (∀ (s : State) run b rest (current : Nat) (phase : Int) (under detuned : Bool), s.lf.running = some run → run.bursts = b :: rest →
       b.kind ≠ 3 → b.chan / 32 = s.sys.cascId → rest ≠ [] → s.lfBar (b.chan % 8) = 0 →
       Completes (.lfBurstEnd current phase under detuned) s fun t =>
         t.lf.running = some { run with bursts := rest } ∧
           (t.lfChan (b.chan % 8)).dutyUs = (s.lfChan (b.chan % 8)).dutyUs + b.us ∧
           ∃ flags, Offered s t 7 b.chan (lfItem b.kind (if run.sched.kind = 1 then run.sched.pattern else 0xFF) b.slot
             (min b.code (s.lfMaxCode (b.chan % 8))) current phase flags 0 [])) ∧
     (∀ (s : State) (ch kind : Nat), s.lf.running ≠ none → ch < 8 → kind = 0 ∨ kind = 1 ∨ kind = 4 →
       Completes (.lfDriverFault ch kind) s fun t => (t.lfChan ch).stopped = true ∧ (t.lfChan ch).counted = true ∧
         (kind = 4 → (t.lfChan ch).hot = true) ∧
         ((s.lfChan ch).flags.testBit kind = true → t.ink.shadow = s.ink.shadow)) ∧
     (∀ (s : State) (ch : Nat), ch < 8 → exec (.thermalRelease ch) s = .next (s.setLfChan ch { s.lfChan ch with hot := false })) ∧
     (∀ s : State, s.sys.stroke % s.regWindow = 0 → exec .regulatoryWindow s = .next { s with
       lf := { s.lf with chans := s.lf.chans.map fun c => (c.1, { c.2 with dutyUs := 0 }) }
       radio := { s.radio with bandUs := [], uwbUs := 0 } }) ∧
     (∀ s : State, s.committing = true → s.lf.running = none → s.lf.next = none →
       exec .lfCarrierChange s = .next { s with lf := { s.lf with carrier := s.num 0x200001 } })) ∧
  ((∀ (s : State) (run : LfRun) (b : Burst) (rest : List Burst) (current : Nat) (phase : Int), s.uplinkBurst = some (run, b, rest) →
       rest ≠ [] → b.chan / 32 = s.sys.cascId → s.lfBar (b.chan % 8) = 0 →
       (∀ rx : Bytes, Completes (.cradleUplink rx current phase) s fun t => t.lf.running = some { run with bursts := rest } ∧
         ∃ flags, Offered s t 7 b.chan (lfItem 3 (if run.sched.kind = 1 then run.sched.pattern else 0xFF) b.slot
           (min b.code (s.lfMaxCode (b.chan % 8))) current phase flags (uplinkParse rx).1 (uplinkParse rx).2)) ∧
       Completes (.cradleUplinkTimeout current phase) s fun t => t.lf.running = some { run with bursts := rest } ∧
         ∃ flags, Offered s t 7 b.chan (lfItem 3 (if run.sched.kind = 1 then run.sched.pattern else 0xFF) b.slot
           (min b.code (s.lfMaxCode (b.chan % 8))) current phase flags 1 [])) ∧
     (∀ (s : State) (m0 m1 m2 m3 : Nat), s.sys.power = .running ∨ s.sys.power = .standby → s.num 0x240001 = 1 → (s.hsChan 0).state = 0 →
       (∀ c, 1 ≤ c → c < 4 → (s.hsChan c).state = 0) → Completes (.handleScan m0 m1 m2 m3) s fun t =>
         (t.hsChan 0).state = 1 ∧ t.num 0x240C01 = 1 ∧ (t.hsChan 0).delta = (m0 : Int) - (s.hsChan 0).baseline ∧
           (∀ c, 1 ≤ c → c < 4 → t.hsChan c = s.hsChan c) ∧ t.gq = s.gq) ∧
     (∀ (s : State) (ch : Nat), ch < 4 → (s.hsChan ch).state = 3 → (s.hsChan ch).since + s.secStrokes (s.num 0x240005) ≤ s.sys.stroke →
       Completes (.hsStuck ch) s fun t => (t.hsChan ch).state = 4 ∧ (t.hsChan ch).scans = 0 ∧ t.num (0x240C01 + ch) = 4 ∧
         Offered s t 6 (32 * s.sys.cascId + ch) (hsItem 3 (s.hsChan ch).delta (s.hsChan ch).baseline)))

/-- R237-R240, R245, R248-R253: a radio with an activity due wakes; an activity starts at its stroke on a radio that is free, regulation and
coexistence judged; it ends with its item and leaves its radio; a packet in a list's window is kept for its item, one in a sniff window that
matches is a wake telegram; an idle radio sleeps; a sniff window opens where nothing is in its way, else it is skipped and counted.

R242, R250, R251: a due calibration runs in an idle gap and is stamped; one late by more than four intervals is stale, which is recorded; where
COEX_GNT falls, an activity in scope is flagged.
Readings and choices of the model behind it: log entries 22, 48, 84, 85, 86, 88, 89, 90, 92. -/
def Obligations.Radios : Prop :=
  ((∀ (s : State) (radio : Nat) (l : RadioList) (i : Nat), radio < 2 → s.radioState radio = 0 → s.domReady (radioDomain radio) = true →
       s.radioHead = some (l, i) → (l.entries.drop i).any (fun e => e.radio == radio) = true →
       exec (.radioWake radio) s = .next (s.radioTo radio 1)) ∧
     (∀ (s : State) (l : RadioList) (i : Nat) (e : RadioEntry) (gnt : Bool), s.radio.running = some (l, i) → l.entries[i]? = some e → e.radio < 2 →
       alookup e.radio s.radio.act = none → e.relative = true ∨ e.start ≤ s.sys.stroke → e.action = 1 → e.radio = 0 → s.domReady 8 = true →
       s.coexScope e.radio = false → Completes (.radioActivityStart gnt) s fun t =>
         t.radio.running = some (l, i + 1) ∧ alookup 0 t.radio.act = some ⟨i, e, 1, 0, 0, false, []⟩ ∧ t.radio.uhf = 3 ∧
           t.radio.rxen = true ∧ t.radio.txen = false ∧ { t with radio := s.radio } = s) ∧
     (∀ (s : State) (l : RadioList) (i : Nat) (e : RadioEntry), s.radio.running = some (l, i) → l.entries[i]? = some e → e.radio < 2 →
       alookup e.radio s.radio.act = none → e.relative = true ∨ e.start ≤ s.sys.stroke → s.domReady (radioDomain e.radio) = true →
       s.coexScope e.radio = true → s.num 0x28000F = 2 → Completes (.radioActivityStart false) s fun t =>
         t.radio.running = some (l, i + 1) ∧ t.radioState e.radio = 1 ∧
           ∃ a, alookup e.radio t.radio.act = some a ∧ a.refused = true ∧ a.flags.testBit 3 = true) ∧
     (∀ (s : State) (a : RadioAct) (stamps : Bytes) (fp rx : Int) (kind quality : Nat), alookup 0 s.radio.act = some a → a.entry ≠ 0xFF →
       a.refused = false → a.part = 1 → a.heard = [] → exec (.radioActivityEnd 0 kind quality stamps fp rx) s =
         .next ((s.uhfDone 2 a.entry (a.flags + s.calFlag 0) a.power 0 0 []).actClose 0)) ∧
     (∀ (s : State) (a : RadioAct) (stamps : Bytes) (fp rx : Int) (kind quality : Nat), alookup 1 s.radio.act = some a → s.domReady 9 = true →
       a.refused = false → kind = 0 ∨ kind = 1 ∨ kind = 3 → exec (.radioActivityEnd 1 kind quality stamps fp rx) s =
         .next ((s.offerEvent 9 (32 * s.sys.cascId) (uwbItem kind a.entry (a.flags + s.calFlag 1) (if a.what.action = 3 then 0 else 1)
           (min quality 100) stamps fp rx) (radioLogged (a.flags + s.calFlag 1)) 0 0).actClose 1)) ∧
     (∀ (s : State) (a : RadioAct) (rx b : Bytes) (rssi off : Int), alookup 0 s.radio.act = some a → a.part = 1 → a.refused = false →
       packetParse rx = some b →
       (a.entry ≠ 0xFF → Completes (.packetReceived rx rssi off) s fun t => ∃ h, alookup 0 t.radio.act = some { a with heard := a.heard ++ [h] } ∧
         h = (1, beInt 2 rssi ++ beInt 2 off, b) ∧ t.gq = s.gq) ∧
       (a.entry = 0xFF → s.sniffMatch b = true → s.sys.power ≠ .standby → Completes (.packetReceived rx rssi off) s fun t =>
         Offered s t 8 0 (uhfItem 4 0xFF (s.calFlag 0) 0 rssi off b))) ∧
     (∀ (s : State) (radio : Nat), radio < 2 → s.radioState radio = 1 → alookup radio s.radio.act = none → s.radioHead = none →
       exec (.radioSleep radio) s = .next (s.radioTo radio 0)) ∧
     (∀ s : State, s.num 0x28000A = 1 → s.regBlocked = false → s.sys.power = .standby →
       (alookup 0 s.radio.act = none → s.radioHead = none → (∀ gnt : Bool, Completes (.sniffWindow gnt) s fun t =>
         t.radio.uhf = 3 ∧ ∃ a, alookup 0 t.radio.act = some a ∧ a.entry = 0xFF ∧ a.part = 1)) ∧
       (alookup 0 s.radio.act ≠ none → ∀ gnt : Bool, exec (.sniffWindow gnt) s = .next (s.countUp 34 1)))) ∧
  ((∀ (s : State) (n : Nat) (temp : Int), n < 4 → alookup n s.radio.cals = none → s.radio.running = none → s.radio.next = none →
       s.radioState (if n < 3 then 0 else 1) ≤ 1 → alookup (if n < 3 then 0 else 1) s.radio.act = none →
       s.domReady (radioDomain (if n < 3 then 0 else 1)) = true →
       exec (.calibration n temp) s = .next { s with radio := { s.radio with
         temp := temp, cals := ainsert n (s.sys.stroke, temp, false) s.radio.cals } }) ∧
     (∀ (s : State) (n at' : Nat) (temp : Int), n < 4 → alookup n s.radio.cals = some (at', temp, false) →
       at' + s.secStrokes (5 * s.num 0x280013) < s.sys.stroke → Completes (.calStale n) s fun t =>
         alookup n t.radio.cals = some (at', temp, true) ∧ t.folio.carry = s.folio.carry ++ [s.recEvent 7 0 n]) ∧
     (∀ (s : State) (a : RadioAct), s.radio.act = [(0, a)] → s.coexScope 0 = true → a.refused = false →
       Completes .coexGntLost s fun t => alookup 0 t.radio.act = some { a with flags := a.flags ||| 16 } ∧
         (s.num 0x28000F = 2 → a.part = 0 → t.radio.uhf = 1 ∧ t.radio.txen = false) ∧ { t with radio := s.radio } = s))

/-- R25, R227, R259, R260, R276, R277: a TOUCH with a route and nothing running opens the listen window where no telegram is held; it joins a running
poll, and is recorded where another exchange runs. With the listen window's items gathered and no telegram, a poll ends in a refusal in
preparation; with the one chosen, the exchange starts on 26 random bytes.

R258, R280, R281: a failure window closes after LOCKOUT_WINDOW_S, discharging its failures; a second served under lockout is counted by a cell
word; a telegram is held for 30 s.
Readings and choices of the model behind it: log entries 19, 93, 98, 101, 102. -/
def Obligations.ExchangeSteps : Prop :=
  ((∀ (s : State) (i : Item), s.working = true → s.gathered.find? (fun i => i.cls == 6 && i.aux == [2]) = some i →
       (∀ p, s.tether.run = none → s.tether.waiting = none → s.route i.idx = some p → s.newestWake = none →
         exec .pollStart s = .next ((s.consume i).stage (plainUnit i.key (s.listenEffects (s.newExchange 1 i.idx p none [s.input i])) []))) ∧
       (∀ x, s.tether.run = some x → s.tether.waiting = none → x.kind = 1 → exec .pollStart s = .next (s.consume i)) ∧
       (∀ x, s.tether.run = some x → s.tether.waiting = none → x.kind ≠ 1 →
         exec .pollStart s = .next ((s.consume i).stage (plainUnit i.key [] [s.recItem 12 i])))) ∧
     (∀ (s : State) (x : Exchange) (i : Item), s.working = true → s.tether.run = some x → x.phase = .listening →
       s.gathered.filter (fun i => i.cls == 8 && byteAt i.val 0 != 4) = [i] →
       (s.newestWake = none → x.kind = 1 → exec .wakeListenEnd s = .next ((s.consume i).stage (plainUnit i.key
         (s.startEmpty { x with inputs := x.inputs ++ [s.input i] }) []))) ∧
       (∀ slot w, s.newestWake = some (slot, w) → s.sys.entropyTaken + 26 ≤ 128 → Completes .wakeListenEnd s fun t =>
         t.sys.entropyTaken = s.sys.entropyTaken + 26 ∧ ∃ u y, t.staged = s.staged ++ [u] ∧ u.carries (.exchange (some y)) ∧
           y.phase = .running ∧ y.slot = slot ∧ y.tn = w.tn ∧ y.a = s.sys.stroke ∧ y.c.length = 16 ∧ y.dn.length = 8 ∧
           y.resp = some (s.responseStroke s.sys.stroke x.pattern) ∧ y.due = some (s.responseStroke s.sys.stroke x.pattern + 6)))) ∧
  ((∀ (s : State) (w : Nat), s.tether.window = some w → s.working = true → w + s.secStrokes (s.num 0x340002) ≤ s.sys.stroke →
       Stages .lockoutWindowClose s fun u => u.effs = [.lockWindow none] ∧ u.cells = [.tally 2 (s.tally 1)]) ∧
     (∀ s : State, s.working = true → s.lockedOut = true → (s.sys.stroke + 1) % s.secStrokes 1 = 0 →
       Stages .lockoutSecondServed s fun u => u.effs = [] ∧ u.cells = [.tally 6 (s.tally 6 + 1)]) ∧
     (∀ (s : State) (slot : Nat) (w : Wake), alookup slot s.tether.held = some w → w.stroke + s.secStrokes 30 ≤ s.sys.stroke →
       exec (.heldTelegramExpiry slot) s = .next { s with tether := { s.tether with held := aerase slot s.tether.held } }))

/-- R264, R267, R278, R435: at the stroke of its response an exchange takes the answer, sets its decision six strokes on, and queues the check of
the answer's MAC with the generation it started with, unless lockout is active, and the key derivation where it was over the air.
Readings and choices of the model behind it: log entries 99, 100. -/
def Obligations.ExchangeAnswered : Prop :=
  ∀ (s : State) (x : Exchange), s.working = true → s.tether.run = some x → x.phase = .running → x.found = true → x.resp = some s.sys.stroke →
    Stages .responseGathered s fun u =>
      (∃ y, u.carries (.exchange (some y)) ∧ y.phase = .answered ∧ y.answer = x.response ∧ y.due = some (s.sys.stroke + 6)) ∧
      (∀ p, x.response = some p → x.lockout = false → x.cradle = false →
        u.carries (.quillQueue ⟨0, 1, 9, answerSlot p, some x.gen, [], [],
          s.macMessage { x with phase := .answered, answer := x.response, due := some (s.sys.stroke + 6) } p, answerMac p, 0, []⟩)) ∧
      (x.cradle = false → u.carries (.quillQueue ⟨0, 2, 10, x.slot, some x.gen, [], [], stsLabel ++ [0] ++ x.c ++ x.nonce, [], 32, []⟩)) ∧
      (x.lockout = true → ∀ r, u.carries (.quillQueue r) → r.mode ≠ 9)

/-- R274: whatever an exchange saw, it grants access only where lockout was not active, a response was gathered whose MAC verified under the
key generation it started with and which is still in force, its counter is above the stored one by no more than 65,536, the token's record
is active, its validity window is open, its role has the right, and its zone suits the kind: outside for a poll, inside for a start.
Readings and choices of the model behind it: log entry 96. -/
def Obligations.AccessNeedsProof : Prop :=
  ∀ (s : State) (x : Exchange), (s.judge x).reason = 0 →
    x.lockout = false ∧ x.found = true ∧ x.missed = false ∧ x.abandoned = false ∧ s.quill.state = 0 ∧ x.gen = s.epoch % 2 ^ 32 ∧
    s.tokenState x.slot = 1 ∧ s.inWindow x.slot = true ∧ (s.roleRights (s.tokenRole x.slot)).testBit (x.kind - 1) = true ∧
    (∃ p st, x.answer = some p ∧ x.mac = some (st, 0) ∧ s.rolling x.slot s.epochTag < answerCtr p ∧
      answerCtr p ≤ s.rolling x.slot s.epochTag + 65536) ∧
    (x.kind = 1 → (s.judge x).zone ≠ 4) ∧ (x.kind ≠ 1 → (s.judge x).zone = 4) ∧ (s.judge x).zone ≠ 0

/-- R84, R274, R275, R296: at stroke r + 6 the exchange is decided: one unit ends it and publishes the access event; it is a grant, with the
failure base raised, exactly where the judgement finds no reason against it, and REFUSED closes the entry of a start otherwise. An
exchange whose configuration a core reset lost is refused without a counter written.
Readings and choices of the model behind it: log entries 18, 96, 108. -/
def Obligations.ExchangeDecided : Prop :=
  ∀ (s : State) (x : Exchange) (due : Nat), s.working = true → s.exchangeNow = some x → x.due = some due → due ≤ s.sys.stroke →
    (x.config ≠ [] → x.kind ≠ 4 → x.pos = none → Stages .decision s fun u => u.carries (.exchange none) ∧
      (u.need = .grant ↔ (s.judge x).reason = 0) ∧
      u.carries (.event [0x2C0101] 7) ∧
      u.carries (.obj 0x2C0101 (if (s.judge x).reason = 0 then accessEvent (if x.kind = 1 then 1 else 2) (s.judge x).zone x.origin
        else accessEvent 3 0 x.origin)) ∧
      ((s.judge x).reason = 0 → .tally 4 (s.tally 3) ∈ u.cells)) ∧
    (∀ p, x.config ≠ [] → x.kind ≠ 4 → x.pos = some p → (s.inflightAt p).isOpen = true → Stages .decision s fun u =>
      ((s.judge x).reason = 0 → u.carries (.inflight p (s.phased (s.inflightAt p) 1))) ∧
      ((s.judge x).reason ≠ 0 → u.carries (.inflight p (s.closed (s.inflightAt p) 6 stDENIED)))) ∧
    (x.config = [] → exec .decision s = .next (s.stage (plainUnit 0x0E000000
      [.exchange none, .obj 0x2C0101 (accessEvent 3 0 x.origin), .event [0x2C0101] 7] []))) ∧
    (x.config ≠ [] → x.kind = 4 → exec .decision s = .next (s.decideCountersign x))

/-- R302-R305, R439: the phases of a Learn. With every key unwrapped, four pages of the staged bank are written in a stroke, the header last, which
brings PHASE 1; a bank that fails its check rolls the Learn back, one that passes waits for the slaves' reports, which bring PHASE 2; the
epoch is raised by one cell word at PHASE 3; the old bank is scrubbed to PHASE 4; then the entry closes DONE and the image is zeroed.
Readings and choices of the model behind it: log entries 18, 60, 105, 106, 148. -/
def Obligations.LearnPhases : Prop :=
  ∀ (s : State) (l : Learn), s.working = true → s.learnNow = some l → s.staged.any (fun u => u.need == .phase) = false →
    (s.learnPhaseOf l = 0 → l.written < 14 → l.awaiting = [] → l.failed = false → s.gathered.filter Item.isUnwrap = [] →
      Stages .learnStage s fun u => u.need = .phase ∧
        (∃ l', u.carries (.learn (some l')) ∧ l'.written = min 14 (l.written + 4) ∧ l'.refused = 0) ∧
        u.pairs = (((List.range 14).map fun i => (i + 1) % 14).drop l.written |>.take 4).map fun i =>
          (⟨0, bankPair (l.epoch + 1) + i, slice (s.stagedBank l) (240 * i) 240⟩ : PairWrite)) ∧
    (s.learnPhaseOf l = 1 → l.pos < 16 → l.checked = none → s.bankValid ((l.epoch + 1) % 2) (l.epoch + 1) = false →
      exec .learnVerify s = .next (s.stage (learnUnit (s.learnFails l stDENIED)))) ∧
    (s.learnPhaseOf l = 1 → l.pos < 16 → s.bankValid ((l.epoch + 1) % 2) (l.epoch + 1) = true →
      (∀ n, n ∈ s.slavesUp → n ∈ l.reports ∨ n ∈ l.left) →
      Stages .learnVerify s fun u => u.carries (.inflight l.pos (s.phased (s.inflightAt l.pos) 2))) ∧
    (∀ c n, s.learnPhaseOf l = 1 → l.checked = some c → c + 32 ≤ s.sys.stroke → s.slavesUp.contains n = true → l.reports.contains n = false →
      exec (.learnSlaveTimeout n) s =
        .next (s.stage (learnUnit [.learn (some { l with left := l.left ++ [n] }), .slaveRestage n true]))) ∧
    (s.learnPhaseOf l = 2 → l.pos < 16 → Stages .learnPhaseCommit s fun u => u.need = .phase ∧
      u.cells = [.tally 8 (l.epoch + 1)] ∧ u.carries .checkSet ∧ u.carries (.inflight l.pos (s.phased (s.inflightAt l.pos) 3))) ∧
    (s.learnPhaseOf l = 3 → l.pos < 16 → l.scrub + 4 < 30 → Stages .learnScrub s fun u => u.need = .phase ∧
      u.carries (.learn (some { l with scrub := l.scrub + 4 })) ∧
      (∀ w ∈ u.pairs, bankPair l.epoch ≤ w.pair ∧ w.pair < bankPair l.epoch + 14 ∧ w.payload = zeros 240)) ∧
    (s.learnPhaseOf l = 3 → l.pos < 16 → 30 ≤ l.scrub + 4 → Stages .learnScrub s fun u =>
      u.carries (.inflight l.pos (s.phased (s.inflightAt l.pos) 4))) ∧
    (s.learnPhaseOf l = 4 → l.pos < 16 → Stages .learnDone s fun u => u.carries .learnClear ∧ u.carries (.learn none) ∧
      u.carries (objN 0x301003 stOK) ∧ u.carries (.inflight l.pos (s.closed (s.phased (s.inflightAt l.pos) 5) 2 stOK))) ∧
    (s.learnPhaseOf l < 3 → 1000 ≤ l.refused →
      exec .learnHoldTimeout s = .next (s.stage (learnUnit (s.learnFails l stINKWELL_LOW_HOLD))))

/-- R295, R296, R298: a host principal's verified MAC counts: the first sets STATE 2 and 30 s for the second; a MAC that fails is counted, the third
failure of a proposal discarding it; a proposal held past CLOSES is discarded with DENIED; the debug permission ends with its seconds.
Readings and choices of the model behind it: log entries 19, 111. -/
def Obligations.Countersigning : Prop :=
  (∀ (s : State) (i : Item) (num principal : Nat) (p : Proposal), s.working = true →
    s.gathered.find? (fun i => i.authentication.isSome) = some i → i.authentication = some (num, principal) →
    s.proposalsNow.find? (fun q => q.num == num) = some p →
    (byteAt i.val 0 = stOK → byteAt i.val 1 = 0 → p.state = 1 → exec .authentication s = .next ((s.consume i).stage (plainUnit i.key
      [.proposal { p with state := 2, first := principal, closes := s.sys.stroke + s.secStrokes 30 }] []))) ∧
    (byteAt i.val 0 = stOK → byteAt i.val 1 = 0 → p.state = 2 → p.first ≠ principal → s.sys.stroke ≤ p.closes → s.isMember p.first = true →
      s.isMember principal = true → exec .authentication s = .next ((s.consume i).applyProposal i.key p)) ∧
    (byteAt i.val 0 = stOK → byteAt i.val 1 ≠ 0 → p.fails < 2 → Completes .authentication s fun t => ∃ u, t = (s.consume i).stage u ∧
      u.effs = [.proposal { p with fails := p.fails + 1 }] ∧ u.cells = [.tally 10 (min (2 ^ 48 - 1) (s.tallyNow 10 + 1))]) ∧
    (byteAt i.val 0 = stOK → byteAt i.val 1 ≠ 0 → 2 ≤ p.fails → Completes .authentication s fun t => ∃ u m, t = (s.consume i).stage u ∧
      u.carries (.proposalFree p.slot) ∧ u.carries (.respond p.req false stDENIED m))) ∧
  (∀ (s : State) (num : Nat) (p : Proposal), s.working = true → s.proposalsNow.find? (fun q => q.num == num) = some p → p.closes ≤ s.sys.stroke →
    exec (.proposalExpiry num) s = .next (s.stage (plainUnit 0x0E000000 (s.discardProposal p) []))) ∧
  (∀ (s : State) (u : Nat), s.people.debugUntil = some u → u ≤ s.sys.stroke →
    exec .debugUnlockExpiry s = .next { s with people := { s.people with debugUntil := none } })

/-- R318-R324, R344: FEED_EN in IDLE with the PLL locked starts Feed; the start delay leads to RAMP, V_REF above V_SENSE begins switching, unless
TRACK_IN is below 50 mV where Feed follows it; the ramp's end arms the undervoltage watch in PG_WAIT, and power good brings RUN. A start that
does not reach RUN in time fails with cause 2; the hiccup's end starts again.

R321-R327, R344: PG drops in RUN and TRANSITION; FEED_EN negated stops Feed, or ends a hiccup in IDLE; the ramp's end after STOP is IDLE; an
undervoltage is counted and fails with cause 1; a pending configuration applies in IDLE and LATCHED_OFF.

R312-R316, R329: a SYNC_IN that meets the conditions locks the PLL; its loss is held over and counted, its return relocks; a detected load
step fires the first ready phase from the pointer and moves the pointer past it, once until it is rearmed.
Readings and choices of the model behind it: log entries 115, 117, 118, 119. -/
def Obligations.FeedStates : Prop :=
  (∀ s : State,
       (s.feedEn = true → s.feed.locked = true → s.feed.state = 1 → Completes .feedEnable s fun t => t = s.feedStart ∧ t.feed.state = 2) ∧
       (s.feed.state = 2 → exec .feedStartDelay s = .next { s with feed := { s.feed with state := 3 } }) ∧
       (∀ track, s.feed.state = 3 → s.feedCfg 8 = 2 ∨ 50 ≤ track →
         exec (.switchingBegins track) s = .next { s with feed := { s.feed with switching := true } }) ∧
       (s.feed.state = 3 → s.feed.switching = true → exec .rampComplete s = .next { s with feed := { s.feed with state := 4, watch := true } }) ∧
       (s.feed.state = 4 → exec .pgDelay s = .next { s with feed := { s.feed with state := 5, pg := true } }) ∧
       (s.feed.state = 5 ∨ s.feed.state = 6 → exec .pgDelay s = .next { s with feed := { s.feed with pg := true } }) ∧
       (2 ≤ s.feed.state → s.feed.state ≤ 4 → exec .startTimeout s = .next (s.feedFails 2)) ∧
       (s.feed.state = 8 → s.feedEn = true → Completes .hiccupOffEnd s fun t => t = s.feedStart ∧ t.feed.state = 2) ∧
       (s.feed.state = 5 ∨ s.feed.state = 6 → exec .hiccupCountReset s = .next { s with feed := { s.feed with attempts := 0 } })) ∧
  (∀ s : State,
       (s.feed.state = 5 ∨ s.feed.state = 6 → exec .pgDrop s = .next { s with feed := s.feed.dropPg }) ∧
       (s.feedEn = false → 2 ≤ s.feed.state → s.feed.state ≤ 6 →
         exec .feedDisable s = .next { s with feed := { s.feed.dropPg with state := 7 } }) ∧
       (s.feedEn = false → s.feed.state = 8 → exec .feedDisable s = .next { s with feed := { s.feed with state := 1 } }) ∧
       (s.feed.state = 7 → Completes .stopComplete s fun t => t.feed.state = 1 ∧ t.feed.switching = false ∧ { t with feed := s.feed } = s) ∧
       (s.feed.watch = true → Completes .undervoltageEvent s fun t => t.shadow 40 = (s.shadow 40 + 1) % 2 ^ 32 ∧ t.feed.watch = false ∧
         (t.feed.state = 8 ∨ t.feed.state = 9)) ∧
       (s.feed.state = 1 ∨ s.feed.state = 9 → Completes .feedConfigApply s fun t => t = s.feedApply ∧ t.feedPending = false)) ∧
  (∀ s : State,
       (∀ f, s.feed.state ≠ 0 → s.feed.locked = false → s.syncMeets f = true →
         exec (.feedLock f) s = .next { s with feed := { s.feed with locked := true, lost := false, fsync := f } }) ∧
       (s.feed.locked = true → s.feed.lost = false →
         exec .syncInLoss s = .next { s.countUp 43 1 with feed := { s.feed with lost := true } }) ∧
       (∀ f, s.feed.locked = true → s.feed.lost = true → s.syncMeets f = true →
         exec (.relock f) s = .next { s with feed := { s.feed with lost := false, fsync := f } }) ∧
       (∀ ready p, s.feed.state = 5 ∨ s.feed.state = 6 → s.feedCfg 19 ≠ 0 → s.feed.lsArmed = true →
         ((List.range (max 1 (s.feedCfg 0))).map fun i => (s.feed.pointer + i) % max 1 (s.feedCfg 0)).find? (Nat.testBit ready) = some p →
         exec (.loadStep ready) s = .next { s.countUp 44 1 with
           feed := { s.feed.stick 6 with pointer := (p + 1) % max 1 (s.feedCfg 0), lsArmed := false } }) ∧
       exec .loadStepRearm s = .next { s with feed := { s.feed with lsArmed := true } })

/-- R330-R338: a request in order makes the link valid and is answered; SET_VID is accepted in RUN and TRANSITION with VID and SLEW in range, a
repeat only answered, and refused with reason 1, 2 or 3 otherwise, another command with reason 4; a CRC error is counted and not answered;
a cut exchange cuts the response; a transition ends in RUN, where ACK latches at the target; a silent link is lost.
Readings and choices of the model behind it: log entries 120, 121. -/
def Obligations.FeedlineExchanges : Prop :=
  ∀ (s : State) (seq vid slew ref : Nat), s.feed.state ≠ 0 →
    exec (.status seq ref) s = .next ((s.linkValid ref).linkReply 1 seq false false) ∧
    (seq < 8 → (s.linkValid ref).feed.last = some (seq, vid, slew) →
      exec (.setVid seq vid slew ref) s = .next ((s.linkValid ref).linkReply 2 seq true false)) ∧
    (seq < 8 → (s.linkValid ref).feed.last ≠ some (seq, vid, slew) →
      ((s.linkValid ref).feed.state ≠ 5 → (s.linkValid ref).feed.state ≠ 6 →
        exec (.setVid seq vid slew ref) s = .next ((s.linkValid ref).linkRefuse 2 seq slew ref 1)) ∧
      ((s.linkValid ref).feed.state = 5 → vid < (s.linkValid ref).feedCfg 4 ∨ (s.linkValid ref).feedCfg 5 < vid →
        exec (.setVid seq vid slew ref) s = .next ((s.linkValid ref).linkRefuse 2 seq slew ref 2)) ∧
      ((s.linkValid ref).feed.state = 5 → (s.linkValid ref).feedCfg 4 ≤ vid → vid ≤ (s.linkValid ref).feedCfg 5 → 1 ≤ slew → slew ≤ 40 →
        exec (.setVid seq vid slew ref) s = .next ((State.linkItem { s.linkValid ref with
          feed := { (s.linkValid ref).feed with vid := vid, ack := false, state := if vid = (s.linkValid ref).feed.vid then 5 else 6, last := some (seq, vid, slew) } }
          0x81 seq slew ref 0).linkReply 2 seq true false))) ∧
    (∀ cmd, cmd % 8 ≠ 1 → cmd % 8 ≠ 2 →
      exec (.feedlineUnknownCmd cmd seq slew ref) s = .next ((s.linkValid ref).linkRefuse (cmd % 8) seq slew ref 4)) ∧
    exec .feedlineCrcError s = .next { s.countUp 45 1 with feed := { s.feed with reply := 0 } } ∧
    (∀ clocks, clocks ≤ 34 → exec (.exchangeCut clocks) s = .next { s with feed := { s.feed with reply := 0 } }) ∧
    (∀ clocks, 34 < clocks → clocks < 66 → exec (.exchangeCut clocks) s =
      .next { s with feed := { s.feed with reply := s.feed.reply / 2 ^ (66 - clocks) * 2 ^ (66 - clocks) } }) ∧
    (s.feed.state = 6 → exec .transitionEnd s = .next { s with feed := { s.feed with state := 5 } }) ∧
    (s.feed.state = 5 → s.feed.ack = false → s.feed.last = some (seq, vid, slew) → exec (.ackSet ref) s =
      .next (State.linkItem { s with feed := { s.feed with ack := true } } 0x82 seq slew ref 0)) ∧
    (s.feed.link = 1 → exec (.feedlineLost ref) s =
      .next (State.linkItem { s.countUp 47 1 with feed := { s.feed with link := 2 } } 0x84 0 0 ref 0))

/-- R26, R89, R340-R342: the stroke after the grant stages FEED_EN with cause 1 and PHASE 2; two power-good strokes stage RELEASED with cause 2 and
close the entry DONE; without them in time the release is abandoned and both fields are cleared with cause 3. -/
def Obligations.ReleaseSteps : Prop :=
  ∀ (s : State) (pos : Nat) (e : Inflight), s.working = true → s.releaseEntry = some (pos, e) →
    (e.phase = 1 → alookup pos s.inflight = some e → exec .releaseFeedEnable s = .next (s.stage (releaseUnit
      [.inflight pos (s.phased e 2), .latch .setFeedEn, .pgCount 0, .releaseSince s.sys.stroke] [s.recLatch (s.latchByte 1) 1]))) ∧
    (e.phase = 2 → 2 ≤ s.pgNow → Stages .releaseOutputs s fun u => u.carries (.latch .setReleased) ∧
      u.carries (.inflight pos (s.closed (s.phased e 3) 2 stOK)) ∧ s.recLatch (s.latchByte 3) 2 ∈ u.recs) ∧
    (e.phase = 2 → s.pgNow < 2 → s.release.since + s.msStrokes (s.num 0x482003) ≤ s.sys.stroke → Stages .releaseTimeout s fun u =>
      u.carries (.latch .clear) ∧ s.recLatch (s.latchByte 0) 3 ∈ u.recs ∧ ¬ u.carries (.latch .setReleased))

/-- R358, R367, R368, R372, R379, R397: in its slot a synchronised node drives the frame it has ready, which counts the frames that met it; in the
vote slot of its own cycle it drives its vote and keeps what it asked for; in the dynamic segment a ready frame that still fits is driven, and
the counter moves on past it, or by one. A cold-start node drives its frame of the stroke, counts it, and after four is leader; an attempt
cut short is over.
Readings and choices of the model behind it: log entries 126, 128. -/
def Obligations.RingFramesOut : Prop :=
  (∀ (s : State) (fid overlaps : Nat) (f : RidgeOut), s.ridge.state = 5 → s.slotOf s.ridge.active s.ridge.cycle fid = 1 →
    entOwner (s.schEntry s.ridge.active fid) = s.node → s.ridge.ready.find? (fun f => f.fid == fid && f.fid != 0 && f.fid != 255) = some f →
    exec (.frameSend fid overlaps) s = .next ((s.countUp 55 overlaps).drive f)) ∧
  (∀ (s : State) (f : RidgeOut), s.ridge.state = 5 → s.ridge.cycle = s.node → s.ridge.ready.find? (fun f => f.fid == 0) = some f → f.sent = false →
    (s.drive f).ridge.sent ≠ s.ridge.sent → exec .voteFrame s = .next { s.drive f with
      ridge := { (s.drive f).ridge with ownVotes := (s.drive f).ridge.ownVotes ++ [(s.ridge.sheet, byteAt f.body 5)] } }) ∧
  (∀ (s : State) (win first last ms count : Nat), s.ridgeSync = true → s.dynSegment win = some (first, last, ms, count) →
    first ≤ last → 1 ≤ count → s.ridge.dyn = none → (s.ridge.ready.find? fun f => f.fid == first && decide (f.kind < 2) && entOwner (s.schEntry s.ridge.active first) == s.node) = none →
    exec (.minislot win none false) s = .next { s with ridge := { s.ridge with dyn := some (win, first + 1, 1) } } ∧
    (∀ len auth, exec (.minislot win (some (len, auth)) false) s =
      .next { s with ridge := { s.ridge with dyn := some (win, first + 1, 0 + s.miniK ms len auth) } })) ∧
  (∀ (s : State) (f : RidgeOut), s.ridge.state = 2 →
    s.ridge.ready.find? (fun f => f.fid == 255 && f.cycle == s.sys.stroke % 64 && !f.sent) = some f →
    (s.drive f).ridge.sent ≠ s.ridge.sent → exec .coldstartFrame s = .next { s.drive f with
      ridge := { (s.drive f).ridge with attempts := (s.drive f).ridge.attempts + 1 } }) ∧
  (∀ s : State, s.ridge.state = 2 → s.ridge.coldFrom + 4 ≤ s.sys.stroke →
    (s.ridge.attempts = 4 → s.listenOnly = false → Completes .coldstartComplete s fun t => t.ridge.state = 5 ∧ t.ridge.leader = s.node ∧
      t.ridge.active = s.num 0x500008 ∧ t.ridge.cycle = s.sys.stroke % 64 ∧ t.ridge.offset = 0 ∧
      Offered s t 0x0B s.node (padTo 16 (beBytes 1 1 ++ (beBytes 1 5 ++ beBytes 1 s.node)))) ∧
    (s.ridge.attempts ≠ 4 ∨ s.listenOnly = true → Completes .coldstartComplete s fun t => t = s.ridgeTo 1 ∧ t.ridge.state = 1))

/-- R364, R379, R382, R389: a node that listens takes the ring's cycle, sheet and schedule from the first integration frame it hears whole; in
synchronism a frame of its slot that agrees with the schedule becomes the item of its source. A copy whose CRC fails is counted and
nothing else comes of it.
Readings and choices of the model behind it: log entries 124, 127. -/
def Obligations.RingFramesIn : Prop :=
  (∀ (s : State) (slot : Nat) (x : RidgeRx), s.ridge.state = 1 → s.isolated 0 = false → copyWhole x = true → fSource x.frame ≠ s.node → s.integrates x.frame = true →
    Completes (.frameReceived slot (some x) none) s fun t => t.ridge.state = 3 ∧ t.ridge.cycle = fCycle x.frame ∧
      t.ridge.sheet = beNat (slice (fPayload x.frame) 0 4) ∧ t.ridge.active = byteAt (fPayload x.frame) 4) ∧
  (∀ (s : State) (slot : Nat) (x : RidgeRx), s.ridge.state = 5 → s.isolated 0 = false → copyWhole x = true → fSource x.frame ≠ s.node →
    s.agrees s.ridge.active s.ridge.cycle slot x.frame = true → fCycle x.frame = s.ridge.cycle → fKind x.frame = 0 →
    Completes (.frameReceived slot (some x) none) s fun t => t.ridge.seen = true ∧ t.ridge.state = 5 ∧
      Offered s t 0x0B (fSource x.frame) ([0] ++ beBytes 1 0 ++ beBytes 1 (b2n (fAuth x.frame)) ++ x.frame.take 5 ++ fPayload x.frame)) ∧
  (∀ (s : State) (slot : Nat) (x : RidgeRx), s.ridge.state = 5 → x.violations = 0 → x.ended = true → copyWhole x = false →
    fSource x.frame ≠ s.node → (s.slotOf s.ridge.active s.ridge.cycle slot == 2) = false →
    x.frame.drop (x.frame.length - 4) ≠ frameCrc (x.frame.take (x.frame.length - 4)) →
    s.isolated 0 = false → 2 ≤ s.ridge.topology ∨ fHops x.frame + 2 < s.num 0x500003 →
    exec (.frameReceived slot (some x) none) s = .next ((s.countUp 50 0).countUp 51 1))

/-- R380, R383, R385, R386, R388: at the network idle time the midpoint of the cycle's deviations is taken, and the offset decides between SYNC and
CONVERGING; a silent listen ends in a cold start of a node that may begin one; a node quiet too long, of an invalid schedule, or at odds with
the ring cycle loses synchronisation, which is counted and is a fault.
Readings and choices of the model behind it: log entries 126, 127, 132. -/
def Obligations.RingTiming : Prop :=
  (∀ (s : State) (offset : Int), s.ridge.state = 3 → exec (.clockCorrection offset) s = .next (s.ringCorrect offset).integrating) ∧
  (∀ (s : State) (offset : Int), s.ridge.state = 4 → s.ridge.devs = [] → (s.wrapOffset offset).natAbs ≤ 160 → s.listenOnly = false →
    Completes (.clockCorrection offset) s fun t => t.ridge.state = 5 ∧ t.ridge.strokeOffset = s.wrapOffset offset) ∧
  (∀ (s : State) (offset : Int), s.ridge.state = 5 → s.ridge.devs = [] → 160 < (s.wrapOffset offset).natAbs →
    Completes (.clockCorrection offset) s fun t => t.ridge.state = 4) ∧
  (∀ s : State, s.ridge.state = 1 → s.num 0x50000A = 1 → s.listenOnly = false → s.ridge.listenFrom + 16 + 2 * s.node ≤ s.sys.stroke →
    Completes .listenTimeout s fun t => t.ridge.state = 2 ∧ t.ridge.coldFrom = s.sys.stroke + 2 ∧ t.ridge.attempts = 0) ∧
  (∀ s : State, s.ridgeSync = true → s.schValid s.ridge.active = false ∨ 2 ≤ s.ridge.badCycle → Completes .lossOfSynchronisation s fun t =>
    t.ridge.state = 1 ∧ t.shadow 63 = (s.shadow 63 + 1) % 2 ^ 32)

/-- R400-R405: an input without transitions, without supervision or twice without symbol synchronisation loses its side; at the network idle time
the node wraps, which is counted and deposited; a side found good for a sheet returns; an own transmission stopped is counted, the third of a
sheet stopping the node; babble is counted once per input, kind and cycle.
Readings and choices of the model behind it: log entry 134. -/
def Obligations.RingSides : Prop :=
  (∀ (s : State) (side : Nat), s.ridge.state ≠ 0 → exec (.supervisionLoss side) s = .next (s.sideLost side)) ∧
  (∀ (s : State) (input : Nat), s.ridge.state ≠ 0 →
    exec (.lineBreak input) s = .next (s.sideLost (inputSide input)) ∧
    (alookup input s.ridge.symLoss = none → exec (.symbolSyncLoss input) s = .next { s with ridge := { s.ridge with
      unlocked := setBit s.ridge.unlocked input true, symLoss := ainsert input s.sys.stroke s.ridge.symLoss } }) ∧
    (alookup input s.ridge.symLoss = some (s.sys.stroke - 1) → 1 ≤ s.sys.stroke → Completes (.symbolSyncLoss input) s fun t =>
      t.ridge.lost.testBit (inputSide input) = true ∧ t.ridge.unlocked.testBit input = true)) ∧
  (∀ (s : State) (input : Nat), exec (.symbolSyncRegain input) s =
    .next { s with ridge := { s.ridge with unlocked := setBit s.ridge.unlocked input false } }) ∧
  (∀ s : State, s.ridge.state ≠ 0 → topologyOf (s.sidesOut ||| topologyOut s.ridge.topology) ≠ s.ridge.topology → Completes .wrap s fun t =>
    t.ridge.topology = topologyOf (s.sidesOut ||| topologyOut s.ridge.topology) ∧ t.shadow 128 = (s.shadow 128 + 1) % 2 ^ 32) ∧
  (∀ s : State, s.ridge.state = 4 → s.ridge.lostUp + 64 ≤ s.sys.stroke → (s.num 0x50000C).testBit 0 = false → s.ridge.cycle = 63 →
    s.ridge.lost.testBit 0 = true → Completes (.sideRestore 0) s fun t => t.ridge.lost.testBit 0 = false ∧
      t.ridge.topology = topologyOf (topologyOut s.ridge.topology &&& 2)) ∧
  (∀ s : State, s.ridge.state ≠ 0 → Completes .guardianTrip s fun t => t.ridge.trips = s.ridge.trips + 1 ∧
    t.ridge.stopped = (decide (2 ≤ s.ridge.trips) || s.ridge.stopped) ∧
    Offered s t 0x0B s.node (padTo 16 (beBytes 1 4 ++ beBytes 1 (b2n (decide (2 ≤ s.ridge.trips) || s.ridge.stopped))))) ∧
  (∀ (s : State) (side kind source hops : Nat), s.ridgeSync = true → s.ridge.babbled.contains (side, kind) = false → side < 2 →
    (s.num 0x50000C).testBit side = false → Completes (.babble side kind source hops) s fun t =>
      t.ridge.babbled = s.ridge.babbled ++ [(side, kind)] ∧ t.raw 0x50010B =
        stampBytes s.stamp ++ beBytes 1 side ++ beBytes 1 kind ++ beBytes 1 source ++ beBytes 1 hops ++ zeros 2)

/-- R394-R399: a gathered verification of a frame: one that passed acts, one that did not is counted and recorded, and none counts while Quill is
quarantined. In cycle 1 complete votes of one mind decide a switch; it becomes active at the sheet's end, which is counted; a complete sheet of
votes for another schedule held alike here is adopted.
Readings and choices of the model behind it: log entries 60, 131. -/
def Obligations.RingSchedules : Prop :=
  (∀ (s : State) (i : Item), s.working = true →
    s.gathered.find? (fun i => i.cls == 5 && i.idx == 1 && i.aux.head? == some 100 && i.aux.getD 1 0 == 7) = some i →
    (byteAt i.val 0 = stOK → byteAt i.val 1 = 0 → exec .frameVerified s =
      .next ((s.consume i).ridgeAct i (toBytes ((i.aux.drop 2).takeWhile (· < 256))))) ∧
    (byteAt i.val 0 = stQUARANTINED → exec .frameVerified s = .next (s.consume i)) ∧
    (byteAt i.val 0 = stOK → byteAt i.val 1 ≠ 0 → Completes .frameVerified s fun t => ∃ u, t.staged = s.staged ++ [u] ∧ u.effs = [] ∧
      u.recs ≠ [] ∧ t.shadow 59 = (s.shadow 59 + 1) % 2 ^ 32)) ∧
  (∀ (s : State) (w : Vote), s.working = true → s.ridgeSync = true → s.ridge.cycle = 1 → s.votesOf (s.sheetBack 1) = [w] →
    (s.ridge.ownVotes.filter fun o => o.1 == s.sheetBack 1) = [(s.sheetBack 1, byteAt w.payload 5)] →
    (∀ n ∈ s.membership (s.sheetBack 2), n ≠ s.node → ∃ v ∈ s.ridge.votes, v.sheet = s.sheetBack 1 ∧ v.node = n) →
    slice w.payload 6 4 = (s.schDigest (byteAt w.payload 5)).take 4 → s.schValid (byteAt w.payload 5) = true →
    byteAt w.payload 5 ≠ s.ridge.active →
    exec .scheduleDecision s = .next { s with ridge := { s.ridge with switchTo := some (byteAt w.payload 5) } }) ∧
  (∀ (s : State) (k : Nat), s.ridge.switchTo = some k → s.working = true → s.ridgeSync = true → s.ridge.cycle = 63 →
    exec .scheduleSwitch s = .next (s.stage (ridgeTimed [.ridgeActive k false, objN 0x50000B 0xFF, .count 62 1]))) ∧
  (∀ (s : State) (w : Vote), (s.votesOf (s.sheetBack 1)).filter (fun v => v.node != s.node) = [w] → s.working = true → s.ridge.state = 5 →
    s.ridge.cycle = 63 → s.ridge.switchTo = none → byteAt w.payload 4 ≠ s.ridge.active → s.schValid (byteAt w.payload 4) = true →
    byteAt w.payload 5 = 0xFF → slice w.payload 6 4 = (s.schDigest (byteAt w.payload 4)).take 4 →
    exec .scheduleAdoption s = .next (s.stage (ridgeTimed [.ridgeActive (byteAt w.payload 4) true])))

/-- R410-R416: a data frame on the request identifier enters the receive ring and is counted, one on an identifier of the device's own is a
conflict; the frame at the head that was sent leaves the ring and is counted; messages past their lifetime are discarded whole and counted,
export blocks never.

R408, R411, R416, R417: the error counters move the error state; bus-off keeps the ring, is counted and ends the reassemblies; recovery begins when the
hold is over, and ends error-active with both counters zero; a protocol exception is counted and integrates again, as does a controller
newly started, until 11 recessive bits.
Readings and choices of the model behind it: log entries 135, 136, 137, 138. -/
def Obligations.CanControllers : Prop :=
  ((∀ (s : State) (k flags id : Nat) (data : Bytes), (s.can k).active = true → (flags.testBit 1 = true → s.canObj k 2 ≠ 0) →
       flags.testBit 0 = (s.canObj k 3 == 1) → id ≠ noId → (s.can k).rxc < 128 → (s.can k).tec < 128 → (s.can k).reinit = false → (s.can k).state = 2 →
       (id = s.canObj k 4 → (s.gq.filter fun i => i.cls == 0x0C && i.idx == k % 2 && byteAt i.val 0 == 0).length < 64 →
         Completes (.canFrameReceived k flags id data) s fun t => (t.can k).rxc = (s.can k).rxc - 1 ∧
           Offered s t 0x0C (k % 2) (beBytes 1 0 ++ beBytes 1 (flags % 16) ++ beBytes 4 id ++ beBytes 1 (data.take 64).length ++
             padTo 64 (data.take 64)) ∧ t.shadow (canCount k 1) = (s.shadow (canCount k 1) + 1) % 2 ^ 32) ∧
       (id ≠ s.canObj k 4 → id = s.canObj k 5 → Completes (.canFrameReceived k flags id data) s fun t =>
         Offered s t 0x0C (k % 2) (beBytes 1 2 ++ beBytes 1 (flags % 16) ++ beBytes 4 id ++ [0] ++ zeros 64) ∧
           t.shadow (canCount k 6) = (s.shadow (canCount k 6) + 1) % 2 ^ 32) ∧
       (id ≠ s.canObj k 4 → id ≠ s.canObj k 5 → id ≠ s.canObj k 6 → Completes (.canFrameReceived k flags id data) s fun t => t.gq = s.gq)) ∧
     (∀ (s : State) (k i : Nat) (m : CanTx), (s.can k).active = true → s.canObj k 1 = 1 → s.canHead k = some i → (s.can k).tx[i]? = some m →
       m.parts.length = 1 → (s.can k).tec < 128 → (s.can k).rxc < 128 → (s.can k).state = 2 → (s.can k).reinit = false →
       Completes (.canFrameSent k) s fun t => (t.can k).tx = (s.can k).tx.eraseIdx i ∧ (t.can k).line = m.parts.headD [] ∧
         (t.can k).tec = (s.can k).tec - 1 ∧ t.shadow (canCount k 2) = (s.shadow (canCount k 2) + 1) % 2 ^ 32 ∧ t.gq = s.gq) ∧
     (∀ (s : State) (k : Nat), k < 2 → Completes (.txLifetimeExpiry k) s fun t =>
       (∀ m ∈ (t.can k).tx, m.isExport = true ∨ s.sys.stroke < m.release + s.canObj k 0x13) ∧
       (∀ m ∈ (s.can k).tx, m.isExport = true → m ∈ (t.can k).tx) ∧ t.can (1 - k) = s.can (1 - k) ∧ t.gq = s.gq)) ∧
  (∀ (s : State) (k : Nat), k < 2 →
       (∀ tec rec, (s.can k).active = true → Completes (.errorStateChange k tec rec) s fun t => (t.can k).tec = min tec 255 ∧
         (t.can k).rxc = min rec 255 ∧ (t.can k).state = (if 128 ≤ tec ∨ 128 ≤ rec then 3 else 2)) ∧
       ((s.can k).active = true → Completes (.busOff k) s fun t => (t.can k).state = 4 ∧ (t.can k).tec = 256 ∧
         t.shadow (canCount k 5) = (s.shadow (canCount k 5) + 1) % 2 ^ 32 ∧ (t.can k).tx.length = (s.can k).tx.length) ∧
       (∀ due, (s.can k).recoverAt = some due → s.working = true → (s.can k).state = 4 → s.canObj k 0x0C = 0 → due ≤ s.sys.stroke →
         exec (.busOffHoldExpiry k) s = .next (s.stage (plainUnit 0x0E040000 [.canRecover (k % 2)] []))) ∧
       ((s.can k).state = 5 → s.canObj k 1 ≠ 0 → Completes (.recoveryComplete k) s fun t => (t.can k).state = 2 ∧ (t.can k).tec = 0 ∧ (t.can k).rxc = 0 ∧
         Offered s t 0x0C k (beBytes 1 1 ++ beBytes 1 2 ++ (zeros 4) ++ [0] ++ zeros 64)) ∧
       ((s.can k).active = true → Completes (.protocolException k) s fun t => (t.can k).state = 1 ∧
         t.shadow (canCount k 7) = (s.shadow (canCount k 7) + 1) % 2 ^ 32) ∧
       ((s.can k).state = 1 → (s.can k).reinit = false → Completes (.canIntegrationComplete k) s fun t => (t.can k).state = 2 ∧
         (t.can k).tec = 0 ∧ (t.can k).rxc = 0))

/-- R426-R430: a slave forwards a valid marker with its own delay added and takes the master's stroke from it; a master only notes one. A slave
echoes in its strokes and once after its first marker; every device answers an echo; the round trip counts among the last eight.

R422, R424, R425, R430-R432: a slave not admitted answers DISCOVER with HELLO; a master gathers a valid HELLO; ADMIT names the boundary at which
the slave and the master switch; REFUSE is gathered, and after REASON 1 the slave answers again once 64 strokes have passed; a second
master, heard in three strokes, makes a conflict.
Readings and choices of the model behind it: log entries 4, 141, 142. -/
def Obligations.PoleLinkAndAdmission : Prop :=
  ((∀ (s : State) (m : Bytes) (arrival : Int), s.poleUp = true → m.length = 9 → crc8 (m.take 8) = byteAt m 8 →
       (s.isSlave = false → exec (.markerReceived m arrival) s = .next (s.setSelf fun p => { p with marked := true })) ∧
       (s.isSlave = true → s.pole.self.delays = [] → Completes (.markerReceived m arrival) s fun t => t.pole.self.marked = true ∧
         t.pole.self.missed = 0 ∧ t.pole.self.mstroke = beNat (slice m 0 5) ∧ t.pole.out = s.pole.out ++ [⟨0, 0, true, beNat (slice m 0 5),
           markerBytes (beNat (slice m 0 5)) (beNat (slice m 5 2) + 0 + 4000) (byteAt m 7)⟩])) ∧
     (∀ s : State, s.poleUp = true → s.isSlave = true → s.bivouac = false → s.knownStroke % 64 = 8 * s.sys.cascId →
       exec .echo s = .next ((s.sendOwn ⟨0x80, 0, false, s.knownStroke, []⟩).setSelf fun p => { p with echo := true })) ∧
     (∀ s : State, s.poleUp = true → exec .echoReply s = .next (s.sendOwn ⟨0x81, 0, false, s.knownStroke, []⟩)) ∧
     (∀ (s : State) (rtt : Nat), s.poleUp = true → s.isSlave = true → s.pole.self.echo = true → Completes (.echoReplyReceived rtt) s fun t =>
       t.pole.self.echo = false ∧ t.pole.self.delays.getLast? = some (rtt - 8000) ∧
         (s.pole.self.delays.length ≤ 8 → t.pole.self.delays.length = min 8 (s.pole.self.delays.length + 1)))) ∧
  ((∀ s : State, s.poleUp = true → s.isSlave = true → s.pole.self.admitted = false → s.pole.self.refused = 0 → s.bivouac = false →
       s.pole.conflict = false → Completes .discover s fun t => t.pole.out = s.pole.out ++
         [⟨1, 0, true, 0, []⟩, ⟨0x41, 0, false, s.sys.stroke, s.helloBytes⟩] ∧ { t with pole := s.pole } = s) ∧
     (∀ (s : State) (source : Nat) (payload : Bytes), s.poleUp = true → s.isSlave = false →
       (s.pole.conflict = false → s.bivouac = false → 1 ≤ source → source ≤ 7 → exec (.hello source payload true) s =
         .next (s.offer 10 source (padTo 44 payload) [12, s.sys.stroke])) ∧
       exec (.hello source payload false) s = .next (s.countUp 144 1)) ∧
     (∀ (s : State) (payload : Bytes), s.poleUp = true → s.isSlave = true → Completes (.poleAdmit payload true) s fun t =>
       t.pole.self.effective = some (beNat (slice payload 0 2)) ∧ t.pole.self.delta = beNat (slice payload 2 6) ∧
         t.pole.self.admitted = s.pole.self.admitted) ∧
     (∀ (s : State) (e : Nat), s.poleUp = true → s.isSlave = true → s.pole.self.effective = some e →
       (s.masterStroke + 2 ^ 16 - e) % 2 ^ 16 < 2 ^ 15 → Completes .admissionEffective s fun t => t.pole.self.admitted = true ∧
         t.pole.self.effective = none ∧ t.pole.self.refused = 0 ∧ { t with pole := s.pole } = s) ∧
     (∀ (s : State) (n e : Nat), s.poleUp = true → s.isSlave = false → n < 8 → (s.slaveRec n).effective = some e → e ≤ s.sys.stroke →
       Completes .admissionEffective s fun t => (t.slaveRec n).state = 1 ∧ (t.slaveRec n).effective = none) ∧
     (∀ (s : State) (reason : Nat), s.poleUp = true → s.isSlave = true → s.pole.self.admitted = false → Completes (.refuse reason) s fun t =>
       Offered s t 10 0 (beBytes 1 reason)) ∧
     (∀ s : State, s.pole.self.refused = 1 → s.pole.self.refusedAt + 64 ≤ s.sys.stroke →
       exec .refuseRetry s = .next (s.setSelf fun p => { p with refused := 0 })) ∧
     (∀ s : State, s.poleUp = true → s.isSlave = false → s.pole.conflict = false → 3 ≤ s.pole.foreign + b2n s.pole.self.marked →
       Completes .secondMaster s fun t => t.pole.conflict = true ∧ t.pole.slaves = [] ∧ t.pole.out = [] ∧ t.isMaster = false))

/-- R219, R239, R304, R425, R433, R435, R439, R441: what an admitted slave does with the master's parts, each repeated down the chain: an LF part becomes
its pending schedule, a radio part its list; late, they are counted; an abort ends the activity it names; a key context is queued for
derivation; a Learn page is written into the staged bank, the header bringing the check; a Learn commit of the staged digest raises the
epoch; a relayed request is gathered.
Readings and choices of the model behind it: log entries 13, 80, 87, 95, 143, 147. -/
def Obligations.PoleParts : Prop :=
  ∀ (s : State) (b : Bytes), s.served = true →
    let rep (type : Nat) (p : Bytes) : State := s.repeated ⟨type, s.sys.cascId, false, s.masterStroke, p⟩
    exec (.lfSchedule b false) s = .next { rep 4 b with lf := { s.lf with next := some ⟨3, 0, s.sys.stroke, 200, b, []⟩ } } ∧
    exec (.radioList b false) s = .next ((rep 5 b).listApply ⟨(rep 5 b).partEntries 32 b, true⟩) ∧
    exec (.radioList b true) s = .next ((rep 5 b).countUp 147 1) ∧
    exec (.abortActivity 0) s = .next (rep 6 (beBytes 1 0)) ∧ exec (.abortActivity 1) s = .next (rep 6 (beBytes 1 1)).lfAbortNow ∧
    exec (.abortActivity 2) s = .next (rep 6 (beBytes 1 2)).radioAbortNow ∧
    (s.quillUp = true → Completes (.keyContext b) s fun t => ∃ r, t.quill.queue = s.quill.queue ++ [r] ∧ r.queue = 0 ∧ r.mode = 10 ∧
      r.slot = byteAt b 0 ∧ r.expect = some (beNat (slice b 1 4))) ∧
    (byteAt b 0 % 14 ≠ 0 → Completes (.learnPage b) s fun t => ∃ u, t = (rep 8 b).stage u ∧ u.need = .phase ∧ u.effs = [] ∧
      u.pairs = [⟨0, bankPair (s.epoch + 1) + byteAt b 0 % 14, ownEpoch (byteAt b 0 % 14) (s.epoch + 1) (slice b 2 240)⟩]) ∧
    (byteAt b 0 % 14 = 0 → Completes (.learnPage b) s fun t => ∃ u, t = (rep 8 b).stage u ∧ u.effs = [.poleCheck] ∧ u.pairs ≠ []) ∧
    (s.pole.self.staged = some (b.take 8) → s.sys.phase ≠ .commit → Completes (.learnCommit b) s fun t => ∃ u, t = (rep 9 b).stage u ∧
      u.need = .phase ∧ u.cells = [.tally 8 (s.epoch + 1)] ∧ u.carries .checkSet) ∧
    (∀ prot, Completes (.relay prot b) s fun t => t.staged = s.staged ∧ Offered s t 10 0 (b.take (msgLen b)))

/-- R422, R434, R436-R439, R441: what a master does with a slave's reports: an item of an ACTIVE slave is held for its due stroke, a late one counted;
a STATUS that differs is an item; three strokes without one are a loss, counted and gathered; a Learn report and a relayed response are
gathered; a relay is given up after 64 strokes. An admitted slave without markers for three boundaries is stranded.
Readings and choices of the model behind it: log entries 4, 140, 144. -/
def Obligations.PoleReports : Prop :=
  (∀ (s : State) (source : Nat), s.poleUp = true → s.isSlave = false → s.pole.conflict = false →
    (∀ cls idx seq val due, s.slaveUp source = true → cls = 6 ∨ cls = 7 ∨ cls = 9 → s.sys.stroke < due →
      exec (.poleItem source cls idx seq val due true) s = .next { s with pole := { s.pole with
        items := s.pole.items ++ [⟨due, cls, 32 * source + idx % 32, seq % 2 ^ 16, val⟩] } }) ∧
    (∀ cls idx seq val due, s.slaveUp source = true → cls = 6 ∨ cls = 7 ∨ cls = 9 → due < s.sys.stroke →
      Completes (.poleItem source cls idx seq val due true) s fun t => t.shadow 146 = (s.shadow 146 + 1) % 2 ^ 32 ∧
        t.pole.items = s.pole.items ++ [⟨s.sys.stroke, cls, 32 * source + idx % 32, seq % 2 ^ 16, val⟩]) ∧
    (∀ payload, s.admitted.contains source = true → (s.slaveRec source).status ≠ padTo 8 payload →
      Completes (.poleStatus source payload) s fun t => (t.slaveRec source).status = padTo 8 payload ∧ (t.slaveRec source).missed = 0 ∧
        Offered s t 10 source (padTo 8 payload)) ∧
    (∀ v, s.admitted.contains source = true → exec (.learnReport source v) s = .next (s.offer 10 source (beBytes 1 v) [16])) ∧
    (∀ msg, (s.slaveRec source).relay ≠ none → exec (.relayResponse source msg) s = .next (s.offer 10 source (padTo 240 msg) [18])) ∧
    (s.admitted.contains source = true → 3 ≤ (s.slaveRec source).missed → Completes (.slaveLost source) s fun t =>
      (t.slaveRec source).missed = 0 ∧ t.shadow 145 = (s.shadow 145 + 1) % 2 ^ 32 ∧ Offered s t 10 source (zeros 8))) ∧
  (∀ (s : State) (n : Nat) (x : Nat × Nat), (s.slaveRec n).relay = some x → s.working = true → x.1 + 64 ≤ s.sys.stroke → s.effects = [] →
    exec (.relayTimeout n) s = .next (s.stage (plainUnit (10 * 2 ^ 24 + n * 2 ^ 16)
      [.slaveRelay n none, .obj (0x601200 + n) (padTo 240 (ledgerMsg 2 stBUSY x.2 0 0 (stampBytes s.stamp))), .count 148 1] []))) ∧
  (∀ s : State, s.poleUp = true → s.isSlave = true → s.pole.self.admitted = true → 3 ≤ s.pole.self.missed → Completes .slaveStranded s fun t =>
    t.pole.self.stranded = true ∧ t.pole.self.admitted = false ∧ t.lf.next = none ∧ t.radio.next = none)

/-- R11: an entry on an object outside the object table, whether it reads or writes, is answered NO_SUCH_OBJECT and leaves the transaction as
it was; a request of that one entry stages its response and nothing else. -/
def Obligations.UndefinedObjects : Prop :=
  ∀ (e : LEntry), objDef e.key = none → (e.key % 256 = 0 → highestSub (e.key / 256) = 0) →
    (∀ (t : TxnRun) (r : Requester) (prot echo : Bool),
      t.entry r prot echo e = { t with results := t.results ++ [⟨stNO_SUCH_OBJECT, e.key, []⟩] }) ∧
    (∀ (s : State) (i : Item) (echo : Bool) (body : Bytes), s.working = true → s.gathered.find? Item.isRequest = some i →
      parseRequest i.val = .request echo body [e] → i.requester.via = .none →
      Completes .ledgerTransaction s fun t => ∃ u, t = (s.consume i).stage u ∧ u.recs = [] ∧ u.cells = [] ∧ u.pairs = [] ∧
        u.effs = [.respond i.requester false stNO_SUCH_OBJECT
          (response 2 stNO_SUCH_OBJECT i.requester.tag echo [⟨stNO_SUCH_OBJECT, e.key, []⟩])])

/-- R335: a SET_VID whose SEQ, VID and SLEW equal those of the last accepted one is answered ACCEPTED with the present state, and neither the
transition nor the acknowledgement nor the target changes. -/
def Obligations.RepeatedSetVid : Prop :=
  ∀ (s : State) (seq vid slew ref : Nat), s.feed.state ≠ 0 → s.feed.state < 16 → seq < 8 → s.feed.last = some (seq, vid, slew) →
    Completes (.setVid seq vid slew ref) s fun t =>
      t.feed.reply = t.feed.response 2 seq true false ∧ t.feed.reply / 2 ^ 11 % 2 = 1 ∧ t.feed.reply / 2 ^ 12 % 16 = s.feed.state ∧
        t.feed.state = s.feed.state ∧ t.feed.ack = s.feed.ack ∧ t.feed.vid = s.feed.vid ∧ t.feed.last = s.feed.last

/-- R262, R263: an exchange that starts with a wake telegram sends an LF telegram of four bytes: the slot, SLOT_BITS and the reported slots of its
pattern, and the 16-bit nonce; and a challenge of thirty: type, CAR_ID, slot, the number of its ranging rounds, 0 to 8, the challenge and the
device nonce; nonces and challenge are the bytes it takes from the stroke's entropy block. -/
def Obligations.ExchangePayloads : Prop :=
  ∀ (s s' : State) (x : Exchange) (slot : Nat) (w : Wake) (effs : List Effect), s.startWith x slot w = some (s', effs) →
    ∃ b na e l, s.takeEntropy 26 = some (b, s') ∧ b.length = 26 ∧ na ≤ 8 ∧
      Effect.lfSchedule ⟨1, x.pattern, s.sys.stroke + 1, 200, beBytes 1 slot ++
        beBytes 1 (byteAt (s.raw (0x201001 + x.pattern)) 2 * 32 + min (byteAt (s.raw (0x201001 + x.pattern)) 3) 13) ++ slice b 0 2, []⟩ ∈ effs ∧
      Effect.radioList l ∈ effs ∧ l.entries.head? = some e ∧ e.radio = 0 ∧ e.action = 0 ∧
      e.buffer = [2] ++ s.carId ++ beBytes 1 slot ++ beBytes 1 na ++ slice b 2 16 ++ slice b 18 8 ∧
      (s.carId.length = 3 → e.buffer.length = 30)

/-- R268: outside a commissioning run the anchors of a pattern are those its zone maps name, ascending, none twice, up to 2, 5 or 8 by the stroke
length, the lowest ones where there are more; and of an exchange's anchors the k-th ranges in round k, on this device or on an ACTIVE slave. How
an entry is spelled on the Pole link, and the fields of it that no rule fixes, are the model's (log entries 13 and 95). -/
def Obligations.AnchorsOfExchange : Prop :=
  ∀ (s : State) (p : Nat),
    (s.commissioning p = false →
      let named (a : Nat) : Prop := a < 255 ∧ ∃ z ∈ s.zoneMaps p, ∃ k, k < 8 ∧ (zoneAnchor z k).1 = a
      (s.exchangeAnchors p).Pairwise (· < ·) ∧ (∀ a ∈ s.exchangeAnchors p, named a) ∧
      (s.exchangeAnchors p).length ≤ (if s.sys.len = 0 then 2 else if s.sys.len = 1 then 5 else 8) ∧
      (∀ a, named a → a ∉ s.exchangeAnchors p → (s.exchangeAnchors p).length = s.anchorLimit ∧ ∀ b ∈ s.exchangeAnchors p, b < a)) ∧
    (∀ (x : Exchange) (k a : Nat), x.anchors[k]? = some a →
      (a / 32 = s.sys.cascId → ∃ l, Effect.radioList l ∈ s.planEffects x ∧ s.roundEntry (s.responseStroke x.a x.pattern) k ∈ l.entries) ∧
      (a / 32 ≠ s.sys.cascId → a / 32 < 8 → s.slaveUp (a / 32) = true → ∃ before after,
        Effect.poleSend ⟨5, a / 32, false, x.a + 1, before ++ entryBytes (s.roundEntry (s.responseStroke x.a x.pattern) k) ++ after⟩ ∈ s.planEffects x))
end

