-- ==== Sys2Proof/Laws/State.lean ====
section
/-!
SUPPORT. Laws/State.lean: what each plain update of the state leaves alone, one lemma per field, and what it writes.
-/

namespace Sys2Proof.Machine

/-! ## setRaw -/

@[simp] theorem State.setRaw_pending (s : State) (key : Nat) (v : Bytes) : (s.setRaw key v).pending = s.pending := rfl
@[simp] theorem State.setRaw_sys (s : State) (key : Nat) (v : Bytes) : (s.setRaw key v).sys = s.sys := rfl
@[simp] theorem State.setRaw_guy (s : State) (key : Nat) (v : Bytes) : (s.setRaw key v).guy = s.guy := rfl
@[simp] theorem State.setRaw_gq (s : State) (key : Nat) (v : Bytes) : (s.setRaw key v).gq = s.gq := rfl
@[simp] theorem State.setRaw_gathered (s : State) (key : Nat) (v : Bytes) : (s.setRaw key v).gathered = s.gathered := rfl
@[simp] theorem State.setRaw_seqs (s : State) (key : Nat) (v : Bytes) : (s.setRaw key v).seqs = s.seqs := rfl
@[simp] theorem State.setRaw_rerun (s : State) (key : Nat) (v : Bytes) : (s.setRaw key v).rerun = s.rerun := rfl
@[simp] theorem State.setRaw_cancelled (s : State) (key : Nat) (v : Bytes) : (s.setRaw key v).cancelled = s.cancelled := rfl
@[simp] theorem State.setRaw_staged (s : State) (key : Nat) (v : Bytes) : (s.setRaw key v).staged = s.staged := rfl
@[simp] theorem State.setRaw_deferred (s : State) (key : Nat) (v : Bytes) : (s.setRaw key v).deferred = s.deferred := rfl
@[simp] theorem State.setRaw_inflight (s : State) (key : Nat) (v : Bytes) : (s.setRaw key v).inflight = s.inflight := rfl
@[simp] theorem State.setRaw_newest (s : State) (key : Nat) (v : Bytes) : (s.setRaw key v).newest = s.newest := rfl
@[simp] theorem State.setRaw_reasm (s : State) (key : Nat) (v : Bytes) : (s.setRaw key v).reasm = s.reasm := rfl
@[simp] theorem State.setRaw_evGlobal (s : State) (key : Nat) (v : Bytes) : (s.setRaw key v).evGlobal = s.evGlobal := rfl
@[simp] theorem State.setRaw_evCan (s : State) (key : Nat) (v : Bytes) : (s.setRaw key v).evCan = s.evCan := rfl
@[simp] theorem State.setRaw_evRidge (s : State) (key : Nat) (v : Bytes) : (s.setRaw key v).evRidge = s.evRidge := rfl
@[simp] theorem State.setRaw_faultActive (s : State) (key : Nat) (v : Bytes) : (s.setRaw key v).faultActive = s.faultActive := rfl
@[simp] theorem State.setRaw_host (s : State) (key : Nat) (v : Bytes) : (s.setRaw key v).host = s.host := rfl
@[simp] theorem State.setRaw_mem (s : State) (key : Nat) (v : Bytes) : (s.setRaw key v).mem = s.mem := rfl
@[simp] theorem State.setRaw_ink (s : State) (key : Nat) (v : Bytes) : (s.setRaw key v).ink = s.ink := rfl
@[simp] theorem State.setRaw_folio (s : State) (key : Nat) (v : Bytes) : (s.setRaw key v).folio = s.folio := rfl
@[simp] theorem State.setRaw_img (s : State) (key : Nat) (v : Bytes) : (s.setRaw key v).img = s.img := rfl
@[simp] theorem State.setRaw_quill (s : State) (key : Nat) (v : Bytes) : (s.setRaw key v).quill = s.quill := rfl
@[simp] theorem State.setRaw_lf (s : State) (key : Nat) (v : Bytes) : (s.setRaw key v).lf = s.lf := rfl
@[simp] theorem State.setRaw_radio (s : State) (key : Nat) (v : Bytes) : (s.setRaw key v).radio = s.radio := rfl
@[simp] theorem State.setRaw_tether (s : State) (key : Nat) (v : Bytes) : (s.setRaw key v).tether = s.tether := rfl
@[simp] theorem State.setRaw_people (s : State) (key : Nat) (v : Bytes) : (s.setRaw key v).people = s.people := rfl
@[simp] theorem State.setRaw_feed (s : State) (key : Nat) (v : Bytes) : (s.setRaw key v).feed = s.feed := rfl
@[simp] theorem State.setRaw_release (s : State) (key : Nat) (v : Bytes) : (s.setRaw key v).release = s.release := rfl
@[simp] theorem State.setRaw_ridge (s : State) (key : Nat) (v : Bytes) : (s.setRaw key v).ridge = s.ridge := rfl
@[simp] theorem State.setRaw_can0 (s : State) (key : Nat) (v : Bytes) : (s.setRaw key v).can0 = s.can0 := rfl
@[simp] theorem State.setRaw_can1 (s : State) (key : Nat) (v : Bytes) : (s.setRaw key v).can1 = s.can1 := rfl
@[simp] theorem State.setRaw_pole (s : State) (key : Nat) (v : Bytes) : (s.setRaw key v).pole = s.pole := rfl
@[simp] theorem State.setRaw_seen (s : State) (key : Nat) (v : Bytes) : (s.setRaw key v).seen = s.seen := rfl

/-! ## setNum -/

@[simp] theorem State.setNum_pending (s : State) (key v : Nat) : (s.setNum key v).pending = s.pending := rfl
@[simp] theorem State.setNum_sys (s : State) (key v : Nat) : (s.setNum key v).sys = s.sys := rfl
@[simp] theorem State.setNum_guy (s : State) (key v : Nat) : (s.setNum key v).guy = s.guy := rfl
@[simp] theorem State.setNum_gq (s : State) (key v : Nat) : (s.setNum key v).gq = s.gq := rfl
@[simp] theorem State.setNum_gathered (s : State) (key v : Nat) : (s.setNum key v).gathered = s.gathered := rfl
@[simp] theorem State.setNum_seqs (s : State) (key v : Nat) : (s.setNum key v).seqs = s.seqs := rfl
@[simp] theorem State.setNum_rerun (s : State) (key v : Nat) : (s.setNum key v).rerun = s.rerun := rfl
@[simp] theorem State.setNum_cancelled (s : State) (key v : Nat) : (s.setNum key v).cancelled = s.cancelled := rfl
@[simp] theorem State.setNum_staged (s : State) (key v : Nat) : (s.setNum key v).staged = s.staged := rfl
@[simp] theorem State.setNum_deferred (s : State) (key v : Nat) : (s.setNum key v).deferred = s.deferred := rfl
@[simp] theorem State.setNum_inflight (s : State) (key v : Nat) : (s.setNum key v).inflight = s.inflight := rfl
@[simp] theorem State.setNum_newest (s : State) (key v : Nat) : (s.setNum key v).newest = s.newest := rfl
@[simp] theorem State.setNum_reasm (s : State) (key v : Nat) : (s.setNum key v).reasm = s.reasm := rfl
@[simp] theorem State.setNum_evGlobal (s : State) (key v : Nat) : (s.setNum key v).evGlobal = s.evGlobal := rfl
@[simp] theorem State.setNum_evCan (s : State) (key v : Nat) : (s.setNum key v).evCan = s.evCan := rfl
@[simp] theorem State.setNum_evRidge (s : State) (key v : Nat) : (s.setNum key v).evRidge = s.evRidge := rfl
@[simp] theorem State.setNum_faultActive (s : State) (key v : Nat) : (s.setNum key v).faultActive = s.faultActive := rfl
@[simp] theorem State.setNum_host (s : State) (key v : Nat) : (s.setNum key v).host = s.host := rfl
@[simp] theorem State.setNum_mem (s : State) (key v : Nat) : (s.setNum key v).mem = s.mem := rfl
@[simp] theorem State.setNum_ink (s : State) (key v : Nat) : (s.setNum key v).ink = s.ink := rfl
@[simp] theorem State.setNum_folio (s : State) (key v : Nat) : (s.setNum key v).folio = s.folio := rfl
@[simp] theorem State.setNum_img (s : State) (key v : Nat) : (s.setNum key v).img = s.img := rfl
@[simp] theorem State.setNum_quill (s : State) (key v : Nat) : (s.setNum key v).quill = s.quill := rfl
@[simp] theorem State.setNum_lf (s : State) (key v : Nat) : (s.setNum key v).lf = s.lf := rfl
@[simp] theorem State.setNum_radio (s : State) (key v : Nat) : (s.setNum key v).radio = s.radio := rfl
@[simp] theorem State.setNum_tether (s : State) (key v : Nat) : (s.setNum key v).tether = s.tether := rfl
@[simp] theorem State.setNum_people (s : State) (key v : Nat) : (s.setNum key v).people = s.people := rfl
@[simp] theorem State.setNum_feed (s : State) (key v : Nat) : (s.setNum key v).feed = s.feed := rfl
@[simp] theorem State.setNum_release (s : State) (key v : Nat) : (s.setNum key v).release = s.release := rfl
@[simp] theorem State.setNum_ridge (s : State) (key v : Nat) : (s.setNum key v).ridge = s.ridge := rfl
@[simp] theorem State.setNum_can0 (s : State) (key v : Nat) : (s.setNum key v).can0 = s.can0 := rfl
@[simp] theorem State.setNum_can1 (s : State) (key v : Nat) : (s.setNum key v).can1 = s.can1 := rfl
@[simp] theorem State.setNum_pole (s : State) (key v : Nat) : (s.setNum key v).pole = s.pole := rfl
@[simp] theorem State.setNum_seen (s : State) (key v : Nat) : (s.setNum key v).seen = s.seen := rfl

/-! ## stage -/

@[simp] theorem State.stage_pending (s : State) (u : Staged) : (s.stage u).pending = s.pending := rfl
@[simp] theorem State.stage_sys (s : State) (u : Staged) : (s.stage u).sys = s.sys := rfl
@[simp] theorem State.stage_guy (s : State) (u : Staged) : (s.stage u).guy = s.guy := rfl
@[simp] theorem State.stage_objs (s : State) (u : Staged) : (s.stage u).objs = s.objs := rfl
@[simp] theorem State.stage_gq (s : State) (u : Staged) : (s.stage u).gq = s.gq := rfl
@[simp] theorem State.stage_gathered (s : State) (u : Staged) : (s.stage u).gathered = s.gathered := rfl
@[simp] theorem State.stage_seqs (s : State) (u : Staged) : (s.stage u).seqs = s.seqs := rfl
@[simp] theorem State.stage_rerun (s : State) (u : Staged) : (s.stage u).rerun = s.rerun := rfl
@[simp] theorem State.stage_cancelled (s : State) (u : Staged) : (s.stage u).cancelled = s.cancelled := rfl
@[simp] theorem State.stage_deferred (s : State) (u : Staged) : (s.stage u).deferred = s.deferred := rfl
@[simp] theorem State.stage_inflight (s : State) (u : Staged) : (s.stage u).inflight = s.inflight := rfl
@[simp] theorem State.stage_newest (s : State) (u : Staged) : (s.stage u).newest = s.newest := rfl
@[simp] theorem State.stage_reasm (s : State) (u : Staged) : (s.stage u).reasm = s.reasm := rfl
@[simp] theorem State.stage_evGlobal (s : State) (u : Staged) : (s.stage u).evGlobal = s.evGlobal := rfl
@[simp] theorem State.stage_evCan (s : State) (u : Staged) : (s.stage u).evCan = s.evCan := rfl
@[simp] theorem State.stage_evRidge (s : State) (u : Staged) : (s.stage u).evRidge = s.evRidge := rfl
@[simp] theorem State.stage_faultActive (s : State) (u : Staged) : (s.stage u).faultActive = s.faultActive := rfl
@[simp] theorem State.stage_host (s : State) (u : Staged) : (s.stage u).host = s.host := rfl
@[simp] theorem State.stage_mem (s : State) (u : Staged) : (s.stage u).mem = s.mem := rfl
@[simp] theorem State.stage_ink (s : State) (u : Staged) : (s.stage u).ink = s.ink := rfl
@[simp] theorem State.stage_folio (s : State) (u : Staged) : (s.stage u).folio = s.folio := rfl
@[simp] theorem State.stage_img (s : State) (u : Staged) : (s.stage u).img = s.img := rfl
@[simp] theorem State.stage_quill (s : State) (u : Staged) : (s.stage u).quill = s.quill := rfl
@[simp] theorem State.stage_lf (s : State) (u : Staged) : (s.stage u).lf = s.lf := rfl
@[simp] theorem State.stage_radio (s : State) (u : Staged) : (s.stage u).radio = s.radio := rfl
@[simp] theorem State.stage_tether (s : State) (u : Staged) : (s.stage u).tether = s.tether := rfl
@[simp] theorem State.stage_people (s : State) (u : Staged) : (s.stage u).people = s.people := rfl
@[simp] theorem State.stage_feed (s : State) (u : Staged) : (s.stage u).feed = s.feed := rfl
@[simp] theorem State.stage_release (s : State) (u : Staged) : (s.stage u).release = s.release := rfl
@[simp] theorem State.stage_ridge (s : State) (u : Staged) : (s.stage u).ridge = s.ridge := rfl
@[simp] theorem State.stage_can0 (s : State) (u : Staged) : (s.stage u).can0 = s.can0 := rfl
@[simp] theorem State.stage_can1 (s : State) (u : Staged) : (s.stage u).can1 = s.can1 := rfl
@[simp] theorem State.stage_pole (s : State) (u : Staged) : (s.stage u).pole = s.pole := rfl
@[simp] theorem State.stage_seen (s : State) (u : Staged) : (s.stage u).seen = s.seen := rfl

/-! ## consume -/

@[simp] theorem State.consume_pending (s : State) (i : Item) : (s.consume i).pending = s.pending := rfl
@[simp] theorem State.consume_sys (s : State) (i : Item) : (s.consume i).sys = s.sys := rfl
@[simp] theorem State.consume_guy (s : State) (i : Item) : (s.consume i).guy = s.guy := rfl
@[simp] theorem State.consume_objs (s : State) (i : Item) : (s.consume i).objs = s.objs := rfl
@[simp] theorem State.consume_gq (s : State) (i : Item) : (s.consume i).gq = s.gq := rfl
@[simp] theorem State.consume_seqs (s : State) (i : Item) : (s.consume i).seqs = s.seqs := rfl
@[simp] theorem State.consume_rerun (s : State) (i : Item) : (s.consume i).rerun = s.rerun := rfl
@[simp] theorem State.consume_cancelled (s : State) (i : Item) : (s.consume i).cancelled = s.cancelled := rfl
@[simp] theorem State.consume_staged (s : State) (i : Item) : (s.consume i).staged = s.staged := rfl
@[simp] theorem State.consume_deferred (s : State) (i : Item) : (s.consume i).deferred = s.deferred := rfl
@[simp] theorem State.consume_inflight (s : State) (i : Item) : (s.consume i).inflight = s.inflight := rfl
@[simp] theorem State.consume_newest (s : State) (i : Item) : (s.consume i).newest = s.newest := rfl
@[simp] theorem State.consume_reasm (s : State) (i : Item) : (s.consume i).reasm = s.reasm := rfl
@[simp] theorem State.consume_evGlobal (s : State) (i : Item) : (s.consume i).evGlobal = s.evGlobal := rfl
@[simp] theorem State.consume_evCan (s : State) (i : Item) : (s.consume i).evCan = s.evCan := rfl
@[simp] theorem State.consume_evRidge (s : State) (i : Item) : (s.consume i).evRidge = s.evRidge := rfl
@[simp] theorem State.consume_faultActive (s : State) (i : Item) : (s.consume i).faultActive = s.faultActive := rfl
@[simp] theorem State.consume_host (s : State) (i : Item) : (s.consume i).host = s.host := rfl
@[simp] theorem State.consume_mem (s : State) (i : Item) : (s.consume i).mem = s.mem := rfl
@[simp] theorem State.consume_ink (s : State) (i : Item) : (s.consume i).ink = s.ink := rfl
@[simp] theorem State.consume_folio (s : State) (i : Item) : (s.consume i).folio = s.folio := rfl
@[simp] theorem State.consume_img (s : State) (i : Item) : (s.consume i).img = s.img := rfl
@[simp] theorem State.consume_quill (s : State) (i : Item) : (s.consume i).quill = s.quill := rfl
@[simp] theorem State.consume_lf (s : State) (i : Item) : (s.consume i).lf = s.lf := rfl
@[simp] theorem State.consume_radio (s : State) (i : Item) : (s.consume i).radio = s.radio := rfl
@[simp] theorem State.consume_tether (s : State) (i : Item) : (s.consume i).tether = s.tether := rfl
@[simp] theorem State.consume_people (s : State) (i : Item) : (s.consume i).people = s.people := rfl
@[simp] theorem State.consume_feed (s : State) (i : Item) : (s.consume i).feed = s.feed := rfl
@[simp] theorem State.consume_release (s : State) (i : Item) : (s.consume i).release = s.release := rfl
@[simp] theorem State.consume_ridge (s : State) (i : Item) : (s.consume i).ridge = s.ridge := rfl
@[simp] theorem State.consume_can0 (s : State) (i : Item) : (s.consume i).can0 = s.can0 := rfl
@[simp] theorem State.consume_can1 (s : State) (i : Item) : (s.consume i).can1 = s.can1 := rfl
@[simp] theorem State.consume_pole (s : State) (i : Item) : (s.consume i).pole = s.pole := rfl
@[simp] theorem State.consume_seen (s : State) (i : Item) : (s.consume i).seen = s.seen := rfl

/-! ## setPage -/

@[simp] theorem State.setPage_pending (s : State) (p : Nat) (r : PageRegs) : (s.setPage p r).pending = s.pending := rfl
@[simp] theorem State.setPage_sys (s : State) (p : Nat) (r : PageRegs) : (s.setPage p r).sys = s.sys := rfl
@[simp] theorem State.setPage_guy (s : State) (p : Nat) (r : PageRegs) : (s.setPage p r).guy = s.guy := rfl
@[simp] theorem State.setPage_objs (s : State) (p : Nat) (r : PageRegs) : (s.setPage p r).objs = s.objs := rfl
@[simp] theorem State.setPage_gq (s : State) (p : Nat) (r : PageRegs) : (s.setPage p r).gq = s.gq := rfl
@[simp] theorem State.setPage_gathered (s : State) (p : Nat) (r : PageRegs) : (s.setPage p r).gathered = s.gathered := rfl
@[simp] theorem State.setPage_seqs (s : State) (p : Nat) (r : PageRegs) : (s.setPage p r).seqs = s.seqs := rfl
@[simp] theorem State.setPage_rerun (s : State) (p : Nat) (r : PageRegs) : (s.setPage p r).rerun = s.rerun := rfl
@[simp] theorem State.setPage_cancelled (s : State) (p : Nat) (r : PageRegs) : (s.setPage p r).cancelled = s.cancelled := rfl
@[simp] theorem State.setPage_staged (s : State) (p : Nat) (r : PageRegs) : (s.setPage p r).staged = s.staged := rfl
@[simp] theorem State.setPage_deferred (s : State) (p : Nat) (r : PageRegs) : (s.setPage p r).deferred = s.deferred := rfl
@[simp] theorem State.setPage_inflight (s : State) (p : Nat) (r : PageRegs) : (s.setPage p r).inflight = s.inflight := rfl
@[simp] theorem State.setPage_newest (s : State) (p : Nat) (r : PageRegs) : (s.setPage p r).newest = s.newest := rfl
@[simp] theorem State.setPage_reasm (s : State) (p : Nat) (r : PageRegs) : (s.setPage p r).reasm = s.reasm := rfl
@[simp] theorem State.setPage_evGlobal (s : State) (p : Nat) (r : PageRegs) : (s.setPage p r).evGlobal = s.evGlobal := rfl
@[simp] theorem State.setPage_evCan (s : State) (p : Nat) (r : PageRegs) : (s.setPage p r).evCan = s.evCan := rfl
@[simp] theorem State.setPage_evRidge (s : State) (p : Nat) (r : PageRegs) : (s.setPage p r).evRidge = s.evRidge := rfl
@[simp] theorem State.setPage_faultActive (s : State) (p : Nat) (r : PageRegs) : (s.setPage p r).faultActive = s.faultActive := rfl
@[simp] theorem State.setPage_mem (s : State) (p : Nat) (r : PageRegs) : (s.setPage p r).mem = s.mem := rfl
@[simp] theorem State.setPage_ink (s : State) (p : Nat) (r : PageRegs) : (s.setPage p r).ink = s.ink := rfl
@[simp] theorem State.setPage_folio (s : State) (p : Nat) (r : PageRegs) : (s.setPage p r).folio = s.folio := rfl
@[simp] theorem State.setPage_img (s : State) (p : Nat) (r : PageRegs) : (s.setPage p r).img = s.img := rfl
@[simp] theorem State.setPage_quill (s : State) (p : Nat) (r : PageRegs) : (s.setPage p r).quill = s.quill := rfl
@[simp] theorem State.setPage_lf (s : State) (p : Nat) (r : PageRegs) : (s.setPage p r).lf = s.lf := rfl
@[simp] theorem State.setPage_radio (s : State) (p : Nat) (r : PageRegs) : (s.setPage p r).radio = s.radio := rfl
@[simp] theorem State.setPage_tether (s : State) (p : Nat) (r : PageRegs) : (s.setPage p r).tether = s.tether := rfl
@[simp] theorem State.setPage_people (s : State) (p : Nat) (r : PageRegs) : (s.setPage p r).people = s.people := rfl
@[simp] theorem State.setPage_feed (s : State) (p : Nat) (r : PageRegs) : (s.setPage p r).feed = s.feed := rfl
@[simp] theorem State.setPage_release (s : State) (p : Nat) (r : PageRegs) : (s.setPage p r).release = s.release := rfl
@[simp] theorem State.setPage_ridge (s : State) (p : Nat) (r : PageRegs) : (s.setPage p r).ridge = s.ridge := rfl
@[simp] theorem State.setPage_can0 (s : State) (p : Nat) (r : PageRegs) : (s.setPage p r).can0 = s.can0 := rfl
@[simp] theorem State.setPage_can1 (s : State) (p : Nat) (r : PageRegs) : (s.setPage p r).can1 = s.can1 := rfl
@[simp] theorem State.setPage_pole (s : State) (p : Nat) (r : PageRegs) : (s.setPage p r).pole = s.pole := rfl
@[simp] theorem State.setPage_seen (s : State) (p : Nat) (r : PageRegs) : (s.setPage p r).seen = s.seen := rfl

/-! ## setRing -/

@[simp] theorem State.setRing_pending (s : State) (r : Ring) : (s.setRing r).pending = s.pending := rfl
@[simp] theorem State.setRing_sys (s : State) (r : Ring) : (s.setRing r).sys = s.sys := rfl
@[simp] theorem State.setRing_guy (s : State) (r : Ring) : (s.setRing r).guy = s.guy := rfl
@[simp] theorem State.setRing_objs (s : State) (r : Ring) : (s.setRing r).objs = s.objs := rfl
@[simp] theorem State.setRing_gq (s : State) (r : Ring) : (s.setRing r).gq = s.gq := rfl
@[simp] theorem State.setRing_gathered (s : State) (r : Ring) : (s.setRing r).gathered = s.gathered := rfl
@[simp] theorem State.setRing_seqs (s : State) (r : Ring) : (s.setRing r).seqs = s.seqs := rfl
@[simp] theorem State.setRing_rerun (s : State) (r : Ring) : (s.setRing r).rerun = s.rerun := rfl
@[simp] theorem State.setRing_cancelled (s : State) (r : Ring) : (s.setRing r).cancelled = s.cancelled := rfl
@[simp] theorem State.setRing_staged (s : State) (r : Ring) : (s.setRing r).staged = s.staged := rfl
@[simp] theorem State.setRing_deferred (s : State) (r : Ring) : (s.setRing r).deferred = s.deferred := rfl
@[simp] theorem State.setRing_inflight (s : State) (r : Ring) : (s.setRing r).inflight = s.inflight := rfl
@[simp] theorem State.setRing_newest (s : State) (r : Ring) : (s.setRing r).newest = s.newest := rfl
@[simp] theorem State.setRing_reasm (s : State) (r : Ring) : (s.setRing r).reasm = s.reasm := rfl
@[simp] theorem State.setRing_evGlobal (s : State) (r : Ring) : (s.setRing r).evGlobal = s.evGlobal := rfl
@[simp] theorem State.setRing_evCan (s : State) (r : Ring) : (s.setRing r).evCan = s.evCan := rfl
@[simp] theorem State.setRing_evRidge (s : State) (r : Ring) : (s.setRing r).evRidge = s.evRidge := rfl
@[simp] theorem State.setRing_faultActive (s : State) (r : Ring) : (s.setRing r).faultActive = s.faultActive := rfl
@[simp] theorem State.setRing_mem (s : State) (r : Ring) : (s.setRing r).mem = s.mem := rfl
@[simp] theorem State.setRing_ink (s : State) (r : Ring) : (s.setRing r).ink = s.ink := rfl
@[simp] theorem State.setRing_folio (s : State) (r : Ring) : (s.setRing r).folio = s.folio := rfl
@[simp] theorem State.setRing_img (s : State) (r : Ring) : (s.setRing r).img = s.img := rfl
@[simp] theorem State.setRing_quill (s : State) (r : Ring) : (s.setRing r).quill = s.quill := rfl
@[simp] theorem State.setRing_lf (s : State) (r : Ring) : (s.setRing r).lf = s.lf := rfl
@[simp] theorem State.setRing_radio (s : State) (r : Ring) : (s.setRing r).radio = s.radio := rfl
@[simp] theorem State.setRing_tether (s : State) (r : Ring) : (s.setRing r).tether = s.tether := rfl
@[simp] theorem State.setRing_people (s : State) (r : Ring) : (s.setRing r).people = s.people := rfl
@[simp] theorem State.setRing_feed (s : State) (r : Ring) : (s.setRing r).feed = s.feed := rfl
@[simp] theorem State.setRing_release (s : State) (r : Ring) : (s.setRing r).release = s.release := rfl
@[simp] theorem State.setRing_ridge (s : State) (r : Ring) : (s.setRing r).ridge = s.ridge := rfl
@[simp] theorem State.setRing_can0 (s : State) (r : Ring) : (s.setRing r).can0 = s.can0 := rfl
@[simp] theorem State.setRing_can1 (s : State) (r : Ring) : (s.setRing r).can1 = s.can1 := rfl
@[simp] theorem State.setRing_pole (s : State) (r : Ring) : (s.setRing r).pole = s.pole := rfl
@[simp] theorem State.setRing_seen (s : State) (r : Ring) : (s.setRing r).seen = s.seen := rfl

/-! ## setKeySlot -/

@[simp] theorem State.setKeySlot_pending (s : State) (n : Nat) (k : KeySlot) : (s.setKeySlot n k).pending = s.pending := rfl
@[simp] theorem State.setKeySlot_sys (s : State) (n : Nat) (k : KeySlot) : (s.setKeySlot n k).sys = s.sys := rfl
@[simp] theorem State.setKeySlot_guy (s : State) (n : Nat) (k : KeySlot) : (s.setKeySlot n k).guy = s.guy := rfl
@[simp] theorem State.setKeySlot_objs (s : State) (n : Nat) (k : KeySlot) : (s.setKeySlot n k).objs = s.objs := rfl
@[simp] theorem State.setKeySlot_gq (s : State) (n : Nat) (k : KeySlot) : (s.setKeySlot n k).gq = s.gq := rfl
@[simp] theorem State.setKeySlot_gathered (s : State) (n : Nat) (k : KeySlot) : (s.setKeySlot n k).gathered = s.gathered := rfl
@[simp] theorem State.setKeySlot_seqs (s : State) (n : Nat) (k : KeySlot) : (s.setKeySlot n k).seqs = s.seqs := rfl
@[simp] theorem State.setKeySlot_rerun (s : State) (n : Nat) (k : KeySlot) : (s.setKeySlot n k).rerun = s.rerun := rfl
@[simp] theorem State.setKeySlot_cancelled (s : State) (n : Nat) (k : KeySlot) : (s.setKeySlot n k).cancelled = s.cancelled := rfl
@[simp] theorem State.setKeySlot_staged (s : State) (n : Nat) (k : KeySlot) : (s.setKeySlot n k).staged = s.staged := rfl
@[simp] theorem State.setKeySlot_deferred (s : State) (n : Nat) (k : KeySlot) : (s.setKeySlot n k).deferred = s.deferred := rfl
@[simp] theorem State.setKeySlot_inflight (s : State) (n : Nat) (k : KeySlot) : (s.setKeySlot n k).inflight = s.inflight := rfl
@[simp] theorem State.setKeySlot_newest (s : State) (n : Nat) (k : KeySlot) : (s.setKeySlot n k).newest = s.newest := rfl
@[simp] theorem State.setKeySlot_reasm (s : State) (n : Nat) (k : KeySlot) : (s.setKeySlot n k).reasm = s.reasm := rfl
@[simp] theorem State.setKeySlot_evGlobal (s : State) (n : Nat) (k : KeySlot) : (s.setKeySlot n k).evGlobal = s.evGlobal := rfl
@[simp] theorem State.setKeySlot_evCan (s : State) (n : Nat) (k : KeySlot) : (s.setKeySlot n k).evCan = s.evCan := rfl
@[simp] theorem State.setKeySlot_evRidge (s : State) (n : Nat) (k : KeySlot) : (s.setKeySlot n k).evRidge = s.evRidge := rfl
@[simp] theorem State.setKeySlot_faultActive (s : State) (n : Nat) (k : KeySlot) : (s.setKeySlot n k).faultActive = s.faultActive := rfl
@[simp] theorem State.setKeySlot_host (s : State) (n : Nat) (k : KeySlot) : (s.setKeySlot n k).host = s.host := rfl
@[simp] theorem State.setKeySlot_mem (s : State) (n : Nat) (k : KeySlot) : (s.setKeySlot n k).mem = s.mem := rfl
@[simp] theorem State.setKeySlot_ink (s : State) (n : Nat) (k : KeySlot) : (s.setKeySlot n k).ink = s.ink := rfl
@[simp] theorem State.setKeySlot_folio (s : State) (n : Nat) (k : KeySlot) : (s.setKeySlot n k).folio = s.folio := rfl
@[simp] theorem State.setKeySlot_img (s : State) (n : Nat) (k : KeySlot) : (s.setKeySlot n k).img = s.img := rfl
@[simp] theorem State.setKeySlot_lf (s : State) (n : Nat) (k : KeySlot) : (s.setKeySlot n k).lf = s.lf := rfl
@[simp] theorem State.setKeySlot_radio (s : State) (n : Nat) (k : KeySlot) : (s.setKeySlot n k).radio = s.radio := rfl
@[simp] theorem State.setKeySlot_tether (s : State) (n : Nat) (k : KeySlot) : (s.setKeySlot n k).tether = s.tether := rfl
@[simp] theorem State.setKeySlot_people (s : State) (n : Nat) (k : KeySlot) : (s.setKeySlot n k).people = s.people := rfl
@[simp] theorem State.setKeySlot_feed (s : State) (n : Nat) (k : KeySlot) : (s.setKeySlot n k).feed = s.feed := rfl
@[simp] theorem State.setKeySlot_release (s : State) (n : Nat) (k : KeySlot) : (s.setKeySlot n k).release = s.release := rfl
@[simp] theorem State.setKeySlot_ridge (s : State) (n : Nat) (k : KeySlot) : (s.setKeySlot n k).ridge = s.ridge := rfl
@[simp] theorem State.setKeySlot_can0 (s : State) (n : Nat) (k : KeySlot) : (s.setKeySlot n k).can0 = s.can0 := rfl
@[simp] theorem State.setKeySlot_can1 (s : State) (n : Nat) (k : KeySlot) : (s.setKeySlot n k).can1 = s.can1 := rfl
@[simp] theorem State.setKeySlot_pole (s : State) (n : Nat) (k : KeySlot) : (s.setKeySlot n k).pole = s.pole := rfl
@[simp] theorem State.setKeySlot_seen (s : State) (n : Nat) (k : KeySlot) : (s.setKeySlot n k).seen = s.seen := rfl

/-! ## setStream -/

@[simp] theorem State.setStream_pending (s : State) (n : Nat) (x : Stream) : (s.setStream n x).pending = s.pending := rfl
@[simp] theorem State.setStream_sys (s : State) (n : Nat) (x : Stream) : (s.setStream n x).sys = s.sys := rfl
@[simp] theorem State.setStream_guy (s : State) (n : Nat) (x : Stream) : (s.setStream n x).guy = s.guy := rfl
@[simp] theorem State.setStream_objs (s : State) (n : Nat) (x : Stream) : (s.setStream n x).objs = s.objs := rfl
@[simp] theorem State.setStream_gq (s : State) (n : Nat) (x : Stream) : (s.setStream n x).gq = s.gq := rfl
@[simp] theorem State.setStream_gathered (s : State) (n : Nat) (x : Stream) : (s.setStream n x).gathered = s.gathered := rfl
@[simp] theorem State.setStream_seqs (s : State) (n : Nat) (x : Stream) : (s.setStream n x).seqs = s.seqs := rfl
@[simp] theorem State.setStream_rerun (s : State) (n : Nat) (x : Stream) : (s.setStream n x).rerun = s.rerun := rfl
@[simp] theorem State.setStream_cancelled (s : State) (n : Nat) (x : Stream) : (s.setStream n x).cancelled = s.cancelled := rfl
@[simp] theorem State.setStream_staged (s : State) (n : Nat) (x : Stream) : (s.setStream n x).staged = s.staged := rfl
@[simp] theorem State.setStream_deferred (s : State) (n : Nat) (x : Stream) : (s.setStream n x).deferred = s.deferred := rfl
@[simp] theorem State.setStream_inflight (s : State) (n : Nat) (x : Stream) : (s.setStream n x).inflight = s.inflight := rfl
@[simp] theorem State.setStream_newest (s : State) (n : Nat) (x : Stream) : (s.setStream n x).newest = s.newest := rfl
@[simp] theorem State.setStream_reasm (s : State) (n : Nat) (x : Stream) : (s.setStream n x).reasm = s.reasm := rfl
@[simp] theorem State.setStream_evGlobal (s : State) (n : Nat) (x : Stream) : (s.setStream n x).evGlobal = s.evGlobal := rfl
@[simp] theorem State.setStream_evCan (s : State) (n : Nat) (x : Stream) : (s.setStream n x).evCan = s.evCan := rfl
@[simp] theorem State.setStream_evRidge (s : State) (n : Nat) (x : Stream) : (s.setStream n x).evRidge = s.evRidge := rfl
@[simp] theorem State.setStream_faultActive (s : State) (n : Nat) (x : Stream) : (s.setStream n x).faultActive = s.faultActive := rfl
@[simp] theorem State.setStream_host (s : State) (n : Nat) (x : Stream) : (s.setStream n x).host = s.host := rfl
@[simp] theorem State.setStream_mem (s : State) (n : Nat) (x : Stream) : (s.setStream n x).mem = s.mem := rfl
@[simp] theorem State.setStream_ink (s : State) (n : Nat) (x : Stream) : (s.setStream n x).ink = s.ink := rfl
@[simp] theorem State.setStream_img (s : State) (n : Nat) (x : Stream) : (s.setStream n x).img = s.img := rfl
@[simp] theorem State.setStream_quill (s : State) (n : Nat) (x : Stream) : (s.setStream n x).quill = s.quill := rfl
@[simp] theorem State.setStream_lf (s : State) (n : Nat) (x : Stream) : (s.setStream n x).lf = s.lf := rfl
@[simp] theorem State.setStream_radio (s : State) (n : Nat) (x : Stream) : (s.setStream n x).radio = s.radio := rfl
@[simp] theorem State.setStream_tether (s : State) (n : Nat) (x : Stream) : (s.setStream n x).tether = s.tether := rfl
@[simp] theorem State.setStream_people (s : State) (n : Nat) (x : Stream) : (s.setStream n x).people = s.people := rfl
@[simp] theorem State.setStream_feed (s : State) (n : Nat) (x : Stream) : (s.setStream n x).feed = s.feed := rfl
@[simp] theorem State.setStream_release (s : State) (n : Nat) (x : Stream) : (s.setStream n x).release = s.release := rfl
@[simp] theorem State.setStream_ridge (s : State) (n : Nat) (x : Stream) : (s.setStream n x).ridge = s.ridge := rfl
@[simp] theorem State.setStream_can0 (s : State) (n : Nat) (x : Stream) : (s.setStream n x).can0 = s.can0 := rfl
@[simp] theorem State.setStream_can1 (s : State) (n : Nat) (x : Stream) : (s.setStream n x).can1 = s.can1 := rfl
@[simp] theorem State.setStream_pole (s : State) (n : Nat) (x : Stream) : (s.setStream n x).pole = s.pole := rfl
@[simp] theorem State.setStream_seen (s : State) (n : Nat) (x : Stream) : (s.setStream n x).seen = s.seen := rfl

/-! ## later -/

@[simp] theorem State.later_pending (s : State) (r : NewRec) : (s.later r).pending = s.pending := rfl
@[simp] theorem State.later_sys (s : State) (r : NewRec) : (s.later r).sys = s.sys := rfl
@[simp] theorem State.later_guy (s : State) (r : NewRec) : (s.later r).guy = s.guy := rfl
@[simp] theorem State.later_objs (s : State) (r : NewRec) : (s.later r).objs = s.objs := rfl
@[simp] theorem State.later_gq (s : State) (r : NewRec) : (s.later r).gq = s.gq := rfl
@[simp] theorem State.later_gathered (s : State) (r : NewRec) : (s.later r).gathered = s.gathered := rfl
@[simp] theorem State.later_seqs (s : State) (r : NewRec) : (s.later r).seqs = s.seqs := rfl
@[simp] theorem State.later_rerun (s : State) (r : NewRec) : (s.later r).rerun = s.rerun := rfl
@[simp] theorem State.later_cancelled (s : State) (r : NewRec) : (s.later r).cancelled = s.cancelled := rfl
@[simp] theorem State.later_staged (s : State) (r : NewRec) : (s.later r).staged = s.staged := rfl
@[simp] theorem State.later_deferred (s : State) (r : NewRec) : (s.later r).deferred = s.deferred := rfl
@[simp] theorem State.later_inflight (s : State) (r : NewRec) : (s.later r).inflight = s.inflight := rfl
@[simp] theorem State.later_newest (s : State) (r : NewRec) : (s.later r).newest = s.newest := rfl
@[simp] theorem State.later_reasm (s : State) (r : NewRec) : (s.later r).reasm = s.reasm := rfl
@[simp] theorem State.later_evGlobal (s : State) (r : NewRec) : (s.later r).evGlobal = s.evGlobal := rfl
@[simp] theorem State.later_evCan (s : State) (r : NewRec) : (s.later r).evCan = s.evCan := rfl
@[simp] theorem State.later_evRidge (s : State) (r : NewRec) : (s.later r).evRidge = s.evRidge := rfl
@[simp] theorem State.later_faultActive (s : State) (r : NewRec) : (s.later r).faultActive = s.faultActive := rfl
@[simp] theorem State.later_host (s : State) (r : NewRec) : (s.later r).host = s.host := rfl
@[simp] theorem State.later_mem (s : State) (r : NewRec) : (s.later r).mem = s.mem := rfl
@[simp] theorem State.later_ink (s : State) (r : NewRec) : (s.later r).ink = s.ink := rfl
@[simp] theorem State.later_img (s : State) (r : NewRec) : (s.later r).img = s.img := rfl
@[simp] theorem State.later_quill (s : State) (r : NewRec) : (s.later r).quill = s.quill := rfl
@[simp] theorem State.later_lf (s : State) (r : NewRec) : (s.later r).lf = s.lf := rfl
@[simp] theorem State.later_radio (s : State) (r : NewRec) : (s.later r).radio = s.radio := rfl
@[simp] theorem State.later_tether (s : State) (r : NewRec) : (s.later r).tether = s.tether := rfl
@[simp] theorem State.later_people (s : State) (r : NewRec) : (s.later r).people = s.people := rfl
@[simp] theorem State.later_feed (s : State) (r : NewRec) : (s.later r).feed = s.feed := rfl
@[simp] theorem State.later_release (s : State) (r : NewRec) : (s.later r).release = s.release := rfl
@[simp] theorem State.later_ridge (s : State) (r : NewRec) : (s.later r).ridge = s.ridge := rfl
@[simp] theorem State.later_can0 (s : State) (r : NewRec) : (s.later r).can0 = s.can0 := rfl
@[simp] theorem State.later_can1 (s : State) (r : NewRec) : (s.later r).can1 = s.can1 := rfl
@[simp] theorem State.later_pole (s : State) (r : NewRec) : (s.later r).pole = s.pole := rfl
@[simp] theorem State.later_seen (s : State) (r : NewRec) : (s.later r).seen = s.seen := rfl

/-! ## setHs -/

@[simp] theorem State.setHs_pending (s : State) (c : Nat) (h : HsChan) : (s.setHs c h).pending = s.pending := rfl
@[simp] theorem State.setHs_sys (s : State) (c : Nat) (h : HsChan) : (s.setHs c h).sys = s.sys := rfl
@[simp] theorem State.setHs_guy (s : State) (c : Nat) (h : HsChan) : (s.setHs c h).guy = s.guy := rfl
@[simp] theorem State.setHs_objs (s : State) (c : Nat) (h : HsChan) : (s.setHs c h).objs = s.objs := rfl
@[simp] theorem State.setHs_gq (s : State) (c : Nat) (h : HsChan) : (s.setHs c h).gq = s.gq := rfl
@[simp] theorem State.setHs_gathered (s : State) (c : Nat) (h : HsChan) : (s.setHs c h).gathered = s.gathered := rfl
@[simp] theorem State.setHs_seqs (s : State) (c : Nat) (h : HsChan) : (s.setHs c h).seqs = s.seqs := rfl
@[simp] theorem State.setHs_rerun (s : State) (c : Nat) (h : HsChan) : (s.setHs c h).rerun = s.rerun := rfl
@[simp] theorem State.setHs_cancelled (s : State) (c : Nat) (h : HsChan) : (s.setHs c h).cancelled = s.cancelled := rfl
@[simp] theorem State.setHs_staged (s : State) (c : Nat) (h : HsChan) : (s.setHs c h).staged = s.staged := rfl
@[simp] theorem State.setHs_deferred (s : State) (c : Nat) (h : HsChan) : (s.setHs c h).deferred = s.deferred := rfl
@[simp] theorem State.setHs_inflight (s : State) (c : Nat) (h : HsChan) : (s.setHs c h).inflight = s.inflight := rfl
@[simp] theorem State.setHs_newest (s : State) (c : Nat) (h : HsChan) : (s.setHs c h).newest = s.newest := rfl
@[simp] theorem State.setHs_reasm (s : State) (c : Nat) (h : HsChan) : (s.setHs c h).reasm = s.reasm := rfl
@[simp] theorem State.setHs_evGlobal (s : State) (c : Nat) (h : HsChan) : (s.setHs c h).evGlobal = s.evGlobal := rfl
@[simp] theorem State.setHs_evCan (s : State) (c : Nat) (h : HsChan) : (s.setHs c h).evCan = s.evCan := rfl
@[simp] theorem State.setHs_evRidge (s : State) (c : Nat) (h : HsChan) : (s.setHs c h).evRidge = s.evRidge := rfl
@[simp] theorem State.setHs_faultActive (s : State) (c : Nat) (h : HsChan) : (s.setHs c h).faultActive = s.faultActive := rfl
@[simp] theorem State.setHs_host (s : State) (c : Nat) (h : HsChan) : (s.setHs c h).host = s.host := rfl
@[simp] theorem State.setHs_mem (s : State) (c : Nat) (h : HsChan) : (s.setHs c h).mem = s.mem := rfl
@[simp] theorem State.setHs_ink (s : State) (c : Nat) (h : HsChan) : (s.setHs c h).ink = s.ink := rfl
@[simp] theorem State.setHs_folio (s : State) (c : Nat) (h : HsChan) : (s.setHs c h).folio = s.folio := rfl
@[simp] theorem State.setHs_img (s : State) (c : Nat) (h : HsChan) : (s.setHs c h).img = s.img := rfl
@[simp] theorem State.setHs_quill (s : State) (c : Nat) (h : HsChan) : (s.setHs c h).quill = s.quill := rfl
@[simp] theorem State.setHs_radio (s : State) (c : Nat) (h : HsChan) : (s.setHs c h).radio = s.radio := rfl
@[simp] theorem State.setHs_tether (s : State) (c : Nat) (h : HsChan) : (s.setHs c h).tether = s.tether := rfl
@[simp] theorem State.setHs_people (s : State) (c : Nat) (h : HsChan) : (s.setHs c h).people = s.people := rfl
@[simp] theorem State.setHs_feed (s : State) (c : Nat) (h : HsChan) : (s.setHs c h).feed = s.feed := rfl
@[simp] theorem State.setHs_release (s : State) (c : Nat) (h : HsChan) : (s.setHs c h).release = s.release := rfl
@[simp] theorem State.setHs_ridge (s : State) (c : Nat) (h : HsChan) : (s.setHs c h).ridge = s.ridge := rfl
@[simp] theorem State.setHs_can0 (s : State) (c : Nat) (h : HsChan) : (s.setHs c h).can0 = s.can0 := rfl
@[simp] theorem State.setHs_can1 (s : State) (c : Nat) (h : HsChan) : (s.setHs c h).can1 = s.can1 := rfl
@[simp] theorem State.setHs_pole (s : State) (c : Nat) (h : HsChan) : (s.setHs c h).pole = s.pole := rfl
@[simp] theorem State.setHs_seen (s : State) (c : Nat) (h : HsChan) : (s.setHs c h).seen = s.seen := rfl

/-! ## setLfChan -/

@[simp] theorem State.setLfChan_pending (s : State) (c : Nat) (h : LfChan) : (s.setLfChan c h).pending = s.pending := rfl
@[simp] theorem State.setLfChan_sys (s : State) (c : Nat) (h : LfChan) : (s.setLfChan c h).sys = s.sys := rfl
@[simp] theorem State.setLfChan_guy (s : State) (c : Nat) (h : LfChan) : (s.setLfChan c h).guy = s.guy := rfl
@[simp] theorem State.setLfChan_objs (s : State) (c : Nat) (h : LfChan) : (s.setLfChan c h).objs = s.objs := rfl
@[simp] theorem State.setLfChan_gq (s : State) (c : Nat) (h : LfChan) : (s.setLfChan c h).gq = s.gq := rfl
@[simp] theorem State.setLfChan_gathered (s : State) (c : Nat) (h : LfChan) : (s.setLfChan c h).gathered = s.gathered := rfl
@[simp] theorem State.setLfChan_seqs (s : State) (c : Nat) (h : LfChan) : (s.setLfChan c h).seqs = s.seqs := rfl
@[simp] theorem State.setLfChan_rerun (s : State) (c : Nat) (h : LfChan) : (s.setLfChan c h).rerun = s.rerun := rfl
@[simp] theorem State.setLfChan_cancelled (s : State) (c : Nat) (h : LfChan) : (s.setLfChan c h).cancelled = s.cancelled := rfl
@[simp] theorem State.setLfChan_staged (s : State) (c : Nat) (h : LfChan) : (s.setLfChan c h).staged = s.staged := rfl
@[simp] theorem State.setLfChan_deferred (s : State) (c : Nat) (h : LfChan) : (s.setLfChan c h).deferred = s.deferred := rfl
@[simp] theorem State.setLfChan_inflight (s : State) (c : Nat) (h : LfChan) : (s.setLfChan c h).inflight = s.inflight := rfl
@[simp] theorem State.setLfChan_newest (s : State) (c : Nat) (h : LfChan) : (s.setLfChan c h).newest = s.newest := rfl
@[simp] theorem State.setLfChan_reasm (s : State) (c : Nat) (h : LfChan) : (s.setLfChan c h).reasm = s.reasm := rfl
@[simp] theorem State.setLfChan_evGlobal (s : State) (c : Nat) (h : LfChan) : (s.setLfChan c h).evGlobal = s.evGlobal := rfl
@[simp] theorem State.setLfChan_evCan (s : State) (c : Nat) (h : LfChan) : (s.setLfChan c h).evCan = s.evCan := rfl
@[simp] theorem State.setLfChan_evRidge (s : State) (c : Nat) (h : LfChan) : (s.setLfChan c h).evRidge = s.evRidge := rfl
@[simp] theorem State.setLfChan_faultActive (s : State) (c : Nat) (h : LfChan) : (s.setLfChan c h).faultActive = s.faultActive := rfl
@[simp] theorem State.setLfChan_host (s : State) (c : Nat) (h : LfChan) : (s.setLfChan c h).host = s.host := rfl
@[simp] theorem State.setLfChan_mem (s : State) (c : Nat) (h : LfChan) : (s.setLfChan c h).mem = s.mem := rfl
@[simp] theorem State.setLfChan_ink (s : State) (c : Nat) (h : LfChan) : (s.setLfChan c h).ink = s.ink := rfl
@[simp] theorem State.setLfChan_folio (s : State) (c : Nat) (h : LfChan) : (s.setLfChan c h).folio = s.folio := rfl
@[simp] theorem State.setLfChan_img (s : State) (c : Nat) (h : LfChan) : (s.setLfChan c h).img = s.img := rfl
@[simp] theorem State.setLfChan_quill (s : State) (c : Nat) (h : LfChan) : (s.setLfChan c h).quill = s.quill := rfl
@[simp] theorem State.setLfChan_radio (s : State) (c : Nat) (h : LfChan) : (s.setLfChan c h).radio = s.radio := rfl
@[simp] theorem State.setLfChan_tether (s : State) (c : Nat) (h : LfChan) : (s.setLfChan c h).tether = s.tether := rfl
@[simp] theorem State.setLfChan_people (s : State) (c : Nat) (h : LfChan) : (s.setLfChan c h).people = s.people := rfl
@[simp] theorem State.setLfChan_feed (s : State) (c : Nat) (h : LfChan) : (s.setLfChan c h).feed = s.feed := rfl
@[simp] theorem State.setLfChan_release (s : State) (c : Nat) (h : LfChan) : (s.setLfChan c h).release = s.release := rfl
@[simp] theorem State.setLfChan_ridge (s : State) (c : Nat) (h : LfChan) : (s.setLfChan c h).ridge = s.ridge := rfl
@[simp] theorem State.setLfChan_can0 (s : State) (c : Nat) (h : LfChan) : (s.setLfChan c h).can0 = s.can0 := rfl
@[simp] theorem State.setLfChan_can1 (s : State) (c : Nat) (h : LfChan) : (s.setLfChan c h).can1 = s.can1 := rfl
@[simp] theorem State.setLfChan_pole (s : State) (c : Nat) (h : LfChan) : (s.setLfChan c h).pole = s.pole := rfl
@[simp] theorem State.setLfChan_seen (s : State) (c : Nat) (h : LfChan) : (s.setLfChan c h).seen = s.seen := rfl

/-! ## setSelf -/

@[simp] theorem State.setSelf_pending (s : State) (f : PoleSelf → PoleSelf) : (s.setSelf f).pending = s.pending := rfl
@[simp] theorem State.setSelf_sys (s : State) (f : PoleSelf → PoleSelf) : (s.setSelf f).sys = s.sys := rfl
@[simp] theorem State.setSelf_guy (s : State) (f : PoleSelf → PoleSelf) : (s.setSelf f).guy = s.guy := rfl
@[simp] theorem State.setSelf_objs (s : State) (f : PoleSelf → PoleSelf) : (s.setSelf f).objs = s.objs := rfl
@[simp] theorem State.setSelf_gq (s : State) (f : PoleSelf → PoleSelf) : (s.setSelf f).gq = s.gq := rfl
@[simp] theorem State.setSelf_gathered (s : State) (f : PoleSelf → PoleSelf) : (s.setSelf f).gathered = s.gathered := rfl
@[simp] theorem State.setSelf_seqs (s : State) (f : PoleSelf → PoleSelf) : (s.setSelf f).seqs = s.seqs := rfl
@[simp] theorem State.setSelf_rerun (s : State) (f : PoleSelf → PoleSelf) : (s.setSelf f).rerun = s.rerun := rfl
@[simp] theorem State.setSelf_cancelled (s : State) (f : PoleSelf → PoleSelf) : (s.setSelf f).cancelled = s.cancelled := rfl
@[simp] theorem State.setSelf_staged (s : State) (f : PoleSelf → PoleSelf) : (s.setSelf f).staged = s.staged := rfl
@[simp] theorem State.setSelf_deferred (s : State) (f : PoleSelf → PoleSelf) : (s.setSelf f).deferred = s.deferred := rfl
@[simp] theorem State.setSelf_inflight (s : State) (f : PoleSelf → PoleSelf) : (s.setSelf f).inflight = s.inflight := rfl
@[simp] theorem State.setSelf_newest (s : State) (f : PoleSelf → PoleSelf) : (s.setSelf f).newest = s.newest := rfl
@[simp] theorem State.setSelf_reasm (s : State) (f : PoleSelf → PoleSelf) : (s.setSelf f).reasm = s.reasm := rfl
@[simp] theorem State.setSelf_evGlobal (s : State) (f : PoleSelf → PoleSelf) : (s.setSelf f).evGlobal = s.evGlobal := rfl
@[simp] theorem State.setSelf_evCan (s : State) (f : PoleSelf → PoleSelf) : (s.setSelf f).evCan = s.evCan := rfl
@[simp] theorem State.setSelf_evRidge (s : State) (f : PoleSelf → PoleSelf) : (s.setSelf f).evRidge = s.evRidge := rfl
@[simp] theorem State.setSelf_faultActive (s : State) (f : PoleSelf → PoleSelf) : (s.setSelf f).faultActive = s.faultActive := rfl
@[simp] theorem State.setSelf_host (s : State) (f : PoleSelf → PoleSelf) : (s.setSelf f).host = s.host := rfl
@[simp] theorem State.setSelf_mem (s : State) (f : PoleSelf → PoleSelf) : (s.setSelf f).mem = s.mem := rfl
@[simp] theorem State.setSelf_ink (s : State) (f : PoleSelf → PoleSelf) : (s.setSelf f).ink = s.ink := rfl
@[simp] theorem State.setSelf_folio (s : State) (f : PoleSelf → PoleSelf) : (s.setSelf f).folio = s.folio := rfl
@[simp] theorem State.setSelf_img (s : State) (f : PoleSelf → PoleSelf) : (s.setSelf f).img = s.img := rfl
@[simp] theorem State.setSelf_quill (s : State) (f : PoleSelf → PoleSelf) : (s.setSelf f).quill = s.quill := rfl
@[simp] theorem State.setSelf_lf (s : State) (f : PoleSelf → PoleSelf) : (s.setSelf f).lf = s.lf := rfl
@[simp] theorem State.setSelf_radio (s : State) (f : PoleSelf → PoleSelf) : (s.setSelf f).radio = s.radio := rfl
@[simp] theorem State.setSelf_tether (s : State) (f : PoleSelf → PoleSelf) : (s.setSelf f).tether = s.tether := rfl
@[simp] theorem State.setSelf_people (s : State) (f : PoleSelf → PoleSelf) : (s.setSelf f).people = s.people := rfl
@[simp] theorem State.setSelf_feed (s : State) (f : PoleSelf → PoleSelf) : (s.setSelf f).feed = s.feed := rfl
@[simp] theorem State.setSelf_release (s : State) (f : PoleSelf → PoleSelf) : (s.setSelf f).release = s.release := rfl
@[simp] theorem State.setSelf_ridge (s : State) (f : PoleSelf → PoleSelf) : (s.setSelf f).ridge = s.ridge := rfl
@[simp] theorem State.setSelf_can0 (s : State) (f : PoleSelf → PoleSelf) : (s.setSelf f).can0 = s.can0 := rfl
@[simp] theorem State.setSelf_can1 (s : State) (f : PoleSelf → PoleSelf) : (s.setSelf f).can1 = s.can1 := rfl
@[simp] theorem State.setSelf_seen (s : State) (f : PoleSelf → PoleSelf) : (s.setSelf f).seen = s.seen := rfl

/-! ## setSlave -/

@[simp] theorem State.setSlave_pending (s : State) (n : Nat) (f : SlaveRec → SlaveRec) : (s.setSlave n f).pending = s.pending := rfl
@[simp] theorem State.setSlave_sys (s : State) (n : Nat) (f : SlaveRec → SlaveRec) : (s.setSlave n f).sys = s.sys := rfl
@[simp] theorem State.setSlave_guy (s : State) (n : Nat) (f : SlaveRec → SlaveRec) : (s.setSlave n f).guy = s.guy := rfl
@[simp] theorem State.setSlave_objs (s : State) (n : Nat) (f : SlaveRec → SlaveRec) : (s.setSlave n f).objs = s.objs := rfl
@[simp] theorem State.setSlave_gq (s : State) (n : Nat) (f : SlaveRec → SlaveRec) : (s.setSlave n f).gq = s.gq := rfl
@[simp] theorem State.setSlave_gathered (s : State) (n : Nat) (f : SlaveRec → SlaveRec) : (s.setSlave n f).gathered = s.gathered := rfl
@[simp] theorem State.setSlave_seqs (s : State) (n : Nat) (f : SlaveRec → SlaveRec) : (s.setSlave n f).seqs = s.seqs := rfl
@[simp] theorem State.setSlave_rerun (s : State) (n : Nat) (f : SlaveRec → SlaveRec) : (s.setSlave n f).rerun = s.rerun := rfl
@[simp] theorem State.setSlave_cancelled (s : State) (n : Nat) (f : SlaveRec → SlaveRec) : (s.setSlave n f).cancelled = s.cancelled := rfl
@[simp] theorem State.setSlave_staged (s : State) (n : Nat) (f : SlaveRec → SlaveRec) : (s.setSlave n f).staged = s.staged := rfl
@[simp] theorem State.setSlave_deferred (s : State) (n : Nat) (f : SlaveRec → SlaveRec) : (s.setSlave n f).deferred = s.deferred := rfl
@[simp] theorem State.setSlave_inflight (s : State) (n : Nat) (f : SlaveRec → SlaveRec) : (s.setSlave n f).inflight = s.inflight := rfl
@[simp] theorem State.setSlave_newest (s : State) (n : Nat) (f : SlaveRec → SlaveRec) : (s.setSlave n f).newest = s.newest := rfl
@[simp] theorem State.setSlave_reasm (s : State) (n : Nat) (f : SlaveRec → SlaveRec) : (s.setSlave n f).reasm = s.reasm := rfl
@[simp] theorem State.setSlave_evGlobal (s : State) (n : Nat) (f : SlaveRec → SlaveRec) : (s.setSlave n f).evGlobal = s.evGlobal := rfl
@[simp] theorem State.setSlave_evCan (s : State) (n : Nat) (f : SlaveRec → SlaveRec) : (s.setSlave n f).evCan = s.evCan := rfl
@[simp] theorem State.setSlave_evRidge (s : State) (n : Nat) (f : SlaveRec → SlaveRec) : (s.setSlave n f).evRidge = s.evRidge := rfl
@[simp] theorem State.setSlave_faultActive (s : State) (n : Nat) (f : SlaveRec → SlaveRec) : (s.setSlave n f).faultActive = s.faultActive := rfl
@[simp] theorem State.setSlave_host (s : State) (n : Nat) (f : SlaveRec → SlaveRec) : (s.setSlave n f).host = s.host := rfl
@[simp] theorem State.setSlave_mem (s : State) (n : Nat) (f : SlaveRec → SlaveRec) : (s.setSlave n f).mem = s.mem := rfl
@[simp] theorem State.setSlave_ink (s : State) (n : Nat) (f : SlaveRec → SlaveRec) : (s.setSlave n f).ink = s.ink := rfl
@[simp] theorem State.setSlave_folio (s : State) (n : Nat) (f : SlaveRec → SlaveRec) : (s.setSlave n f).folio = s.folio := rfl
@[simp] theorem State.setSlave_img (s : State) (n : Nat) (f : SlaveRec → SlaveRec) : (s.setSlave n f).img = s.img := rfl
@[simp] theorem State.setSlave_quill (s : State) (n : Nat) (f : SlaveRec → SlaveRec) : (s.setSlave n f).quill = s.quill := rfl
@[simp] theorem State.setSlave_lf (s : State) (n : Nat) (f : SlaveRec → SlaveRec) : (s.setSlave n f).lf = s.lf := rfl
@[simp] theorem State.setSlave_radio (s : State) (n : Nat) (f : SlaveRec → SlaveRec) : (s.setSlave n f).radio = s.radio := rfl
@[simp] theorem State.setSlave_tether (s : State) (n : Nat) (f : SlaveRec → SlaveRec) : (s.setSlave n f).tether = s.tether := rfl
@[simp] theorem State.setSlave_people (s : State) (n : Nat) (f : SlaveRec → SlaveRec) : (s.setSlave n f).people = s.people := rfl
@[simp] theorem State.setSlave_feed (s : State) (n : Nat) (f : SlaveRec → SlaveRec) : (s.setSlave n f).feed = s.feed := rfl
@[simp] theorem State.setSlave_release (s : State) (n : Nat) (f : SlaveRec → SlaveRec) : (s.setSlave n f).release = s.release := rfl
@[simp] theorem State.setSlave_ridge (s : State) (n : Nat) (f : SlaveRec → SlaveRec) : (s.setSlave n f).ridge = s.ridge := rfl
@[simp] theorem State.setSlave_can0 (s : State) (n : Nat) (f : SlaveRec → SlaveRec) : (s.setSlave n f).can0 = s.can0 := rfl
@[simp] theorem State.setSlave_can1 (s : State) (n : Nat) (f : SlaveRec → SlaveRec) : (s.setSlave n f).can1 = s.can1 := rfl
@[simp] theorem State.setSlave_seen (s : State) (n : Nat) (f : SlaveRec → SlaveRec) : (s.setSlave n f).seen = s.seen := rfl

/-! ## sendFrame -/

@[simp] theorem State.sendFrame_pending (s : State) (f : PoleFrame) : (s.sendFrame f).pending = s.pending := rfl
@[simp] theorem State.sendFrame_sys (s : State) (f : PoleFrame) : (s.sendFrame f).sys = s.sys := rfl
@[simp] theorem State.sendFrame_guy (s : State) (f : PoleFrame) : (s.sendFrame f).guy = s.guy := rfl
@[simp] theorem State.sendFrame_objs (s : State) (f : PoleFrame) : (s.sendFrame f).objs = s.objs := rfl
@[simp] theorem State.sendFrame_gq (s : State) (f : PoleFrame) : (s.sendFrame f).gq = s.gq := rfl
@[simp] theorem State.sendFrame_gathered (s : State) (f : PoleFrame) : (s.sendFrame f).gathered = s.gathered := rfl
@[simp] theorem State.sendFrame_seqs (s : State) (f : PoleFrame) : (s.sendFrame f).seqs = s.seqs := rfl
@[simp] theorem State.sendFrame_rerun (s : State) (f : PoleFrame) : (s.sendFrame f).rerun = s.rerun := rfl
@[simp] theorem State.sendFrame_cancelled (s : State) (f : PoleFrame) : (s.sendFrame f).cancelled = s.cancelled := rfl
@[simp] theorem State.sendFrame_staged (s : State) (f : PoleFrame) : (s.sendFrame f).staged = s.staged := rfl
@[simp] theorem State.sendFrame_deferred (s : State) (f : PoleFrame) : (s.sendFrame f).deferred = s.deferred := rfl
@[simp] theorem State.sendFrame_inflight (s : State) (f : PoleFrame) : (s.sendFrame f).inflight = s.inflight := rfl
@[simp] theorem State.sendFrame_newest (s : State) (f : PoleFrame) : (s.sendFrame f).newest = s.newest := rfl
@[simp] theorem State.sendFrame_reasm (s : State) (f : PoleFrame) : (s.sendFrame f).reasm = s.reasm := rfl
@[simp] theorem State.sendFrame_evGlobal (s : State) (f : PoleFrame) : (s.sendFrame f).evGlobal = s.evGlobal := rfl
@[simp] theorem State.sendFrame_evCan (s : State) (f : PoleFrame) : (s.sendFrame f).evCan = s.evCan := rfl
@[simp] theorem State.sendFrame_evRidge (s : State) (f : PoleFrame) : (s.sendFrame f).evRidge = s.evRidge := rfl
@[simp] theorem State.sendFrame_faultActive (s : State) (f : PoleFrame) : (s.sendFrame f).faultActive = s.faultActive := rfl
@[simp] theorem State.sendFrame_host (s : State) (f : PoleFrame) : (s.sendFrame f).host = s.host := rfl
@[simp] theorem State.sendFrame_mem (s : State) (f : PoleFrame) : (s.sendFrame f).mem = s.mem := rfl
@[simp] theorem State.sendFrame_ink (s : State) (f : PoleFrame) : (s.sendFrame f).ink = s.ink := rfl
@[simp] theorem State.sendFrame_folio (s : State) (f : PoleFrame) : (s.sendFrame f).folio = s.folio := rfl
@[simp] theorem State.sendFrame_img (s : State) (f : PoleFrame) : (s.sendFrame f).img = s.img := rfl
@[simp] theorem State.sendFrame_quill (s : State) (f : PoleFrame) : (s.sendFrame f).quill = s.quill := rfl
@[simp] theorem State.sendFrame_lf (s : State) (f : PoleFrame) : (s.sendFrame f).lf = s.lf := rfl
@[simp] theorem State.sendFrame_radio (s : State) (f : PoleFrame) : (s.sendFrame f).radio = s.radio := rfl
@[simp] theorem State.sendFrame_tether (s : State) (f : PoleFrame) : (s.sendFrame f).tether = s.tether := rfl
@[simp] theorem State.sendFrame_people (s : State) (f : PoleFrame) : (s.sendFrame f).people = s.people := rfl
@[simp] theorem State.sendFrame_feed (s : State) (f : PoleFrame) : (s.sendFrame f).feed = s.feed := rfl
@[simp] theorem State.sendFrame_release (s : State) (f : PoleFrame) : (s.sendFrame f).release = s.release := rfl
@[simp] theorem State.sendFrame_ridge (s : State) (f : PoleFrame) : (s.sendFrame f).ridge = s.ridge := rfl
@[simp] theorem State.sendFrame_can0 (s : State) (f : PoleFrame) : (s.sendFrame f).can0 = s.can0 := rfl
@[simp] theorem State.sendFrame_can1 (s : State) (f : PoleFrame) : (s.sendFrame f).can1 = s.can1 := rfl
@[simp] theorem State.sendFrame_seen (s : State) (f : PoleFrame) : (s.sendFrame f).seen = s.seen := rfl

/-! ## countUp -/

@[simp] theorem State.countUp_pending (s : State) (n k : Nat) : (s.countUp n k).pending = s.pending := rfl
@[simp] theorem State.countUp_sys (s : State) (n k : Nat) : (s.countUp n k).sys = s.sys := rfl
@[simp] theorem State.countUp_guy (s : State) (n k : Nat) : (s.countUp n k).guy = s.guy := rfl
@[simp] theorem State.countUp_objs (s : State) (n k : Nat) : (s.countUp n k).objs = s.objs := rfl
@[simp] theorem State.countUp_gq (s : State) (n k : Nat) : (s.countUp n k).gq = s.gq := rfl
@[simp] theorem State.countUp_gathered (s : State) (n k : Nat) : (s.countUp n k).gathered = s.gathered := rfl
@[simp] theorem State.countUp_seqs (s : State) (n k : Nat) : (s.countUp n k).seqs = s.seqs := rfl
@[simp] theorem State.countUp_rerun (s : State) (n k : Nat) : (s.countUp n k).rerun = s.rerun := rfl
@[simp] theorem State.countUp_cancelled (s : State) (n k : Nat) : (s.countUp n k).cancelled = s.cancelled := rfl
@[simp] theorem State.countUp_staged (s : State) (n k : Nat) : (s.countUp n k).staged = s.staged := rfl
@[simp] theorem State.countUp_deferred (s : State) (n k : Nat) : (s.countUp n k).deferred = s.deferred := rfl
@[simp] theorem State.countUp_inflight (s : State) (n k : Nat) : (s.countUp n k).inflight = s.inflight := rfl
@[simp] theorem State.countUp_newest (s : State) (n k : Nat) : (s.countUp n k).newest = s.newest := rfl
@[simp] theorem State.countUp_reasm (s : State) (n k : Nat) : (s.countUp n k).reasm = s.reasm := rfl
@[simp] theorem State.countUp_evGlobal (s : State) (n k : Nat) : (s.countUp n k).evGlobal = s.evGlobal := rfl
@[simp] theorem State.countUp_evCan (s : State) (n k : Nat) : (s.countUp n k).evCan = s.evCan := rfl
@[simp] theorem State.countUp_evRidge (s : State) (n k : Nat) : (s.countUp n k).evRidge = s.evRidge := rfl
@[simp] theorem State.countUp_faultActive (s : State) (n k : Nat) : (s.countUp n k).faultActive = s.faultActive := rfl
@[simp] theorem State.countUp_host (s : State) (n k : Nat) : (s.countUp n k).host = s.host := rfl
@[simp] theorem State.countUp_mem (s : State) (n k : Nat) : (s.countUp n k).mem = s.mem := rfl
@[simp] theorem State.countUp_folio (s : State) (n k : Nat) : (s.countUp n k).folio = s.folio := rfl
@[simp] theorem State.countUp_img (s : State) (n k : Nat) : (s.countUp n k).img = s.img := rfl
@[simp] theorem State.countUp_quill (s : State) (n k : Nat) : (s.countUp n k).quill = s.quill := rfl
@[simp] theorem State.countUp_lf (s : State) (n k : Nat) : (s.countUp n k).lf = s.lf := rfl
@[simp] theorem State.countUp_radio (s : State) (n k : Nat) : (s.countUp n k).radio = s.radio := rfl
@[simp] theorem State.countUp_tether (s : State) (n k : Nat) : (s.countUp n k).tether = s.tether := rfl
@[simp] theorem State.countUp_people (s : State) (n k : Nat) : (s.countUp n k).people = s.people := rfl
@[simp] theorem State.countUp_feed (s : State) (n k : Nat) : (s.countUp n k).feed = s.feed := rfl
@[simp] theorem State.countUp_release (s : State) (n k : Nat) : (s.countUp n k).release = s.release := rfl
@[simp] theorem State.countUp_ridge (s : State) (n k : Nat) : (s.countUp n k).ridge = s.ridge := rfl
@[simp] theorem State.countUp_can0 (s : State) (n k : Nat) : (s.countUp n k).can0 = s.can0 := rfl
@[simp] theorem State.countUp_can1 (s : State) (n k : Nat) : (s.countUp n k).can1 = s.can1 := rfl
@[simp] theorem State.countUp_pole (s : State) (n k : Nat) : (s.countUp n k).pole = s.pole := rfl
@[simp] theorem State.countUp_seen (s : State) (n k : Nat) : (s.countUp n k).seen = s.seen := rfl

/-! ## putImage -/

@[simp] theorem State.putImage_pending (s : State) (n : Nat) (v : Bytes) : (s.putImage n v).pending = s.pending := rfl
@[simp] theorem State.putImage_sys (s : State) (n : Nat) (v : Bytes) : (s.putImage n v).sys = s.sys := rfl
@[simp] theorem State.putImage_guy (s : State) (n : Nat) (v : Bytes) : (s.putImage n v).guy = s.guy := rfl
@[simp] theorem State.putImage_objs (s : State) (n : Nat) (v : Bytes) : (s.putImage n v).objs = s.objs := rfl
@[simp] theorem State.putImage_gq (s : State) (n : Nat) (v : Bytes) : (s.putImage n v).gq = s.gq := rfl
@[simp] theorem State.putImage_gathered (s : State) (n : Nat) (v : Bytes) : (s.putImage n v).gathered = s.gathered := rfl
@[simp] theorem State.putImage_seqs (s : State) (n : Nat) (v : Bytes) : (s.putImage n v).seqs = s.seqs := rfl
@[simp] theorem State.putImage_rerun (s : State) (n : Nat) (v : Bytes) : (s.putImage n v).rerun = s.rerun := rfl
@[simp] theorem State.putImage_cancelled (s : State) (n : Nat) (v : Bytes) : (s.putImage n v).cancelled = s.cancelled := rfl
@[simp] theorem State.putImage_staged (s : State) (n : Nat) (v : Bytes) : (s.putImage n v).staged = s.staged := rfl
@[simp] theorem State.putImage_deferred (s : State) (n : Nat) (v : Bytes) : (s.putImage n v).deferred = s.deferred := rfl
@[simp] theorem State.putImage_inflight (s : State) (n : Nat) (v : Bytes) : (s.putImage n v).inflight = s.inflight := rfl
@[simp] theorem State.putImage_newest (s : State) (n : Nat) (v : Bytes) : (s.putImage n v).newest = s.newest := rfl
@[simp] theorem State.putImage_reasm (s : State) (n : Nat) (v : Bytes) : (s.putImage n v).reasm = s.reasm := rfl
@[simp] theorem State.putImage_evGlobal (s : State) (n : Nat) (v : Bytes) : (s.putImage n v).evGlobal = s.evGlobal := rfl
@[simp] theorem State.putImage_evCan (s : State) (n : Nat) (v : Bytes) : (s.putImage n v).evCan = s.evCan := rfl
@[simp] theorem State.putImage_evRidge (s : State) (n : Nat) (v : Bytes) : (s.putImage n v).evRidge = s.evRidge := rfl
@[simp] theorem State.putImage_faultActive (s : State) (n : Nat) (v : Bytes) : (s.putImage n v).faultActive = s.faultActive := rfl
@[simp] theorem State.putImage_host (s : State) (n : Nat) (v : Bytes) : (s.putImage n v).host = s.host := rfl
@[simp] theorem State.putImage_mem (s : State) (n : Nat) (v : Bytes) : (s.putImage n v).mem = s.mem := rfl
@[simp] theorem State.putImage_ink (s : State) (n : Nat) (v : Bytes) : (s.putImage n v).ink = s.ink := rfl
@[simp] theorem State.putImage_folio (s : State) (n : Nat) (v : Bytes) : (s.putImage n v).folio = s.folio := rfl
@[simp] theorem State.putImage_img (s : State) (n : Nat) (v : Bytes) : (s.putImage n v).img = s.img := rfl
@[simp] theorem State.putImage_quill (s : State) (n : Nat) (v : Bytes) : (s.putImage n v).quill = s.quill := rfl
@[simp] theorem State.putImage_lf (s : State) (n : Nat) (v : Bytes) : (s.putImage n v).lf = s.lf := rfl
@[simp] theorem State.putImage_radio (s : State) (n : Nat) (v : Bytes) : (s.putImage n v).radio = s.radio := rfl
@[simp] theorem State.putImage_tether (s : State) (n : Nat) (v : Bytes) : (s.putImage n v).tether = s.tether := rfl
@[simp] theorem State.putImage_feed (s : State) (n : Nat) (v : Bytes) : (s.putImage n v).feed = s.feed := rfl
@[simp] theorem State.putImage_release (s : State) (n : Nat) (v : Bytes) : (s.putImage n v).release = s.release := rfl
@[simp] theorem State.putImage_ridge (s : State) (n : Nat) (v : Bytes) : (s.putImage n v).ridge = s.ridge := rfl
@[simp] theorem State.putImage_can0 (s : State) (n : Nat) (v : Bytes) : (s.putImage n v).can0 = s.can0 := rfl
@[simp] theorem State.putImage_can1 (s : State) (n : Nat) (v : Bytes) : (s.putImage n v).can1 = s.can1 := rfl
@[simp] theorem State.putImage_pole (s : State) (n : Nat) (v : Bytes) : (s.putImage n v).pole = s.pole := rfl
@[simp] theorem State.putImage_seen (s : State) (n : Nat) (v : Bytes) : (s.putImage n v).seen = s.seen := rfl

/-! ## What the updates write -/

@[simp] theorem State.stage_staged (s : State) (u : Staged) : (s.stage u).staged = s.staged ++ [u] := rfl

@[simp] theorem State.consume_gathered (s : State) (i : Item) : (s.consume i).gathered = s.gathered.filter (· != i) := rfl

@[simp] theorem State.later_folio_carry (s : State) (r : NewRec) : (s.later r).folio.carry = s.folio.carry ++ [r] := rfl

@[simp] theorem State.sendFrame_out (s : State) (f : PoleFrame) : (s.sendFrame f).pole.out = s.pole.out ++ [f] := rfl

@[simp] theorem State.stage_effects (s : State) (u : Staged) : (s.stage u).effects = s.effects ++ u.effs := by
  simp [State.effects, State.stage]

/-! ## The step (log entry 11) -/

/-- A step on an empty queue idles. -/
@[simp] theorem step_nil (s : State) (h : s.pending = []) : step s = .next s := by
  simp [step, h]

end Sys2Proof.Machine
end

