-- ==== Sys2Proof/Laws/Offer.lean ====
section
/-!
SUPPORT. Offer.lean: all that depositing an item does (R34, R35, R434, R440).
-/

namespace Sys2Proof.Machine

/-- An ITEM frame to the master leaves a slave, or its item is kept: nothing but the Pole link changes. -/
theorem sendItem_pole (s : State) (cls idx seq : Nat) (v : Bytes) :
    s.sendItem cls idx seq v = { s with pole := (s.sendItem cls idx seq v).pole } := by
  unfold State.sendItem
  simp only
  split
  · rfl
  split
  · rfl
  split <;> rfl

/-- Of the Pole link only the frames to be sent and the kept items change. -/
theorem sendItem_pole_parts (s : State) (cls idx seq : Nat) (v : Bytes) :
    { (s.sendItem cls idx seq v).pole with out := s.pole.out, kept := s.pole.kept } = s.pole := by
  unfold State.sendItem
  simp only
  split
  · rfl
  split
  · rfl
  split <;> rfl

/-- On a master nothing is sent. -/
@[simp] theorem sendItem_master (s : State) (cls idx seq : Nat) (v : Bytes) (h : s.sys.cascId = 0) :
    s.sendItem cls idx seq v = s := by simp [State.sendItem, h]

theorem offer_eq (s : State) (cls idx : Nat) (v : Bytes) (aux : List Nat) :
    s.offer cls idx v aux = { s with
      gq := s.gq ++ [⟨cls, idx, (alookup (cls * 256 + idx) s.seqs).getD 0, v, aux⟩]
      seqs := ainsert (cls * 256 + idx) (((alookup (cls * 256 + idx) s.seqs).getD 0 + 1) % 2 ^ 16) s.seqs
      pole := (s.offer cls idx v aux).pole } := by
  rw [State.offer, sendItem_pole]

@[simp] theorem offer_gq (s : State) (cls idx : Nat) (v : Bytes) (aux : List Nat) :
    (s.offer cls idx v aux).gq = s.gq ++ [⟨cls, idx, (alookup (cls * 256 + idx) s.seqs).getD 0, v, aux⟩] := by rw [offer_eq]

@[simp] theorem offer_seqs (s : State) (cls idx : Nat) (v : Bytes) (aux : List Nat) :
    (s.offer cls idx v aux).seqs =
      ainsert (cls * 256 + idx) (((alookup (cls * 256 + idx) s.seqs).getD 0 + 1) % 2 ^ 16) s.seqs := by rw [offer_eq]

@[simp] theorem offer_pending (s : State) (cls idx : Nat) (v : Bytes) (aux : List Nat) :
    (s.offer cls idx v aux).pending = s.pending := by rw [offer_eq]

@[simp] theorem offer_sys (s : State) (cls idx : Nat) (v : Bytes) (aux : List Nat) :
    (s.offer cls idx v aux).sys = s.sys := by rw [offer_eq]

@[simp] theorem offer_guy (s : State) (cls idx : Nat) (v : Bytes) (aux : List Nat) :
    (s.offer cls idx v aux).guy = s.guy := by rw [offer_eq]

@[simp] theorem offer_objs (s : State) (cls idx : Nat) (v : Bytes) (aux : List Nat) :
    (s.offer cls idx v aux).objs = s.objs := by rw [offer_eq]

@[simp] theorem offer_gathered (s : State) (cls idx : Nat) (v : Bytes) (aux : List Nat) :
    (s.offer cls idx v aux).gathered = s.gathered := by rw [offer_eq]

@[simp] theorem offer_rerun (s : State) (cls idx : Nat) (v : Bytes) (aux : List Nat) :
    (s.offer cls idx v aux).rerun = s.rerun := by rw [offer_eq]

@[simp] theorem offer_cancelled (s : State) (cls idx : Nat) (v : Bytes) (aux : List Nat) :
    (s.offer cls idx v aux).cancelled = s.cancelled := by rw [offer_eq]

@[simp] theorem offer_staged (s : State) (cls idx : Nat) (v : Bytes) (aux : List Nat) :
    (s.offer cls idx v aux).staged = s.staged := by rw [offer_eq]

@[simp] theorem offer_deferred (s : State) (cls idx : Nat) (v : Bytes) (aux : List Nat) :
    (s.offer cls idx v aux).deferred = s.deferred := by rw [offer_eq]

@[simp] theorem offer_inflight (s : State) (cls idx : Nat) (v : Bytes) (aux : List Nat) :
    (s.offer cls idx v aux).inflight = s.inflight := by rw [offer_eq]

@[simp] theorem offer_newest (s : State) (cls idx : Nat) (v : Bytes) (aux : List Nat) :
    (s.offer cls idx v aux).newest = s.newest := by rw [offer_eq]

@[simp] theorem offer_reasm (s : State) (cls idx : Nat) (v : Bytes) (aux : List Nat) :
    (s.offer cls idx v aux).reasm = s.reasm := by rw [offer_eq]

@[simp] theorem offer_evGlobal (s : State) (cls idx : Nat) (v : Bytes) (aux : List Nat) :
    (s.offer cls idx v aux).evGlobal = s.evGlobal := by rw [offer_eq]

@[simp] theorem offer_evCan (s : State) (cls idx : Nat) (v : Bytes) (aux : List Nat) :
    (s.offer cls idx v aux).evCan = s.evCan := by rw [offer_eq]

@[simp] theorem offer_evRidge (s : State) (cls idx : Nat) (v : Bytes) (aux : List Nat) :
    (s.offer cls idx v aux).evRidge = s.evRidge := by rw [offer_eq]

@[simp] theorem offer_faultActive (s : State) (cls idx : Nat) (v : Bytes) (aux : List Nat) :
    (s.offer cls idx v aux).faultActive = s.faultActive := by rw [offer_eq]

@[simp] theorem offer_host (s : State) (cls idx : Nat) (v : Bytes) (aux : List Nat) :
    (s.offer cls idx v aux).host = s.host := by rw [offer_eq]

@[simp] theorem offer_mem (s : State) (cls idx : Nat) (v : Bytes) (aux : List Nat) :
    (s.offer cls idx v aux).mem = s.mem := by rw [offer_eq]

@[simp] theorem offer_ink (s : State) (cls idx : Nat) (v : Bytes) (aux : List Nat) :
    (s.offer cls idx v aux).ink = s.ink := by rw [offer_eq]

@[simp] theorem offer_folio (s : State) (cls idx : Nat) (v : Bytes) (aux : List Nat) :
    (s.offer cls idx v aux).folio = s.folio := by rw [offer_eq]

@[simp] theorem offer_img (s : State) (cls idx : Nat) (v : Bytes) (aux : List Nat) :
    (s.offer cls idx v aux).img = s.img := by rw [offer_eq]

@[simp] theorem offer_quill (s : State) (cls idx : Nat) (v : Bytes) (aux : List Nat) :
    (s.offer cls idx v aux).quill = s.quill := by rw [offer_eq]

@[simp] theorem offer_lf (s : State) (cls idx : Nat) (v : Bytes) (aux : List Nat) :
    (s.offer cls idx v aux).lf = s.lf := by rw [offer_eq]

@[simp] theorem offer_radio (s : State) (cls idx : Nat) (v : Bytes) (aux : List Nat) :
    (s.offer cls idx v aux).radio = s.radio := by rw [offer_eq]

@[simp] theorem offer_tether (s : State) (cls idx : Nat) (v : Bytes) (aux : List Nat) :
    (s.offer cls idx v aux).tether = s.tether := by rw [offer_eq]

@[simp] theorem offer_people (s : State) (cls idx : Nat) (v : Bytes) (aux : List Nat) :
    (s.offer cls idx v aux).people = s.people := by rw [offer_eq]

@[simp] theorem offer_feed (s : State) (cls idx : Nat) (v : Bytes) (aux : List Nat) :
    (s.offer cls idx v aux).feed = s.feed := by rw [offer_eq]

@[simp] theorem offer_release (s : State) (cls idx : Nat) (v : Bytes) (aux : List Nat) :
    (s.offer cls idx v aux).release = s.release := by rw [offer_eq]

@[simp] theorem offer_ridge (s : State) (cls idx : Nat) (v : Bytes) (aux : List Nat) :
    (s.offer cls idx v aux).ridge = s.ridge := by rw [offer_eq]

@[simp] theorem offer_can0 (s : State) (cls idx : Nat) (v : Bytes) (aux : List Nat) :
    (s.offer cls idx v aux).can0 = s.can0 := by rw [offer_eq]

@[simp] theorem offer_can1 (s : State) (cls idx : Nat) (v : Bytes) (aux : List Nat) :
    (s.offer cls idx v aux).can1 = s.can1 := by rw [offer_eq]

@[simp] theorem offer_seen (s : State) (cls idx : Nat) (v : Bytes) (aux : List Nat) :
    (s.offer cls idx v aux).seen = s.seen := by rw [offer_eq]

/-- What is found after an insertion at its own key. -/
@[simp] theorem alookup_ainsert {α : Type} (k : Nat) (v : α) (l : List (Nat × α)) : alookup k (ainsert k v l) = some v := by
  induction l with
  | nil => simp [ainsert, alookup]
  | cons a l ih =>
    obtain ⟨k', v'⟩ := a
    unfold ainsert
    split
    · simp [alookup]
    · split
      · simp [alookup]
      · have h : ¬k' = k := by omega
        simpa [alookup, List.find?_cons, beq_eq_false_iff_ne.mpr h] using ih

/-- An insertion at one key leaves what every other key finds. -/
theorem alookup_ainsert_ne {α : Type} (k j : Nat) (v : α) (l : List (Nat × α)) (h : j ≠ k) :
    alookup j (ainsert k v l) = alookup j l := by
  have h' : (k == j) = false := by simpa using Ne.symm h
  induction l with
  | nil => simp [ainsert, alookup, h']
  | cons a l ih =>
    obtain ⟨k', v'⟩ := a
    unfold ainsert
    split
    · simp [alookup, List.find?_cons, h']
    · split
      · next hk => subst hk; simp [alookup, h']
      · simp only [alookup, List.find?_cons] at ih ⊢
        split
        · rfl
        · exact ih

end Sys2Proof.Machine
end

