-- ==== Sys2Proof/Laws/Write.lean ====
section
/-!
SUPPORT. Write.lean: what a Ledger message says when it is read again, and all that a write which the check lets through does (R101-R110,
R116-R119).
-/

namespace Sys2Proof.Machine

/-! ## Numbers as bytes -/

/-- `n` bytes are `n` bytes long. -/
@[simp] theorem beBytes_length (n v : Nat) : (beBytes n v).length = n := by
  induction n with
  | zero => rfl
  | succ n ih => simp [beBytes, ih]

/-- Bytes read after a number read so far. -/
theorem beNat_fold (b : Bytes) (a : Nat) : b.foldl (fun a (x : Byte) => 256 * a + x.toNat) a = 256 ^ b.length * a + beNat b := by
  unfold beNat
  induction b generalizing a with
  | nil => simp
  | cons x b ih =>
    simp only [List.foldl_cons, List.length_cons]
    rw [ih (256 * a + x.toNat), ih (256 * 0 + x.toNat), pow_succ]
    ring

/-- A number written in `n` bytes reads as its low `n` bytes. -/
@[simp] theorem beNat_beBytes (n v : Nat) : beNat (beBytes n v) = v % 256 ^ n := by
  induction n with
  | zero => simp [beBytes, beNat, Nat.mod_one]
  | succ n ih =>
    show List.foldl _ _ _ = _
    simp only [beBytes, List.foldl_cons]
    rw [beNat_fold, beBytes_length, ih, pow_succ, Nat.mod_mul]
    simp [BitVec.toNat_ofNat]
    omega

/-- One byte into a CRC keeps its width. -/
theorem crcMsbByte_lt (w poly c b : Nat) : crcMsbByte w poly c b < 2 ^ w := by
  unfold crcMsbByte
  rw [List.range_succ, List.foldl_append]
  simp only [List.foldl_cons, List.foldl_nil]
  split <;> exact Nat.mod_lt _ (Nat.two_pow_pos w)

/-- A CRC-16 has 16 bits. -/
theorem crc16_lt (b : Bytes) : crc16 b < 65536 := by
  unfold crc16
  generalize nums b = l
  rcases List.eq_nil_or_concat l with rfl | ⟨l', x, rfl⟩
  · decide
  · rw [List.concat_eq_append, List.foldl_append, List.foldl_cons, List.foldl_nil]
    have h := crcMsbByte_lt 16 0x1021 (List.foldl (crcMsbByte 16 0x1021) 0xFFFF l') x
    generalize crcMsbByte 16 0x1021 (List.foldl (crcMsbByte 16 0x1021) 0xFFFF l') x = y at h
    omega

/-! ## Messages -/

/-- The header of a message. -/
def msgHead (type status tag len count echo : Nat) : Bytes :=
  [BitVec.ofNat 8 (16 + type), BitVec.ofNat 8 status, BitVec.ofNat 8 (tag / 256), BitVec.ofNat 8 tag,
    BitVec.ofNat 8 (len / 256), BitVec.ofNat 8 len, BitVec.ofNat 8 count, BitVec.ofNat 8 echo]

/-- A message is its header, its body and its CRC. -/
theorem ledgerMsg_eq (type status tag count echo : Nat) (body : Bytes) :
    ledgerMsg type status tag count echo body =
      (msgHead type status tag body.length count echo ++ body) ++
        beBytes 2 (crc16 (msgHead type status tag body.length count echo ++ body)) := by
  have e : beBytes 1 (16 + type) ++ beBytes 1 status ++ beBytes 2 tag ++ beBytes 2 body.length ++ beBytes 1 count ++
      beBytes 1 echo ++ body = msgHead type status tag body.length count echo ++ body := by
    simp [beBytes, msgHead]
  unfold ledgerMsg
  dsimp only
  rw [e]

/-- A message's own length, of a body of up to 65,535 bytes. -/
theorem msgLen_ledgerMsg (type status tag count echo : Nat) (body : Bytes) (h : body.length < 65536) :
    msgLen (ledgerMsg type status tag count echo body) = 10 + body.length := by
  rw [ledgerMsg_eq]
  have e : slice ((msgHead type status tag body.length count echo ++ body) ++
      beBytes 2 (crc16 (msgHead type status tag body.length count echo ++ body))) 4 2 = beBytes 2 body.length := by
    simp [slice, msgHead, beBytes]
  rw [msgLen, e, beNat_beBytes]
  omega

/-- A request reads as the entries its body spells (R116-R119). -/
theorem parse_ledgerMsg (tag count : Nat) (body : Bytes) (es : List LEntry) (hb : body.length ≤ 2048) (h1 : 1 ≤ count) (h2 : count ≤ 64)
    (he : entriesOf 64 body = some es) (hl : es.length = count) :
    parseRequest (ledgerMsg 1 0 tag count 0 body) = .request false body es := by
  have hn := msgLen_ledgerMsg 1 0 tag count 0 body (by omega)
  have hm := ledgerMsg_eq 1 0 tag count 0 body
  generalize ledgerMsg 1 0 tag count 0 body = m at hn hm
  set a := msgHead 1 0 tag body.length count 0 ++ body with ha
  have al : a.length = 8 + body.length := by simp [ha, msgHead]; omega
  have ml : m.length = 10 + body.length := by rw [hm, List.length_append, al, beBytes_length]; omega
  have ht : m.take (10 + body.length) = m := by rw [List.take_of_length_le]; omega
  have e1 : m.take (8 + body.length) = a := by rw [hm, ← al, List.take_left]
  have e2 : m.drop (8 + body.length) = beBytes 2 (crc16 a) := by rw [hm, ← al, List.drop_left]
  have c0 : byteAt m 0 = 17 := by rw [hm, ha]; rfl
  have c6 : byteAt m 6 = count := by
    rw [hm, ha]
    show (BitVec.ofNat 8 count).toNat = count
    rw [BitVec.toNat_ofNat]; omega
  have c7 : byteAt m 7 = 0 := by rw [hm, ha]; rfl
  have cb : slice m 8 body.length = body := by
    rw [hm, ha]
    show List.take _ (body ++ beBytes 2 _) = body
    exact List.take_left
  unfold parseRequest
  simp only [hn]
  rw [ht, show 10 + body.length - 2 = 8 + body.length by omega, e1, e2, beNat_beBytes,
    Nat.mod_eq_of_lt (show crc16 a < 256 ^ 2 from crc16_lt a), if_neg (by omega), c0, c6, c7,
    show 10 + body.length - 10 = body.length by omega, cb, if_neg (by omega), if_neg (by omega), he]
  simp [hl]

/-- One entry spelled out reads as that entry. -/
theorem entriesOf_one (w : Bool) (k : Nat) (v : Bytes) (hk : k < 2 ^ 24) (hv : v.length < 256) :
    entriesOf 64 (beBytes 1 (if w then 2 else 1) ++ beBytes 3 k ++ beBytes 1 v.length ++ v) = some [⟨w, k, v⟩] := by
  have h : beBytes 1 (if w then 2 else 1) ++ beBytes 3 k ++ beBytes 1 v.length ++ v =
      BitVec.ofNat 8 (if w then 2 else 1) :: (beBytes 3 k ++ (BitVec.ofNat 8 v.length :: v)) := by simp [beBytes]
  rw [h]
  have b4 : byteAt (BitVec.ofNat 8 (if w then 2 else 1) :: (beBytes 3 k ++ (BitVec.ofNat 8 v.length :: v))) 4 = v.length := by
    show (BitVec.ofNat 8 v.length).toNat = v.length
    rw [BitVec.toNat_ofNat]; omega
  have b0 : byteAt (BitVec.ofNat 8 (if w then 2 else 1) :: (beBytes 3 k ++ (BitVec.ofNat 8 v.length :: v))) 0 = if w then 2 else 1 := by
    cases w <;> rfl
  have bk : slice (BitVec.ofNat 8 (if w then 2 else 1) :: (beBytes 3 k ++ (BitVec.ofNat 8 v.length :: v))) 1 3 = beBytes 3 k := by
    simp [slice, beBytes]
  have bv : slice (BitVec.ofNat 8 (if w then 2 else 1) :: (beBytes 3 k ++ (BitVec.ofNat 8 v.length :: v))) 5 v.length = v := by
    simp [slice, beBytes]
  have bd : (BitVec.ofNat 8 (if w then 2 else 1) :: (beBytes 3 k ++ (BitVec.ofNat 8 v.length :: v))).drop (5 + v.length) = [] := by
    rw [List.drop_eq_nil_iff]; simp; omega
  have bl : (BitVec.ofNat 8 (if w then 2 else 1) :: (beBytes 3 k ++ (BitVec.ofNat 8 v.length :: v))).length = 5 + v.length := by
    simp; omega
  unfold entriesOf
  rw [if_neg (by simp)]
  simp only [b4, b0, bl, bk, bv, bd]
  rw [if_neg (by cases w <;> simp), beNat_beBytes, Nat.mod_eq_of_lt (by simpa using hk)]
  cases w <;> rfl

/-! ## A write the check lets through -/

/-- The requester of the item of a write is the requester. -/
theorem requester_item (r : Requester) (k : Nat) (v : Bytes) (h : Known r) : (requestItem r [⟨true, k, v⟩]).requester = r := by
  obtain ⟨cls, idx, via, tag⟩ := r
  obtain ⟨ht, hc⟩ := h
  dsimp only at ht hc
  have e : ∀ (c i : Nat), i < 256 → keyRequester (c * 2 ^ 24 + i * 2 ^ 16) =
      if c = 0x0D then (if i = 64 then (0, 64) else (1, i)) else if c = 0x0C then (2, i) else if c = 0x0B then (3, i) else (4, 0) := by
    intro c i hi
    unfold keyRequester
    have h1 : (c * 2 ^ 24 + i * 2 ^ 16) / 2 ^ 24 = c := by omega
    have h2 : (c * 2 ^ 24 + i * 2 ^ 16) / 2 ^ 16 % 256 = i := by omega
    rw [h1, h2]
  have tagE : ∀ b : Bytes, beNat (slice (ledgerMsg 1 0 tag 1 0 b) 2 2) = tag := by
    intro b
    rw [ledgerMsg_eq]
    have : slice ((msgHead 1 0 tag b.length 1 0 ++ b) ++ beBytes 2 (crc16 (msgHead 1 0 tag b.length 1 0 ++ b))) 2 2 =
        beBytes 2 tag := by simp [slice, msgHead, beBytes]
    rw [this, beNat_beBytes]
    omega
  unfold Item.requester requestItem
  dsimp only
  rw [show ([⟨true, k, v⟩] : List LEntry).length = 1 from rfl, tagE]
  rcases hc with ⟨rfl, rfl⟩ | ⟨rfl, hi⟩ | ⟨rfl, hi⟩ | ⟨rfl, hi⟩ | ⟨rfl, rfl⟩
  · have h := e 0x0D 64 (by omega)
    show (⟨(keyRequester (0x0D * 2 ^ 24 + 64 * 2 ^ 16)).1, (keyRequester (0x0D * 2 ^ 24 + 64 * 2 ^ 16)).2, _, tag⟩ : Requester) = _
    rw [h]
    cases via <;> simp
  · have h := e 0x0D idx (by omega)
    show (⟨(keyRequester (0x0D * 2 ^ 24 + idx * 2 ^ 16)).1, (keyRequester (0x0D * 2 ^ 24 + idx * 2 ^ 16)).2, _, tag⟩ : Requester) = _
    rw [h]
    have hne : idx ≠ 64 := by omega
    cases via <;> simp [hne]
  · have h := e 0x0C idx (by omega)
    show (⟨(keyRequester (0x0C * 2 ^ 24 + idx * 2 ^ 16)).1, (keyRequester (0x0C * 2 ^ 24 + idx * 2 ^ 16)).2, _, tag⟩ : Requester) = _
    rw [h]
    cases via <;> simp
  · have h := e 0x0B idx (by omega)
    show (⟨(keyRequester (0x0B * 2 ^ 24 + idx * 2 ^ 16)).1, (keyRequester (0x0B * 2 ^ 24 + idx * 2 ^ 16)).2, _, tag⟩ : Requester) = _
    rw [h]
    cases via <;> simp
  · have h := e 0x01 0 (by omega)
    show (⟨(keyRequester (0x01 * 2 ^ 24 + 0 * 2 ^ 16)).1, (keyRequester (0x01 * 2 ^ 24 + 0 * 2 ^ 16)).2, _, tag⟩ : Requester) = _
    rw [h]
    cases via <;> simp

/-- The item of a write reads as that write. -/
theorem parse_item (r : Requester) (k : Nat) (v : Bytes) (hk : k < 2 ^ 24) (hv : v.length ≤ 240) :
    ∃ body, parseRequest (requestItem r [⟨true, k, v⟩]).val = .request false body [⟨true, k, v⟩] := by
  have h := entriesOf_one true k v hk (by omega)
  have e : ([⟨true, k, v⟩] : List LEntry).flatMap (fun e => beBytes 1 (if e.write then 2 else 1) ++ beBytes 3 e.key ++
      beBytes 1 e.val.length ++ e.val) = beBytes 1 (if true then 2 else 1) ++ beBytes 3 k ++ beBytes 1 v.length ++ v := by simp
  refine ⟨_, parse_ledgerMsg r.tag 1 _ [⟨true, k, v⟩] ?_ (by decide) (by decide) ?_ rfl⟩
  · rw [e]; simp; omega
  · rw [e]; exact h

/-- A write the check lets through carries its object's operation out as it stands. -/
theorem writeEntry_takes (s : State) (r : Requester) (k : Nat) (v : Bytes) (d : ObjDef) (hd : objDef k = some d)
    (h1 : d.acc ≠ .ro) (h2 : d.acc ≠ .rwc) (h3 : s.maskOpen r k = true) (h4 : classBarred r k = false)
    (h5 : s.scheduleBusy k = false) (h6 : s.clampSteps d k 0 v = some []) (h7 : k ≠ 0x481004)
    (h8 : isRefusal (s.opWrite r k v).1.status = false) :
    s.writeEntry r false k v = ((s.opWrite r k v).1, v, (s.opWrite r k v).2) := by
  unfold State.writeEntry
  rw [hd]
  have h2' : (d.acc == .rwc) = false := by simpa using h2
  simp only [h1, h3, h4, h2, h2', h7, h6, if_false, false_and, Bool.not_true, Bool.false_or, Bool.false_and, Bool.false_eq_true]
  unfold State.writeOrdinary
  simp [h5, h8, applied, State.clampEffects]

/-- Effects seen by later entries leave the counts of entropy and of free values drawn. -/
theorem privately_sys (es : List Effect) (s : State) : (es.foldl State.privately s).sys = s.sys := by
  induction es generalizing s with
  | nil => rfl
  | cons e es ih => rw [List.foldl_cons, ih]; cases e <;> rfl

/-- The run of a transaction of one write that is not refused and is not a quota: what the write staged. -/
theorem runEntries_one (s : State) (r : Requester) (prot : Bool) (k : Nat) (v w : Bytes) (o : OpResult) (t : State)
    (hq : k / 256 ≠ 0x6A00) (he : s.writeEntry r prot k v = (o, w, t)) (h4 : isRefusal o.status = false)
    (hp : prot = true → LEntry.protected ⟨true, k, v⟩ = true) :
    s.runEntries r prot false 0 [⟨true, k, v⟩] =
      ⟨(o.effs.foldl State.privately t).stage ⟨0, .plain, o.effs, [], o.cells, o.pairs, [], [], [], []⟩, o.effs, o.recs, o.cells,
        o.pairs, [⟨o.status, k, []⟩]⟩ := by
  unfold State.runEntries
  simp only [List.foldl_cons, List.foldl_nil]
  unfold TxnRun.entry TxnRun.regrant
  simp [he, h4, LEntry.quota, hq]
  exact hp

/-- A write that is let through: one unit is staged, with the operation's effects, records and pages, and the response with its
status, on the state with the random bytes and free values the operation drew. -/
theorem execWrite_takes (s : State) (r : Requester) (k : Nat) (v : Bytes) (d : ObjDef) (o : OpResult) (s' : State) (h : s.takes r k v)
    (hk : k < 2 ^ 24) (hd : objDef k = some d) (h1 : d.acc ≠ .ro) (h2 : d.acc ≠ .rwc) (h3 : k ≠ 0x481004) (hq : k / 256 ≠ 0x6A00)
    (ho : s.opWrite r k v = (o, s'))
    (hs' : s' = { s with sys := { s.sys with entropyTaken := s'.sys.entropyTaken, free := s'.sys.free } }) (h4 : isRefusal o.status = false) :
    ∃ u msg, execWrite r k v s = .next (s'.stage u) ∧ u.effs = settleResponse r (overall [⟨o.status, k, []⟩]) msg o.effs ∧
      u.recs = o.recs ∧ u.cells = o.cells ∧ u.pairs = o.pairs ∧ u.need = .txn := by
  obtain ⟨hw, hr, hroom, hv, hm, hb, hs, d', hd', hc⟩ := h
  rw [hd] at hd'
  cases hd'
  have he := writeEntry_takes s r k v d hd h1 h2 hm hb hs hc h3 (by rw [ho]; exact h4)
  rw [ho] at he
  obtain ⟨body, hp⟩ := parse_item r k v hk hv
  have hrun := runEntries_one s r false k v v o s' hq he h4 (by intro h; cases h)
  have hov : (o.status == stOVERRUN) = false := by
    cases hx : o.status == stOVERRUN
    · rfl
    · rw [beq_iff_eq] at hx; rw [hx] at h4; exact absurd h4 (by decide)
  have htr : ∀ key body, s.transact key r false body [⟨true, k, v⟩] =
      some ((s.drawn (s.runEntries r false false 0 [⟨true, k, v⟩])).stage
        ((s.runEntries r false false 0 [⟨true, k, v⟩]).unit key r false [⟨true, k, v⟩] [] [])) := by
    intro key body
    unfold State.transact
    have hp : LEntry.protected ⟨true, k, v⟩ = false := by
      unfold LEntry.protected
      rw [hd]
      simpa using h2
    simp [hp, hrun, hov]
  have hdr : s.drawn (s.runEntries r false false 0 [⟨true, k, v⟩]) = s' := by
    rw [hrun]
    unfold State.drawn State.stage
    dsimp only
    rw [privately_sys]
    exact hs'.symm
  rw [hdr] at htr
  have ht : v.take 240 = v := List.take_of_length_le hv
  refine ⟨(s.runEntries r false false 0 [⟨true, k, v⟩]).unit (requestItem r [⟨true, k, v⟩]).key r false [⟨true, k, v⟩] [] [],
    response 2 (overall [⟨o.status, k, []⟩]) r.tag false [⟨o.status, k, []⟩], ?_, ?_⟩
  · unfold execWrite State.writeNow
    rw [if_pos hw, ht]
    congr 1
    unfold State.ledgerUnit
    dsimp only
    rw [requester_item r k v hr, hp]
    simp only [if_true, htr]
    cases hvv : r.via with
    | ring page ring pos gen addr cap =>
      have hc := Nat.not_lt.mpr (hroom _ _ _ _ _ _ hvv)
      simp only [hc, decide_false]
    | _ => rfl
  · rw [hrun]
    exact ⟨by simp [TxnRun.unit], rfl, rfl, rfl, rfl⟩

/-- A countersigned write that the check lets through carries its object's operation out, with the record of an applied change. -/
theorem writeEntry_signed (s : State) (r : Requester) (k : Nat) (v : Bytes) (d : ObjDef) (hd : objDef k = some d)
    (h2 : d.acc = .rwc) (h3 : s.maskOpen r k = true) (h4 : classBarred r k = false) (h5 : s.securityLegal k v = true)
    (h6 : s.clampSteps d k 0 v = some []) (h7 : s.holdBlocks = false) (h8 : isRefusal (s.opWrite r k v).1.status = false) :
    s.writeEntry r true k v =
      ({ (s.opWrite r k v).1 with recs := (s.opWrite r k v).1.recs ++ [s.recObj 0 k r.cls r.idx (shownValue k v)] }, v,
        (s.opWrite r k v).2) := by
  unfold State.writeEntry
  rw [hd]
  have hden : ¬ (s.opWrite r k v).1.status = stDENIED := by
    intro hx; rw [hx] at h8; exact absurd h8 (by decide)
  simp [h2, h3, h4, h5, h6, h7, State.writeProtected, hden, h8]

/-- A countersigned write that is let through, of an operation that draws nothing and is answered OK or PENDING: its in-flight entry
is opened, and one unit is staged with the operation's effects, the entry's end and the response. -/
theorem execCountersigned_takes (s : State) (r : Requester) (k : Nat) (v : Bytes) (o : OpResult) (pos : Nat)
    (hw : s.working = true) (hv : v.length ≤ 240) (hi : s.inflightSlot = some pos) (s1 : State)
    (hs1 : s1 = s.stage (plainUnit (requestItem r [⟨true, k, v⟩]).key [.inflight pos (s.newEntry 3 Config.proposalPhases 0 0 r)] []))
    (he : s1.writeEntry r true k v = (o, v, s1)) (hq : k / 256 ≠ 0x6A00) (h4 : isRefusal o.status = false)
    (hpr : LEntry.protected ⟨true, k, v⟩ = true) (h5 : o.status = stOK ∨ o.status = stPENDING) :
    ∃ u msg, execCountersigned r [(k, v)] s = .next (s.stage u) ∧
      u.effs = .inflight pos (s.newEntry 3 Config.proposalPhases 0 0 r) :: settleResponse r (overall [⟨o.status, k, []⟩]) msg
        (o.effs ++ [.inflight pos (s.closed { s.newEntry 3 Config.proposalPhases 0 0 r with phase := Config.proposalPhases } 2 stOK)]) ∧
      u.recs = o.recs ∧ u.cells = o.cells ∧ u.pairs = o.pairs := by
  have ht : v.take 240 = v := List.take_of_length_le hv
  have hrun := runEntries_one s1 r true k v v o s1 hq he h4 (fun _ => hpr)
  have hdr : s.drawn (s1.runEntries r true false 0 [⟨true, k, v⟩]) = s := by
    rw [hrun, hs1]
    unfold State.drawn State.stage
    dsimp only
    rw [privately_sys]
  have hbad : (s1.runEntries r true false 0 [⟨true, k, v⟩]).bad = false := by
    rw [hrun]
    rcases h5 with h | h <;> simp [TxnRun.bad, h, stOK, stPENDING]
  let w := (s1.runEntries r true false 0 [⟨true, k, v⟩]).unit (requestItem r [⟨true, k, v⟩]).key r false [⟨true, k, v⟩]
    (.inflight pos (s.closed { s.newEntry 3 Config.proposalPhases 0 0 r with phase := Config.proposalPhases } 2 stOK) :: []) []
  refine ⟨{ w with effs := .inflight pos (s.newEntry 3 Config.proposalPhases 0 0 r) :: w.effs },
    response 2 (overall [⟨o.status, k, []⟩]) r.tag false [⟨o.status, k, []⟩], ?_, ?_⟩
  · unfold execCountersigned
    simp only [List.map_cons, List.map_nil, ht, hw, hi, Bool.not_true, Bool.false_eq_true, if_false]
    congr 1
    unfold State.applyProtected
    dsimp only
    rw [← hs1, hbad, hdr]
    simp [w, State.newEntry]
  · simp only [w]
    rw [hrun]
    exact ⟨by simp [TxnRun.unit], rfl, rfl, rfl⟩

/-! ## The same in the terms of the statements -/

/-- No effect asks the slaves for standby, which alone withholds the response (R440). -/
def plainEffects (l : List Effect) : Bool := l.all fun e => match e with
  | .poleStandby (some _) => false
  | _ => true

/-- The response stands behind plain effects. -/
theorem settle_plain (r : Requester) (st : Nat) (m : Bytes) (l : List Effect) (h : plainEffects l = true) :
    settleResponse r st m l = l ++ [.respond r false st m] := by
  unfold settleResponse
  rw [if_neg]
  rw [List.any_eq_true]
  rintro ⟨e, he, hx⟩
  have hy := List.all_eq_true.1 h e he
  cases e with
  | poleStandby x => cases x with
    | none => exact absurd hx Bool.false_ne_true
    | some y => exact absurd hy Bool.false_ne_true
  | _ => exact absurd hx Bool.false_ne_true

/-- One write answered OK or PENDING: the transaction is answered so too. -/
theorem overall_one (st k : Nat) (h : st = stOK ∨ st = stPENDING) : overall [⟨st, k, []⟩] = st := by
  rcases h with rfl | rfl <;> rfl

/-- A write that is let through, of an operation with plain effects answered OK or PENDING that draws nothing. -/
theorem stages_write {c : Instr} (s : State) (r : Requester) (k : Nat) (v : Bytes) (d : ObjDef) (o : OpResult)
    (hx : exec c s = execWrite r k v s) (h : s.takes r k v) (hk : k < 2 ^ 24) (hd : objDef k = some d) (h1 : d.acc ≠ .ro)
    (h2 : d.acc ≠ .rwc) (h3 : k ≠ 0x481004) (hq : k / 256 ≠ 0x6A00) (ho : s.opWrite r k v = (o, s))
    (h5 : o.status = stOK ∨ o.status = stPENDING) (h6 : plainEffects o.effs = true) :
    Stages c s fun u => (∀ e ∈ o.effs, u.carries e) ∧ u.recs = o.recs ∧ u.cells = o.cells ∧ u.pairs = o.pairs ∧
      u.answers r o.status := by
  have h4 : isRefusal o.status = false := by rcases h5 with h | h <;> rw [h] <;> decide
  obtain ⟨u, msg, e1, e2, e3, e4, e5, -⟩ := execWrite_takes s r k v d o s h hk hd h1 h2 h3 hq ho rfl h4
  rw [settle_plain _ _ _ _ h6, overall_one _ _ h5] at e2
  exact ⟨u, hx.trans e1, fun e he => by rw [Staged.carries, e2]; exact List.mem_append_left _ he, e3, e4, e5, msg,
    by rw [e2]; exact List.mem_append_right _ (List.mem_singleton.2 rfl)⟩

/-- A countersigned write that is let through, of an operation with plain effects answered OK or PENDING that draws nothing. -/
theorem stages_signed {c : Instr} (s : State) (r : Requester) (k : Nat) (v : Bytes) (d : ObjDef) (o : OpResult) (pos : Nat) (s1 : State)
    (hx : exec c s = execCountersigned r [(k, v)] s) (h : s.takesSigned r k v pos)
    (hs1 : s1 = s.stage (plainUnit (requestItem r [⟨true, k, v⟩]).key [.inflight pos (s.newEntry 3 Config.proposalPhases 0 0 r)] []))
    (hd : objDef k = some d) (h2 : d.acc = .rwc) (hq : k / 256 ≠ 0x6A00) (ho : s1.opWrite r k v = (o, s1))
    (h5 : o.status = stOK ∨ o.status = stPENDING) (h6 : plainEffects o.effs = true)
    (hl : s1.securityLegal k v = s.securityLegal k v) (hc : s1.clampSteps d k 0 v = s.clampSteps d k 0 v)
    (hh : s1.holdBlocks = s.holdBlocks) :
    StagesSigned c s r pos fun u => (∀ e ∈ o.effs, u.carries e) ∧ u.cells = o.cells ∧ u.pairs = o.pairs ∧
      u.answers r o.status := by
  obtain ⟨hw, -, hv, hi, hm, hb, hsl, hhb, d', hd', hcs⟩ := h
  rw [hd] at hd'
  cases hd'
  have h4 : isRefusal o.status = false := by rcases h5 with h | h <;> rw [h] <;> decide
  have he := writeEntry_signed s1 r k v d hd h2 (by rw [hs1]; exact hm) hb (by rw [hl]; exact hsl) (by rw [hc]; exact hcs)
    (by rw [hh]; exact hhb) (by rw [ho]; exact h4)
  rw [ho] at he
  obtain ⟨u, msg, e1, e2, -, e4, e5⟩ := execCountersigned_takes s r k v _ pos hw hv hi s1 hs1 he hq h4
    (by unfold LEntry.protected; rw [hd]; simpa using h2) h5
  rw [settle_plain _ _ _ _ (by simpa [plainEffects] using h6), overall_one _ _ h5] at e2
  refine ⟨u, hx.trans e1, ⟨fun e he => ?_, e4, e5, msg, ?_⟩, ?_, ?_⟩
  · rw [Staged.carries, e2]; simp [he]
  · rw [e2]; simp
  · rw [Staged.carries, e2]; simp
  · rw [Staged.carries, e2]; simp

end Sys2Proof.Machine
end

