-- ==== Sys2Proof/Laws/Hash.lean ====
section
/-!
SUPPORT. Laws/Hash.lean: a SHA-256 digest has 32 bytes.
-/

namespace Sys2Proof.Machine

theorem shaRound_length (v : List Nat) (k : Nat × Nat) (h : v.length = 8) : (shaRound v k).length = 8 := by
  unfold shaRound
  split
  · rfl
  · exact h

theorem rounds_length (l : List (Nat × Nat)) (v : List Nat) (h : v.length = 8) : (l.foldl shaRound v).length = 8 := by
  induction l generalizing v with
  | nil => exact h
  | cons k l ih => exact ih _ (shaRound_length v k h)

theorem blocks_length (l : List (List Nat)) (v : List Nat) (h : v.length = 8) : (l.foldl shaBlock v).length = 8 := by
  induction l generalizing v with
  | nil => exact h
  | cons b l ih =>
    refine ih _ ?_
    simp [shaBlock, rounds_length _ _ h, h]

theorem sha256_length (m : Bytes) : (sha256 m).length = 32 := by
  unfold sha256
  simp [blocks_length _ shaH rfl]

end Sys2Proof.Machine
end

