-- ==== Sys2Proof/Laws/Store.lean ====
section
/-!
SUPPORT. Store.lean: what a read finds after a write, of the Ledger store, of register bits, of ring contexts and of the SRAM pool, and
that every operation on the pool keeps its canonical form (R101, R139, R147).
-/

namespace Sys2Proof.Machine

/-! ## The Ledger store -/

/-- Nothing is found at an erased key. -/
@[simp] theorem alookup_aerase {α : Type} (k : Nat) (l : List (Nat × α)) : alookup k (aerase k l) = none := by
  simp [alookup, aerase, List.find?_eq_none]

/-- An erased key leaves what every other key finds. -/
theorem alookup_aerase_ne {α : Type} (k j : Nat) (l : List (Nat × α)) (h : j ≠ k) : alookup j (aerase k l) = alookup j l := by
  unfold alookup aerase
  congr 1
  induction l with
  | nil => rfl
  | cons a l ih =>
    by_cases h1 : a.1 = k
    · have h2 : (a.1 == j) = false := by simpa [h1] using Ne.symm h
      rw [List.filter_cons_of_neg (by simp [h1]), List.find?_cons, h2]
      exact ih
    · rw [List.filter_cons_of_pos (by simpa using h1), List.find?_cons, List.find?_cons, ih]

/-- A Ledger value reads as it was stored. -/
@[simp] theorem raw_setRaw (s : State) (k : Nat) (v : Bytes) : (s.setRaw k v).raw k = v := by
  unfold State.raw State.setRaw
  dsimp only
  split
  · next h => simp [h]
  · simp

/-- Every other Ledger value stands. -/
theorem raw_setRaw_ne (s : State) (k j : Nat) (v : Bytes) (h : j ≠ k) : (s.setRaw k v).raw j = s.raw j := by
  unfold State.raw State.setRaw
  dsimp only
  split
  · rw [alookup_aerase_ne _ _ _ h]
  · rw [alookup_ainsert_ne _ _ _ _ h]

/-! ## Bits -/

/-- The bits of a number put together from what stands above a bit, the bit, and what stands below it. -/
theorem testBit_mid (a b n i : Nat) (c : Bool) (h : b < 2 ^ n) :
    (2 ^ n * (2 * a + b2n c) + b).testBit i = if i = n then c else (2 ^ n * (2 * a) + b).testBit i := by
  rw [Nat.two_pow_add_eq_or_of_lt h, Nat.two_pow_add_eq_or_of_lt h, Nat.testBit_or, Nat.testBit_or, Nat.testBit_two_pow_mul,
    Nat.testBit_two_pow_mul]
  split
  · next e =>
    subst e
    rw [Nat.testBit_lt_two_pow h]
    cases c <;> simp [b2n]
  · next e =>
    by_cases g : n ≤ i
    · obtain ⟨k, rfl⟩ : ∃ k, i = n + (k + 1) := ⟨i - n - 1, by omega⟩
      have : n + (k + 1) - n = k + 1 := by omega
      rw [this]
      cases c <;> simp [b2n, Nat.testBit_succ, Nat.mul_add_div]
    · simp [g]

/-- A bit set or cleared reads as written, and every other bit stands. -/
theorem testBit_setBit (v n i : Nat) (b : Bool) : (setBit v n b).testBit i = if i = n then b else v.testBit i := by
  have hb : v % 2 ^ n < 2 ^ n := Nat.mod_lt _ (Nat.two_pow_pos n)
  have hv : v = 2 ^ n * (2 * (v / 2 ^ n / 2) + b2n (v.testBit n)) + v % 2 ^ n := by
    have h1 := Nat.div_add_mod v (2 ^ n)
    have h2 : 2 * (v / 2 ^ n / 2) + b2n (v.testBit n) = v / 2 ^ n := by
      have h3 : b2n (v.testBit n) = v / 2 ^ n % 2 := by
        rw [Nat.testBit_eq_decide_div_mod_eq]
        rcases Nat.mod_two_eq_zero_or_one (v / 2 ^ n) with h | h <;> simp [b2n, h]
      omega
    rw [h2]; exact h1.symm
  have key : setBit v n b = 2 ^ n * (2 * (v / 2 ^ n / 2) + b2n b) + v % 2 ^ n := by
    generalize v / 2 ^ n / 2 = a at hv ⊢
    generalize v % 2 ^ n = r at hv ⊢
    have hm : 2 ^ n * (2 * a + 1) = 2 ^ n * (2 * a) + 2 ^ n := by rw [Nat.mul_add, Nat.mul_one]
    unfold setBit
    cases b <;> cases hc : v.testBit n <;> simp [hc, b2n] at hv ⊢ <;> omega
  rw [key, testBit_mid _ _ _ _ _ hb]
  split
  · rfl
  · next e =>
    have h4 := testBit_mid (v / 2 ^ n / 2) (v % 2 ^ n) n i (v.testBit n) hb
    rw [if_neg e, ← hv] at h4
    exact h4.symm

/-! ## Ring contexts -/

/-- A ring context reads as it was stored. -/
theorem ring_setRing (s : State) (r : Ring) : (s.setRing r).ring r.page r.num = r := by
  have key : ∀ l : List Ring, (putRing r l).find? (fun q => q.page == r.page && q.num == r.num) = some r := by
    intro l
    induction l with
    | nil => simp [putRing]
    | cons q l ih =>
      unfold putRing
      split
      · simp
      · split
        · simp
        · next h1 h2 =>
          have : (q.page == r.page && q.num == r.num) = false := by
            rw [Bool.and_eq_false_iff]
            by_contra hc
            simp only [not_or, Bool.not_eq_false, beq_iff_eq] at hc
            exact h2 (by simp [Ring.ord, hc.1, hc.2])
          rw [List.find?_cons, this]
          exact ih
  simp [State.ring, State.setRing, key]

/-- The context read for a page and a number carries that page and number. -/
theorem ring_names (s : State) (p n : Nat) : (s.ring p n).page = p ∧ (s.ring p n).num = n := by
  unfold State.ring
  cases h : s.host.rings.find? fun r => r.page == p && r.num == n with
  | none => simp
  | some r => simpa using List.find?_some h

/-! ## The SRAM pool -/

/-- A cell list in canonical form has its addresses rising and no zero byte. -/
theorem wf_cons (c : Host.Cell) (m : List Host.Cell) :
    Memory.wf (c :: m) = true ↔ c.2 ≠ 0 ∧ (∀ d ∈ m.head?, c.1 < d.1) ∧ Memory.wf m = true := by
  cases m with
  | nil => simp [Memory.wf]
  | cons d r => simp [Memory.wf, and_assoc]

/-- Every address of a canonical list beyond its first is greater. -/
theorem wf_lt (c : Host.Cell) (m : List Host.Cell) (h : Memory.wf (c :: m) = true) : ∀ d ∈ m, c.1 < d.1 := by
  induction m generalizing c with
  | nil => simp
  | cons e r ih =>
    have h1 := (wf_cons c (e :: r)).mp h
    intro d hd
    rcases List.mem_cons.mp hd with rfl | hd
    · exact h1.2.1 d rfl
    · exact Nat.lt_trans (h1.2.1 e rfl) (ih e h1.2.2 d hd)

/-- What stands at the head of a written list is the address written or the old head. -/
theorem write_head (m : List Host.Cell) (a : Nat) (v : Byte) (x : Nat) (hx : x < a) (h : ∀ d ∈ m, x < d.1) :
    ∀ d ∈ Memory.write m a v, x < d.1 := by
  induction m with
  | nil => intro d hd; unfold Memory.write at hd; split at hd <;> simp_all
  | cons c r ih =>
    intro d hd
    unfold Memory.write at hd
    have hc := h c (by simp)
    have hr : ∀ d ∈ r, x < d.1 := fun d hd => h d (by simp [hd])
    split at hd
    · split at hd
      · exact h d hd
      · rcases List.mem_cons.mp hd with rfl | hd
        · exact hx
        · exact h d hd
    · split at hd
      · split at hd
        · exact hr d hd
        · rcases List.mem_cons.mp hd with rfl | hd
          · exact hx
          · exact hr d hd
      · rcases List.mem_cons.mp hd with rfl | hd
        · exact hc
        · exact ih hr d hd

/-- A canonical list from its parts. -/
theorem wf_of_lt (c : Host.Cell) (m : List Host.Cell) (h0 : c.2 ≠ 0) (h1 : ∀ d ∈ m, c.1 < d.1) (h2 : Memory.wf m = true) :
    Memory.wf (c :: m) = true :=
  (wf_cons c m).mpr ⟨h0, fun d hd => h1 d (List.mem_of_mem_head? hd), h2⟩

/-- The tail of a canonical list is canonical. -/
theorem wf_tail (c : Host.Cell) (m : List Host.Cell) (h : Memory.wf (c :: m) = true) : Memory.wf m = true :=
  ((wf_cons c m).mp h).2.2

/-- A byte written keeps the canonical form. -/
theorem wf_write (m : List Host.Cell) (a : Nat) (v : Byte) (h : Memory.wf m = true) : Memory.wf (Memory.write m a v) = true := by
  induction m with
  | nil =>
    unfold Memory.write
    split
    · exact h
    · next hv => simpa [Memory.wf] using hv
  | cons c r ih =>
    unfold Memory.write
    split
    · next ha =>
      split
      · exact h
      · next hv => exact wf_of_lt _ _ hv (by
          intro d hd
          rcases List.mem_cons.mp hd with rfl | hd
          · exact ha
          · exact Nat.lt_trans ha (wf_lt c r h d hd)) h
    · next ha =>
      split
      · next he =>
        split
        · exact wf_tail c r h
        · next hv => exact wf_of_lt _ _ hv (fun d hd => he ▸ wf_lt c r h d hd) (wf_tail c r h)
      · next he =>
        exact wf_of_lt _ _ ((wf_cons c r).mp h).1 (write_head r a v c.1 (by omega) (wf_lt c r h)) (ih (wf_tail c r h))

/-- A pool with cells left out keeps the canonical form. -/
theorem wf_filter (m : List Host.Cell) (f : Host.Cell → Bool) (h : Memory.wf m = true) : Memory.wf (m.filter f) = true := by
  induction m with
  | nil => exact h
  | cons c r ih =>
    rw [List.filter_cons]
    split
    · exact wf_of_lt _ _ ((wf_cons c r).mp h).1 (fun d hd => wf_lt c r h d (List.mem_of_mem_filter hd)) (ih (wf_tail c r h))
    · exact ih (wf_tail c r h)

/-- A granule cleared keeps the canonical form. -/
theorem wf_clearGranule (m : List Host.Cell) (g : Nat) (h : Memory.wf m = true) : Memory.wf (Memory.clearGranule m g) = true :=
  wf_filter m _ h

/-- Bytes written to the pool keep the canonical form. -/
theorem wf_memWrite (s : State) (a : Nat) (b : Bytes) (h : Memory.wf s.mem = true) : Memory.wf (s.memWrite a b).mem = true := by
  show Memory.wf (b.zipIdx.foldl _ s.mem) = true
  generalize b.zipIdx = l
  generalize s.mem = m at h
  induction l generalizing m with
  | nil => exact h
  | cons x l ih =>
    rw [List.foldl_cons]
    apply ih
    split
    · exact wf_write m _ _ h
    · exact h

/-- An address below every listed one reads as zero. -/
theorem read_below (m : List Host.Cell) (a : Nat) (h : ∀ d ∈ m, a < d.1) : Memory.read m a = 0 := by
  have : alookup a m = none := by
    unfold alookup
    rw [Option.map_eq_none_iff, List.find?_eq_none]
    intro d hd
    have := h d hd
    simp; omega
  simp [Memory.read, this]

/-- A byte reads as it was written, and every other byte stands, in a canonical pool. -/
theorem read_write (m : List Host.Cell) (a b : Nat) (v : Byte) (h : Memory.wf m = true) :
    Memory.read (Memory.write m a v) b = if b = a then v else Memory.read m b := by
  have rc : ∀ (c : Host.Cell) (r : List Host.Cell) (x : Nat), Memory.read (c :: r) x = if c.1 = x then c.2 else Memory.read r x := by
    intro c r x
    unfold Memory.read alookup
    rw [List.find?_cons]
    by_cases hx : c.1 = x
    · simp [hx]
    · rw [beq_eq_false_iff_ne.mpr hx, if_neg hx]
  induction m with
  | nil =>
    unfold Memory.write
    split
    · next hv => split <;> simp [Memory.read, alookup, hv]
    · rw [rc]
      by_cases hb : b = a
      · simp [hb]
      · simp [hb, Ne.symm hb]
  | cons c r ih =>
    have hlt := wf_lt c r h
    unfold Memory.write
    split
    · next ha =>
      have low : ∀ d ∈ c :: r, a < d.1 := by
        intro d hd
        rcases List.mem_cons.mp hd with rfl | hd
        · exact ha
        · exact Nat.lt_trans ha (hlt d hd)
      split
      · next hv =>
        split
        · next hb => rw [hb, read_below _ _ low, hv]
        · rfl
      · rw [rc]
        by_cases hb : b = a
        · simp [hb]
        · simp [hb, Ne.symm hb]
    · split
      · next he =>
        split
        · next hv =>
          split
          · next hb => rw [hb, read_below r a (fun d hd => he ▸ hlt d hd), hv]
          · next hb => rw [rc, if_neg (by omega)]
        · rw [rc, rc]
          by_cases hb : b = a
          · simp [hb]
          · simp [hb, Ne.symm hb, show ¬ c.1 = b by omega]
      · next h1 h2 =>
        rw [rc, rc, ih (wf_tail c r h)]
        by_cases hc : c.1 = b
        · simp [hc, show ¬ b = a by omega]
        · simp [hc]

end Sys2Proof.Machine
end

