-- ==== Sys2Proof/WellFormed.lean ====
section
/-!
DEFINITION. WellFormed.lean: commands whose operands fit what the block's surroundings can give: numbers within the widths of the
fields they fill, byte strings no longer than a host-port burst. The model gives a meaning to every command, well formed or not.
-/

namespace Sys2Proof

/-- A number below a bound. -/
def fits (n bound : Nat) : Bool := decide (n < bound)

/-- A signed number of 32 bits. -/
def near (x : Int) : Bool := decide (-2 ^ 31 ≤ x) && decide (x < 2 ^ 31)

/-- A byte string of at most 2,058 bytes, the longest message (R116). -/
def short (b : Bytes) : Bool := decide (b.length ≤ 2058)

/-- A requester of classes 0 to 4, its index and TAG within their fields (R100, R116). -/
def Requester.wf (r : Requester) : Bool := fits r.cls 5 && fits r.idx 256 && fits r.tag 65536

/-- A received Ridgeline copy of at most 2,058 bytes. -/
def RidgeRx.wf (x : RidgeRx) : Bool := short x.frame && near x.sof

/-- Operands within their fields. -/
def wellFormed : Instr → Bool
  | .strokeBoundary ref _ => fits ref 65536
  | .gatherClose _ _ corrected bad _ => fits corrected 65536 && bad.all (fits · 65536)
  | .unitReRun => true
  | .workDeadline vhold _ finish _ => fits vhold 6001 && fits finish 65536
  | .clockCheckWindow count => fits count (2 ^ 32)
  | .powerOnReset pages => fits pages 16
  | .aoRelease cascId bootOpt _ => fits cascId 8 && fits bootOpt 4
  | .firstStroke vhold => fits vhold 6001
  | .vholdTimeout vhold => fits vhold 6001
  | .ckAoCrystalStable => true
  | .blotterEstimate uf => fits uf 65536
  | .vdd3BrownOut cut => cut.all (fits · (2 ^ 48))
  | .regulatorFailure cut => cut.all (fits · (2 ^ 48))
  | .aoBrownOut => true
  | .resetN => true
  | .brownOutWarning => true
  | .brownOutWarningEnd => true
  | .vlfUndervoltage bank => fits bank 2
  | .vlfOvervoltage bank => fits bank 2
  | .vlfRelease bank => fits bank 2
  | .domainEnable r v => r.wf && short v
  | .domainReady n _ => fits n 256
  | .subsystemReset r v => r.wf && short v
  | .watchdog => true
  | .coreFault _ => true
  | .coreReset => true
  | .guyLatchUpset fld copy => fits fld 2 && fits copy 3
  | .feedLatchOffClear => true
  | .standbyRequest r v => r.wf && short v
  | .standbyIdle => true
  | .wake source => fits source 64
  | .strapChange levels => fits levels 64
  | .extest => true
  | .samplePreload _ _ => true
  | .selfTestRun => true
  | .selfTestResult => true
  | .bypass => true
  | .selfTestDone results => fits results 32
  | .ledgerTransaction => true
  | .transactionDeferred => true
  | .segmentReassemblyTimeout src => fits src 512
  | .readSingleLane cmd => short cmd
  | .readQuad cmd => short cmd
  | .writeSingleLane cmd data => short cmd && short data
  | .writeQuad cmd data => short cmd && short data
  | .probe cmd => short cmd
  | .registerWrite page off v => fits page 65 && fits off 4096 && fits v (2 ^ 32)
  | .irqCauseClear page v => fits page 65 && fits v (2 ^ 32)
  | .ringIrqStatusClear page w v => fits page 65 && fits w 4 && fits v (2 ^ 32)
  | .tenantViolatedClear w v => fits w 4 && fits v (2 ^ 32)
  | .tenantReset v => fits v (2 ^ 32)
  | .tenantResetComplete t => fits t 64
  | .tenantEnable r v => r.wf && short v
  | .coreResetRequest v => fits v (2 ^ 32)
  | .ringEnable page v => fits page 65 && fits v (2 ^ 32)
  | .ringDisable page v => fits page 65 && fits v (2 ^ 32)
  | .ringDrained page ring => fits page 65 && fits ring 128
  | .hostIdxWrite page ring v => fits page 65 && fits ring 128 && fits v (2 ^ 32)
  | .granuleOwnerChange r n v => r.wf && fits n 256 && short v
  | .ringQuota r quotas => r.wf && (quotas.all fun q => fits q.1 65 && fits q.2 256)
  | .regrantMoved => true
  | .qpGo page v => fits page 65 && fits v (2 ^ 32)
  | .bootLoadWindowClose => true
  | .scrubVisit weak => weak.all (fits · 65536)
  | .scrubRewrite still => still.all (fits · 65536)
  | .pageRetirement bad => fits bad 33
  | .cbcEncrypt lane => fits lane 4
  | .cbcDecrypt lane => fits lane 4
  | .ctr lane => fits lane 4
  | .gcmEncrypt lane => fits lane 4
  | .gcmDecryptAndVerify lane => fits lane 4
  | .ccmEncrypt lane => fits lane 4
  | .ccmDecryptAndVerify lane => fits lane 4
  | .cmacGenerate lane => fits lane 4
  | .cmacVerify lane => fits lane 4
  | .keyDerivation lane => fits lane 4
  | .quillCompletion lane => fits lane 4
  | .parityFault lane => fits lane 4
  | .entropyFault => true
  | .drbgReseed => true
  | .keyLoad r v => r.wf && short v
  | .keyLoadProtected r v => r.wf && short v
  | .keyErase r v => r.wf && short v
  | .keyInstall => true
  | .keySettled pos => fits pos 16
  | .lfActivityStart => true
  | .lfBurstEnd current phase _ _ => fits current 65536 && near phase
  | .lfDriverFault ch kind => fits ch 8 && fits kind 256
  | .thermalRelease ch => fits ch 8
  | .regulatoryWindow => true
  | .lfCarrierChange => true
  | .lfChannelClear r n v => r.wf && fits n 256 && short v
  | .cradleUplink rx current phase => short rx && fits current 65536 && near phase
  | .cradleUplinkTimeout current phase => fits current 65536 && near phase
  | .handleScan m0 m1 m2 m3 => fits m0 65536 && fits m1 65536 && fits m2 65536 && fits m3 65536
  | .hsStuck ch => fits ch 8
  | .radioWake radio => fits radio 2
  | .radioActivityStart _ => true
  | .radioActivityEnd radio kind quality stamps fp rx => fits radio 2 && fits kind 256 && fits quality 256 && short stamps && near fp && near rx
  | .packetReceived rx rssi off => short rx && near rssi && near off
  | .radioSleep radio => fits radio 2
  | .calibration n temp => fits n 256 && near temp
  | .calStale n => fits n 256
  | .sniffWindow _ => true
  | .coexGntLost => true
  | .pollStart => true
  | .startRequest r v => r.wf && short v
  | .wakeListenEnd => true
  | .responseGathered => true
  | .decision => true
  | .lockoutWindowClose => true
  | .lockoutSecondServed => true
  | .lockoutClear r v => r.wf && short v
  | .heldTelegramExpiry slot => fits slot 256
  | .learnRecord r n v => r.wf && fits n 256 && short v
  | .learnRecordClear r v => r.wf && short v
  | .learnStart r v => r.wf && short v
  | .learnStage => true
  | .learnVerify => true
  | .learnPhaseCommit => true
  | .learnScrub => true
  | .learnDone => true
  | .learnSlaveTimeout n => fits n 256
  | .learnHoldTimeout => true
  | .csAuth r v => r.wf && short v
  | .csTokenAuth r v => r.wf && short v
  | .authentication => true
  | .proposalExpiry num => fits num 65536
  | .protectionSeal r v => r.wf && short v
  | .debugUnlock r v => r.wf && short v
  | .debugUnlockExpiry => true
  | .commissionStart r v => r.wf && short v
  | .feedEnable => true
  | .feedStartDelay => true
  | .switchingBegins track => fits track 65536
  | .rampComplete => true
  | .pgDelay => true
  | .pgDrop => true
  | .feedDisable => true
  | .stopComplete => true
  | .undervoltageEvent => true
  | .startTimeout => true
  | .hiccupOffEnd => true
  | .hiccupCountReset => true
  | .feedFaultClear r v => r.wf && short v
  | .feedLock f => fits f (2 ^ 32)
  | .syncInLoss => true
  | .relock f => fits f (2 ^ 32)
  | .loadStep ready => fits ready 256
  | .loadStepRearm => true
  | .feedConfigApply => true
  | .status seq ref => fits seq 65536 && fits ref 65536
  | .setVid seq vid slew ref => fits seq 65536 && fits vid 256 && fits slew 256 && fits ref 65536
  | .feedlineUnknownCmd cmd seq slew ref => fits cmd 256 && fits seq 65536 && fits slew 256 && fits ref 65536
  | .feedlineCrcError => true
  | .exchangeCut clocks => fits clocks 256
  | .transitionEnd => true
  | .ackSet ref => fits ref 65536
  | .feedlineLost ref => fits ref 65536
  | .releaseFeedEnable => true
  | .releaseOutputs => true
  | .releaseTimeout => true
  | .ignitionOff r v => r.wf && short v
  | .frameReceived slot a b => fits slot 256 && a.all RidgeRx.wf && b.all RidgeRx.wf
  | .frameSend fid overlaps => fits fid 2048 && fits overlaps 256
  | .voteFrame => true
  | .minislot win heard _ => fits win 256 && (heard.all fun q => fits q.1 2048)
  | .clockCorrection offset => near offset
  | .listenTimeout => true
  | .coldstartFrame => true
  | .coldstartComplete => true
  | .lossOfSynchronisation => true
  | .lineBreak input => fits input 4
  | .wrap => true
  | .sideRestore side => fits side 2
  | .guardianTrip => true
  | .babble side kind source hops => fits side 2 && fits kind 256 && fits source 64 && fits hops 256
  | .frameVerified => true
  | .scheduleDecision => true
  | .scheduleSwitch => true
  | .scheduleAdoption => true
  | .ridgeIsolate r v => r.wf && short v
  | .ridgeRequest r v => r.wf && short v
  | .ridgeGuardClear r v => r.wf && short v
  | .canFrameReceived k flags id data => fits k 2 && fits flags 256 && fits id (2 ^ 29) && short data
  | .canFrameSent k => fits k 2
  | .txLifetimeExpiry k => fits k 2
  | .errorStateChange k tec rec => fits k 2 && fits tec 65536 && fits rec 65536
  | .busOff k => fits k 2
  | .busOffHoldExpiry k => fits k 2
  | .canRecover r n v => r.wf && fits n 256 && short v
  | .recoveryComplete k => fits k 2
  | .protocolException k => fits k 2
  | .markerReceived marker arrival => short marker && near arrival
  | .echo => true
  | .echoReply => true
  | .echoReplyReceived rtt => fits rtt (2 ^ 32)
  | .discover => true
  | .hello source payload _ => fits source 64 && short payload
  | .poleAdmit payload _ => short payload
  | .admissionEffective => true
  | .refuse reason => fits reason 256
  | .refuseRetry => true
  | .secondMaster => true
  | .slaveFirstStroke marker => marker.all (fits · (2 ^ 48))
  | .lfSchedule payload _ => short payload
  | .radioList payload _ => short payload
  | .abortActivity which => fits which 4
  | .keyContext payload => short payload
  | .learnPage payload => short payload
  | .learnCommit digest => short digest
  | .standbyFrame => true
  | .relay prot msg => fits prot 2 && short msg
  | .poleItem source cls idx seq val due _ => fits source 64 && fits cls 16 && fits idx 256 && fits seq 65536 && short val && fits due (2 ^ 48)
  | .poleStatus source payload => fits source 64 && short payload
  | .learnReport source v => fits source 64 && fits v (2 ^ 32)
  | .standbyReply source status => fits source 64 && fits status 256
  | .relayResponse source msg => fits source 64 && short msg
  | .standbyReplyTimeout => true
  | .slaveLost n => fits n 256
  | .slaveStranded => true
  | .poleRelay r n v => r.wf && fits n 256 && short v
  | .poleRelayProtected r n v => r.wf && fits n 256 && short v
  | .relayTimeout n => fits n 256
  | .exportSelection => true
  | .exportDelivery => true
  | .folioAck r v => r.wf && short v
  | .ackTimeout stream => fits stream 16
  | .folioNote r n v => r.wf && fits n 256 && short v
  | .imageActivate r v => r.wf && short v
  | .activationCopy => true
  | .activationVerified => true
  | .activationSealed => true
  | .activationCommitted => true
  | .pllLossOfLock => true
  | .pllRelock => true
  | .supervisionLoss side => fits side 2
  | .symbolSyncLoss input => fits input 4
  | .symbolSyncRegain input => fits input 4
  | .canIntegrationComplete k => fits k 2
  | .activationHoldTimeout => true

end Sys2Proof
end

