-- ==== Sys2Proof/Tests/Slice0.lean ====
section
/-!
SUPPORT. Slice0.lean: tests of the model against values the spec and the standards it names give, the ill-formed commands, and for each
hypothesis of a statement a state that meets it (wit_<statement>_<clause>).
-/

set_option Elab.async false

namespace Sys2Proof.Tests

open Sys2Proof.Machine

/-- A small state: powered up, every domain on, in a phase. -/
def st (p : Power) (ph : Phase) : State :=
  { State.reset with sys := { Sys.reset with power := p, phase := ph, domains := 0x3FFF } }
/-- A slave admitted to its master. -/
def slave : State :=
  { st .running .work with
    sys := { (st .running .work).sys with cascId := 1 }, pole := { Pole.reset with self := { Pole.reset.self with admitted := true } } }
/-- A requester: firmware, or the global page with no ring. -/
def hostR : Requester := ⟨0, 64, .none, 7⟩

theorem acc0 : RegAccess (st .running .work) 0 := ⟨by decide, nofun, by decide, fun h => absurd rfl h⟩

abbrev work : State := st .running .work

/-! ## Values the spec or a standard gives -/

/-- "123456789" in ASCII. -/
def digits : Bytes := [0x31, 0x32, 0x33, 0x34, 0x35, 0x36, 0x37, 0x38, 0x39]

/-- Check values of R118, and of R163 and R362. -/
theorem test_crc_check_values : crc16 digits = 0x29B1 ∧ crc32 digits = 0xCBF43926 := by decide +kernel

/-- FIPS 180-4, example "abc". -/
theorem test_sha256_abc : sha256 [0x61, 0x62, 0x63] =
    [0xba, 0x78, 0x16, 0xbf, 0x8f, 0x01, 0xcf, 0xea, 0x41, 0x41, 0x40, 0xde, 0x5d, 0xae, 0x22, 0x23, 0xb0, 0x03, 0x61, 0xa3, 0x96, 0x17, 0x7a, 0x9c,
      0xb4, 0x10, 0xff, 0x61, 0xf2, 0x00, 0x15, 0xad] := by decide +kernel

/-- FIPS 197, example of AES-128. -/
theorem test_aes_fips197 : aesEnc [0x00, 0x01, 0x02, 0x03, 0x04, 0x05, 0x06, 0x07, 0x08, 0x09, 0x0a, 0x0b, 0x0c, 0x0d, 0x0e, 0x0f]
    [0x00, 0x11, 0x22, 0x33, 0x44, 0x55, 0x66, 0x77, 0x88, 0x99, 0xaa, 0xbb, 0xcc, 0xdd, 0xee, 0xff] =
    [0x69, 0xc4, 0xe0, 0xd8, 0x6a, 0x7b, 0x04, 0x30, 0xd8, 0xcd, 0xb7, 0x80, 0x70, 0xb4, 0xc5, 0x5a] := by decide +kernel

/-- RFC 4493, example 2. -/
theorem test_cmac_rfc4493 : cmac [0x2b, 0x7e, 0x15, 0x16, 0x28, 0xae, 0xd2, 0xa6, 0xab, 0xf7, 0x15, 0x88, 0x09, 0xcf, 0x4f, 0x3c]
    [0x6b, 0xc1, 0xbe, 0xe2, 0x2e, 0x40, 0x9f, 0x96, 0xe9, 0x3d, 0x7e, 0x11, 0x73, 0x93, 0x17, 0x2a] =
    [0x07, 0x0a, 0x16, 0xb4, 0x6b, 0x4d, 0x41, 0x44, 0xf7, 0x9b, 0xdd, 0x9d, 0xd0, 0x4a, 0x28, 0x7c] := by decide +kernel

/-! ## The worked cases of the spec -/

/-- The master of the Ferrule car with the objects its worked cases name (chapter 23). -/
def ferrule : State :=
  { work with objs := [(0x280003, beBytes 4 868300000), (0x280005, beBytes 4 38400), (0x280008, [4]), (0x2C0001, [0, 0, 0xF0, 0x27]),
    (0x201001, [0x20, 0x1F, 2, 5] ++ zeros 48), (0x2C1802, beBytes 2 16450), (0x500003, [12]), (0x500004, beBytes 2 1850)] }

/-- Chapter 11, worked case: challenge and response lengths in bits; the challenge starts at h+21 and 450 µs, the response stroke is h+41. -/
theorem test_ferrule_plan : ferrule.packetBits 30 = 328 ∧ ferrule.packetBits 38 = 392 ∧ (ferrule.plan 0).1 = 10 * 20450 ∧
    ferrule.responseStroke 0 0 = 41 := by decide +kernel

/-- Chapter 11, worked case: the LF payload 03 45 9C 3E, the field magnitude 151 of axes 148, 141 and 120, and 82 cm from the left door's
anchor; ACCESS_EVENT 01 01 20 00 00 00 00 00. -/
theorem test_ferrule_entry : lfPayload 3 (ferrule.raw 0x201001) [0x9C, 0x3E] = [0x03, 0x45, 0x9C, 0x3E] ∧ fieldMagnitude 148 141 120 = 151 ∧
    ferrule.distance 0x20 (uwbItem 0 0 0 0 100 (beBytes 5 0 ++ beBytes 5 12796473 ++ beBytes 5 0 ++ beBytes 5 (12796473 + 22364428)) 0 0) = some 82 ∧
    accessEvent 1 1 0x20 = [1, 1, 0x20, 0, 0, 0, 0, 0] := by decide +kernel

/-- Chapter 15, worked case: slot times of 36.85 and 46.85 µs, three minislots for 64 bytes, and the header of the master's frame. -/
theorem test_ferrule_ring : ferrule.slotNs 12 true = 36850 ∧ ferrule.slotNs 32 true = 46850 ∧ ferrule.miniK 30 64 true = 3 ∧
    frameHeader 0 5 true 23 6 32 = [0x05, 0x80, 0x17, 0x06, 0x20] := by decide +kernel

/-- Chapter 19, worked case: units of the five parts of a decision, and the cycles of the first block's seal. -/
theorem test_ferrule_folio : [144, 208, 183, 200, 119].map recUnits = [11, 15, 14, 15, 10] ∧ quillCycles 4 16 52 880 0 = 7212 ∧
    quillCycles 4 16 52 160 0 = 1632 := by decide +kernel

/-- Chapter 5, worked case: the laptop's transaction, its values clamped to 10 s and 32 strokes; the answer's header and write results. -/
def laptopMsg : Bytes :=
  let b : Bytes := [0x11, 0, 0, 0x42, 0, 0x12, 3, 1, 2, 0x12, 0, 0x0A, 2, 0, 5, 2, 0x12, 0, 0x14, 1, 0x28, 1, 0x11, 0, 0x0C, 0]
  b ++ beBytes 2 (crc16 b)

/-- The transaction's entries. -/
def laptopEntries : List LEntry := [⟨true, 0x12000A, [0, 5]⟩, ⟨true, 0x120014, [0x28]⟩, ⟨false, 0x11000C, []⟩]

theorem test_laptop_request : parseRequest laptopMsg = .request true (slice laptopMsg 8 18) laptopEntries := by decide +kernel

theorem test_laptop_clamped : (work.runEntries ⟨2, 0, .can 0 1, 0x42⟩ false true 0 (laptopEntries.take 2)).results =
    [⟨3, 0x12000A, [0, 0x0A]⟩, ⟨3, 0x120014, [0x20]⟩] := by decide +kernel

/-- Chapter 5, worked case: the answer of 70 bytes goes in segments with controls 0x80 and 0x41, of 63 and 7 message bytes. -/
theorem test_laptop_segments : (segments 63 (zeros 70)).map (fun x => (byteAt x 0, x.length)) = [(0x80, 64), (0x41, 8)] := by decide +kernel

/-! ## Ill-formed commands: one term for each operand check -/

/-- A byte string one longer than any message, and a requester that is well formed. -/
def long : Bytes := zeros 2059
def q0 : Requester := ⟨0, 0, .none, 0⟩

def illFormed0 : List Instr :=
  [.strokeBoundary 65536 false,
    .gatherClose false false 65536 [] false,
    .gatherClose false false 0 [65536] false,
    .workDeadline 6001 false 0 false,
    .workDeadline 0 false 65536 false,
    .clockCheckWindow (2 ^ 32),
    .powerOnReset 16,
    .aoRelease 8 0 false,
    .aoRelease 0 4 false,
    .firstStroke 6001,
    .vholdTimeout 6001,
    .blotterEstimate 65536,
    .vdd3BrownOut (some (2 ^ 48)),
    .regulatorFailure (some (2 ^ 48)),
    .vlfUndervoltage 2,
    .vlfOvervoltage 2,
    .vlfRelease 2,
    .domainEnable ⟨5, 0, .none, 0⟩ [],
    .domainEnable q0 long,
    .domainReady 256 false,
    .subsystemReset ⟨5, 0, .none, 0⟩ [],
    .subsystemReset q0 long,
    .guyLatchUpset 2 0,
    .guyLatchUpset 0 3,
    .standbyRequest ⟨5, 0, .none, 0⟩ [],
    .standbyRequest q0 long,
    .wake 64,
    .strapChange 64,
    .selfTestDone 32,
    .segmentReassemblyTimeout 512,
    .readSingleLane long,
    .readQuad long,
    .writeSingleLane long [],
    .writeSingleLane [] long,
    .writeQuad long [],
    .writeQuad [] long,
    .probe long,
    .registerWrite 65 0 0,
    .registerWrite 0 4096 0,
    .registerWrite 0 0 (2 ^ 32)]

def illFormed1 : List Instr :=
  [.irqCauseClear 65 0,
    .irqCauseClear 0 (2 ^ 32),
    .ringIrqStatusClear 65 0 0,
    .ringIrqStatusClear 0 4 0,
    .ringIrqStatusClear 0 0 (2 ^ 32),
    .tenantViolatedClear 4 0,
    .tenantViolatedClear 0 (2 ^ 32),
    .tenantReset (2 ^ 32),
    .tenantResetComplete 64,
    .tenantEnable ⟨5, 0, .none, 0⟩ [],
    .tenantEnable q0 long,
    .coreResetRequest (2 ^ 32),
    .ringEnable 65 0,
    .ringEnable 0 (2 ^ 32),
    .ringDisable 65 0,
    .ringDisable 0 (2 ^ 32),
    .ringDrained 65 0,
    .ringDrained 0 128,
    .hostIdxWrite 65 0 0,
    .hostIdxWrite 0 128 0,
    .hostIdxWrite 0 0 (2 ^ 32),
    .granuleOwnerChange ⟨5, 0, .none, 0⟩ 0 [],
    .granuleOwnerChange q0 256 [],
    .granuleOwnerChange q0 0 long,
    .ringQuota ⟨5, 0, .none, 0⟩ [],
    .ringQuota q0 [(65, 0)],
    .ringQuota q0 [(0, 256)],
    .qpGo 65 0,
    .qpGo 0 (2 ^ 32),
    .scrubVisit [65536],
    .scrubRewrite [65536],
    .pageRetirement 33,
    .cbcEncrypt 4,
    .cbcDecrypt 4,
    .ctr 4,
    .gcmEncrypt 4,
    .gcmDecryptAndVerify 4,
    .ccmEncrypt 4,
    .ccmDecryptAndVerify 4,
    .cmacGenerate 4]

def illFormed2 : List Instr :=
  [.cmacVerify 4,
    .keyDerivation 4,
    .quillCompletion 4,
    .parityFault 4,
    .keyLoad ⟨5, 0, .none, 0⟩ [],
    .keyLoad q0 long,
    .keyLoadProtected ⟨5, 0, .none, 0⟩ [],
    .keyLoadProtected q0 long,
    .keyErase ⟨5, 0, .none, 0⟩ [],
    .keyErase q0 long,
    .keySettled 16,
    .lfBurstEnd 65536 0 false false,
    .lfBurstEnd 0 (2 ^ 31) false false,
    .lfDriverFault 8 0,
    .lfDriverFault 0 256,
    .thermalRelease 8,
    .lfChannelClear ⟨5, 0, .none, 0⟩ 0 [],
    .lfChannelClear q0 256 [],
    .lfChannelClear q0 0 long,
    .cradleUplink long 0 0,
    .cradleUplink [] 65536 0,
    .cradleUplink [] 0 (2 ^ 31),
    .cradleUplinkTimeout 65536 0,
    .cradleUplinkTimeout 0 (2 ^ 31),
    .handleScan 65536 0 0 0,
    .handleScan 0 65536 0 0,
    .handleScan 0 0 65536 0,
    .handleScan 0 0 0 65536,
    .hsStuck 8,
    .radioWake 2,
    .radioActivityEnd 2 0 0 [] 0 0,
    .radioActivityEnd 0 256 0 [] 0 0,
    .radioActivityEnd 0 0 256 [] 0 0,
    .radioActivityEnd 0 0 0 long 0 0,
    .radioActivityEnd 0 0 0 [] (2 ^ 31) 0,
    .radioActivityEnd 0 0 0 [] 0 (2 ^ 31),
    .packetReceived long 0 0,
    .packetReceived [] (2 ^ 31) 0,
    .packetReceived [] 0 (2 ^ 31),
    .radioSleep 2]

def illFormed3 : List Instr :=
  [.calibration 256 0,
    .calibration 0 (2 ^ 31),
    .calStale 256,
    .startRequest ⟨5, 0, .none, 0⟩ [],
    .startRequest q0 long,
    .lockoutClear ⟨5, 0, .none, 0⟩ [],
    .lockoutClear q0 long,
    .heldTelegramExpiry 256,
    .learnRecord ⟨5, 0, .none, 0⟩ 0 [],
    .learnRecord q0 256 [],
    .learnRecord q0 0 long,
    .learnRecordClear ⟨5, 0, .none, 0⟩ [],
    .learnRecordClear q0 long,
    .learnStart ⟨5, 0, .none, 0⟩ [],
    .learnStart q0 long,
    .learnSlaveTimeout 256,
    .csAuth ⟨5, 0, .none, 0⟩ [],
    .csAuth q0 long,
    .csTokenAuth ⟨5, 0, .none, 0⟩ [],
    .csTokenAuth q0 long,
    .proposalExpiry 65536,
    .protectionSeal ⟨5, 0, .none, 0⟩ [],
    .protectionSeal q0 long,
    .debugUnlock ⟨5, 0, .none, 0⟩ [],
    .debugUnlock q0 long,
    .commissionStart ⟨5, 0, .none, 0⟩ [],
    .commissionStart q0 long,
    .switchingBegins 65536,
    .feedFaultClear ⟨5, 0, .none, 0⟩ [],
    .feedFaultClear q0 long,
    .feedLock (2 ^ 32),
    .relock (2 ^ 32),
    .loadStep 256,
    .status 65536 0,
    .status 0 65536,
    .setVid 65536 0 0 0,
    .setVid 0 256 0 0,
    .setVid 0 0 256 0,
    .setVid 0 0 0 65536,
    .feedlineUnknownCmd 256 0 0 0]

def illFormed4 : List Instr :=
  [.feedlineUnknownCmd 0 65536 0 0,
    .feedlineUnknownCmd 0 0 256 0,
    .feedlineUnknownCmd 0 0 0 65536,
    .exchangeCut 256,
    .ackSet 65536,
    .feedlineLost 65536,
    .ignitionOff ⟨5, 0, .none, 0⟩ [],
    .ignitionOff q0 long,
    .frameReceived 256 none none,
    .frameReceived 0 (some ⟨long, 0, true, 0⟩) none,
    .frameReceived 0 none (some ⟨long, 0, true, 0⟩),
    .frameSend 2048 0,
    .frameSend 0 256,
    .minislot 256 none false,
    .minislot 0 (some (2048, false)) false,
    .clockCorrection (2 ^ 31),
    .lineBreak 4,
    .sideRestore 2,
    .babble 2 0 0 0,
    .babble 0 256 0 0,
    .babble 0 0 64 0,
    .babble 0 0 0 256,
    .ridgeIsolate ⟨5, 0, .none, 0⟩ [],
    .ridgeIsolate q0 long,
    .ridgeRequest ⟨5, 0, .none, 0⟩ [],
    .ridgeRequest q0 long,
    .ridgeGuardClear ⟨5, 0, .none, 0⟩ [],
    .ridgeGuardClear q0 long,
    .canFrameReceived 2 0 0 [],
    .canFrameReceived 0 256 0 [],
    .canFrameReceived 0 0 (2 ^ 29) [],
    .canFrameReceived 0 0 0 long,
    .canFrameSent 2,
    .txLifetimeExpiry 2,
    .errorStateChange 2 0 0,
    .errorStateChange 0 65536 0,
    .errorStateChange 0 0 65536,
    .busOff 2,
    .busOffHoldExpiry 2,
    .canRecover ⟨5, 0, .none, 0⟩ 0 []]

def illFormed5 : List Instr :=
  [.canRecover q0 256 [],
    .canRecover q0 0 long,
    .recoveryComplete 2,
    .protocolException 2,
    .markerReceived long 0,
    .markerReceived [] (2 ^ 31),
    .echoReplyReceived (2 ^ 32),
    .hello 64 [] false,
    .hello 0 long false,
    .poleAdmit long false,
    .refuse 256,
    .slaveFirstStroke (some (2 ^ 48)),
    .lfSchedule long false,
    .radioList long false,
    .abortActivity 4,
    .keyContext long,
    .learnPage long,
    .learnCommit long,
    .relay 2 [],
    .relay 0 long,
    .poleItem 64 0 0 0 [] 0 false,
    .poleItem 0 16 0 0 [] 0 false,
    .poleItem 0 0 256 0 [] 0 false,
    .poleItem 0 0 0 65536 [] 0 false,
    .poleItem 0 0 0 0 long 0 false,
    .poleItem 0 0 0 0 [] (2 ^ 48) false,
    .poleStatus 64 [],
    .poleStatus 0 long,
    .learnReport 64 0,
    .learnReport 0 (2 ^ 32),
    .standbyReply 64 0,
    .standbyReply 0 256,
    .relayResponse 64 [],
    .relayResponse 0 long,
    .slaveLost 256,
    .poleRelay ⟨5, 0, .none, 0⟩ 0 [],
    .poleRelay q0 256 [],
    .poleRelay q0 0 long,
    .poleRelayProtected ⟨5, 0, .none, 0⟩ 0 [],
    .poleRelayProtected q0 256 []]

def illFormed6 : List Instr :=
  [.poleRelayProtected q0 0 long,
    .relayTimeout 256,
    .folioAck ⟨5, 0, .none, 0⟩ [],
    .folioAck q0 long,
    .ackTimeout 16,
    .folioNote ⟨5, 0, .none, 0⟩ 0 [],
    .folioNote q0 256 [],
    .folioNote q0 0 long,
    .imageActivate ⟨5, 0, .none, 0⟩ [],
    .imageActivate q0 long,
    .supervisionLoss 2,
    .symbolSyncLoss 4,
    .symbolSyncRegain 4,
    .canIntegrationComplete 2]

theorem test_ill_formed_refused :
    (illFormed0 ++ illFormed1 ++ illFormed2 ++ illFormed3 ++ illFormed4 ++ illFormed5 ++ illFormed6).all (fun c => !wellFormed c) = true := by decide +kernel

theorem test_requester_checks : Requester.wf ⟨0, 256, .none, 0⟩ = false ∧ Requester.wf ⟨0, 0, .none, 65536⟩ = false ∧ RidgeRx.wf ⟨[], 0, true, -2 ^ 31 - 1⟩ = false ∧
    Requester.wf q0 = true ∧ wellFormed (.domainEnable q0 [0, 1]) = true := by decide +kernel

/-! ## States that meet the hypotheses of the statements -/

theorem wit_StepRunsFrontCommand : (∃ (s : State) (c : Instr) (rest : List Instr), s.pending = c :: rest) ∧
    (∃ s : State, s.pending = []) :=
  ⟨⟨{ State.reset with pending := [.resetN, .wrap] }, _, _, rfl⟩, State.reset, rfl⟩

theorem wit_LatchLegalKept : ∃ s t : State, s.latchLegal ∧ step s = .next t :=
  ⟨State.reset, State.reset, by decide, rfl⟩

theorem wit_ReleaseOnlyAtBoundary : ∃ (c : Instr) (s t : State), exec c s = .next t ∧ s.released = false ∧ t.released = true ∧
    s.feedEn = false ∧ t.feedEn = true :=
  ⟨.strokeBoundary 0 false, { State.reset with
    sys := { Sys.reset with power := .running, phase := .commit }
    guy := { State.reset.guy with gateOpen := true }
    staged := [plainUnit 0 [.latch .setFeedEn, .latch .setReleased] []] }, _, rfl, by decide +kernel⟩

theorem wit_QueueUntouched : ∃ (c : Instr) (s t : State), exec c s = .next t := ⟨.wrap, State.reset, State.reset, rfl⟩

theorem wit_OfferDeposits : State.reset.sys.cascId = 0 := rfl

theorem wit_PowerDownLeavesMarker : ∃ s : State, s.sys.power = .running ∨ s.sys.power = .dark :=
  ⟨{ State.reset with sys := { Sys.reset with power := .running } }, .inl rfl⟩

theorem wit_BootPath : State.reset.sys.power = .aoReset ∧ (6 : Nat) % 4 = 2 ∧ (1 : Nat) % 4 = 1 ∧ ((3 : Nat) % 4 = 0 ∨ (3 : Nat) % 4 = 3) ∧
    (∃ s : State, s.sys.power = .bootWindow ∧ s.sys.power ≠ .aoReset ∧ s.sys.power ≠ .factoryHold) ∧
    (∃ s : State, s.sys.power = .waitVhold ∧ s.sys.darkLeft = 1 ∧ s.isSlave = true) :=
  ⟨rfl, rfl, rfl, .inr rfl, ⟨{ State.reset with sys := { Sys.reset with power := .bootWindow } }, rfl, nofun, nofun⟩,
    ⟨{ State.reset with sys := { Sys.reset with power := .waitVhold, darkLeft := 1, cascId := 7 } }, rfl, rfl, rfl⟩⟩

theorem wit_SupplySupervision :
    (∃ s : State, s.supervised = true ∧ s.sys.warnSince = none ∧ s.sys.vlfState.testBit (1 % 2) = false ∧
      s.sys.vlfState.testBit (1 % 2 + 2) = false ∧ (s.sys.power = .waitVhold ∨ s.sys.power = .running)) ∧
    (∃ (s : State) (n : Nat), s.sys.warnSince = some n) :=
  ⟨⟨{ State.reset with sys := { Sys.reset with power := .running } }, by decide⟩,
    ⟨{ State.reset with sys := { Sys.reset with warnSince := some 0 } }, 0, rfl⟩⟩

theorem wit_FirstStrokeOpens : ∃ s : State, s.sys.power = .waitVhold ∧ s.sys.darkLeft = 0 ∧ s.sys.cascId = 0 ∧ 4500 ≤ 4500 ∧ 4499 < 4500 :=
  ⟨{ State.reset with sys := { Sys.reset with power := .waitVhold } }, by decide⟩
theorem wit_FirstStrokeOpens_slave : ∃ s : State, s.sys.power = .waitVhold ∧ s.sys.darkLeft = 0 ∧ s.sys.cascId ≠ 0 :=
  ⟨{ State.reset with sys := { Sys.reset with power := .waitVhold, cascId := 1 } }, by decide⟩

theorem wit_CoreResets :
    (∃ s : State, s.sys.power = .running ∧ s.sys.phase = .gather ∧ s.sys.wdArmed = true ∧ s.num 0x120014 ≤ s.sys.wdCount) ∧
    (∃ s : State, s.sys.power = .dark ∧ s.sys.resetReq ≠ none ∧ 4 ≤ s.sys.coreResets + 1) ∧
    (∃ s : State, s.sys.power = .dark ∧ s.sys.resetReq ≠ none ∧ s.sys.coreResets + 1 < 4 ∧ s.coreCleared.slotDigest s.img.bootB = s.img.digest) :=
  ⟨⟨{ State.reset with sys := { Sys.reset with power := .running, wdArmed := true, wdCount := 100 } }, by decide +kernel⟩,
    ⟨{ State.reset with sys := { Sys.reset with power := .dark, resetReq := some 4, coreResets := 3 } }, by decide +kernel⟩,
    ⟨{ State.reset with sys := { Sys.reset with power := .dark, resetReq := some 4, coreResets := 2 }, img := { Images.reset with digest := State.reset.slotDigest false } }, rfl, nofun, by decide, rfl⟩⟩

theorem wit_GuyLatchUpsetAndLatchOff : (∃ s : State, s.sys.power ≠ .aoReset ∧ s.sys.power ≠ .factoryHold) ∧
    (∃ s : State, s.feed.state = 9 ∧ (s.released = true ∨ s.feedEn = true)) :=
  ⟨⟨{ State.reset with sys := { Sys.reset with power := .running } }, nofun, nofun⟩,
    ⟨{ State.reset with feed := { Feed.reset with state := 9 }, guy := ⟨Tri.all true, Tri.all true, false⟩ }, rfl, .inl rfl⟩⟩

theorem wit_StrokeBoundary : (∃ s : State, s.sys.power = .running ∧ s.sys.resetReq ≠ some 5 ∧ (s.sys.phase = .commit → Effect.standby ∉ s.effects)) ∧
    (∃ s : State, s.sys.power = .running ∧ s.sys.resetReq = some 5 ∧ (s.sys.phase = .commit → Effect.standby ∉ s.effects)) ∧
    (∃ s : State, s.sys.power = .running ∧ s.sys.phase = .commit ∧ Effect.standby ∈ s.effects) ∧
    (∃ s : State, s.sys.power = .coreHeld ∧ s.feed.state = 0) :=
  ⟨⟨{ State.reset with sys := { Sys.reset with power := .running, phase := .commit } }, rfl, nofun, by decide⟩,
    ⟨{ State.reset with sys := { Sys.reset with power := .running, resetReq := some 5 } }, rfl, rfl, nofun⟩,
    ⟨{ State.reset with sys := { Sys.reset with power := .running, phase := .commit }, staged := [plainUnit 0 [.standby] []] }, rfl, rfl, by decide⟩,
    ⟨{ State.reset with sys := { Sys.reset with power := .coreHeld } }, rfl, rfl⟩⟩

theorem wit_StrokePhases : (∃ s : State, s.sys.power = .running ∧ s.sys.phase = .gather) ∧ (∃ s : State, s.sys.power = .running ∧ s.sys.phase = .work) :=
  ⟨⟨{ State.reset with sys := { Sys.reset with power := .running } }, rfl, rfl⟩,
    ⟨{ State.reset with sys := { Sys.reset with power := .running, phase := .work } }, rfl, rfl⟩⟩

theorem wit_RequestReadsBack : ∃ (r : Requester) (es : List LEntry), Known r ∧ es ≠ [] ∧ es.length ≤ 64 ∧
    (∀ e ∈ es, e.key < 2 ^ 24 ∧ e.val.length < 256) ∧ (es.map fun e => 5 + e.val.length).sum ≤ 2048 :=
  ⟨⟨1, 63, .can 1 2, 65535⟩, [⟨true, 2 ^ 24 - 1, zeros 255⟩, ⟨false, 0, []⟩], by unfold Known; decide, by decide, by decide, by decide +kernel, by decide +kernel⟩

theorem wit_PageScrub : (∃ s : State, s.committing = true ∧ s.sys.stroke % 64 = 31) ∧
    (∃ (s : State) (sc : Scrub), s.ink.scrub = some sc ∧ s.committing = true ∧ sc.tries < 2) ∧
    (∃ (s : State) (sc : Scrub), s.ink.scrub = some sc ∧ s.committing = true ∧ 2 ≤ sc.tries ∧ s.ink.spares.length + 31 < 32 ∧
      32 ≤ s.ink.spares.length + 32) :=
  ⟨⟨{ State.reset with sys := { Sys.reset with power := .running, phase := .commit, stroke := 31 } }, rfl, rfl⟩,
    ⟨{ State.reset with sys := { Sys.reset with power := .running, phase := .commit }, ink := { State.reset.ink with scrub := some ⟨768, [3], 1⟩ } }, _, rfl, rfl, by decide⟩,
    ⟨{ State.reset with sys := { Sys.reset with power := .running, phase := .commit }, ink := { State.reset.ink with scrub := some ⟨768, [3], 2⟩ } }, _, rfl, rfl, by decide⟩⟩

theorem wit_QuillLanesEnd : (∃ (s : State) (op : QOp), s.quill.held = [] ∧ alookup 3 s.quill.lanes = some op) ∧
    (∃ s : State, s.domOn 5 = true) ∧ (∃ s : State, s.quill.drbgOk = true ∧ s.sys.stroke % 64 = 63) :=
  ⟨⟨{ State.reset with quill := { State.reset.quill with lanes := [(3, State.reset.intOp ⟨3, 5, 0, 80, none, [], [], zeros 72, [], 0, [0]⟩)] } }, _, rfl, rfl⟩,
    ⟨{ State.reset with sys := { Sys.reset with domains := 0x37 } }, rfl⟩,
    ⟨{ State.reset with sys := { Sys.reset with stroke := 63 }, quill := { State.reset.quill with drbgOk := true } }, rfl, rfl⟩⟩

theorem wit_RepeatedSetVid : ∃ s : State, s.feed.state ≠ 0 ∧ s.feed.state < 16 ∧ s.feed.last = some (7, 80, 40) :=
  ⟨{ State.reset with feed := { Feed.reset with state := 6, last := some (7, 80, 40) } }, by decide⟩

theorem wit_ExchangePayloads : ((State.startWith { State.reset with sys := { Sys.reset with entropyTaken := 102 } }
    (State.reset.newExchange 1 0 3 none []) 5 ⟨0, zeros 8, ⟨0, 0, []⟩, []⟩).isSome = true) ∧ State.reset.carId.length = 3 := by decide +kernel

theorem wit_AnchorsOfExchange : State.reset.commissioning 0 = false ∧ (∃ (x : Exchange) (a : Nat), x.anchors[0]? = some a ∧ a / 32 = State.reset.sys.cascId) ∧
    (∃ (s : State) (x : Exchange) (a : Nat), x.anchors[0]? = some a ∧ a / 32 ≠ s.sys.cascId ∧ a / 32 < 8 ∧ s.slaveUp (a / 32) = true) :=
  ⟨by decide +kernel, ⟨{ State.reset.newExchange 1 0 3 none [] with anchors := [7] }, 7, by decide +kernel⟩,
    ⟨{ State.reset with pole := { Pole.reset with slaves := [(3, { (State.reset.slaveRec 3) with state := 2 })] } },
      { State.reset.newExchange 1 0 3 none [] with anchors := [97] }, 97, by decide +kernel⟩⟩

theorem wit_StandbyAndWake_1 : ∃ s : State, s.working = true ∧ s.num 0x12000A ≠ 0 ∧ s.secStrokes (s.num 0x12000A) ≤ s.sys.idleStrokes ∧
    s.effects.contains .standby = false ∧ s.standbyBlocked = false ∧ (s.isMaster && s.poleUp) = false :=
  ⟨{ slave with objs := [(0x12000A, [0, 10])], sys := { slave.sys with idleStrokes := 10000 } }, by decide +kernel⟩

theorem wit_StandbyAndWake_2 : ∃ (s : State) (source : Nat), s.sys.power = .standby ∧ s.sys.waking = none ∧ 1 ≤ source ∧ source ≤ 5 ∧
    (s.num 0x120008).testBit (source - 1) = true :=
  ⟨{ st .standby .gather with objs := [(0x120008, [0x10])] }, 5, by decide +kernel⟩

theorem wit_StandbyAndWake_3 : ∃ s : State, s.served = true ∧ (s.standbyBlocked || s.effects.contains .standby) = false :=
  ⟨slave, by decide +kernel⟩

theorem wit_StandbyAndWake_4 : ∃ s : State, s.served = true ∧ (s.standbyBlocked || s.effects.contains .standby) = true :=
  ⟨slave.stage (plainUnit 0 [.standby] []), by decide +kernel⟩

/-- A master that asked one admitted slave for standby. -/
def asking : State :=
  { st .running .work with pole := { Pole.reset with
      standby := some (hostR, 0, []), slaves := [(3, { (State.reset.slaveRec 3) with state := 2 })] }
                           sys := { (st .running .work).sys with stroke := 5 } }

theorem wit_StandbyAndWake_5 : asking.poleUp = true ∧ asking.isSlave = false ∧ asking.pole.standby = some (hostR, 0, []) ∧
    asking.isMaster = true ∧ asking.admitted.contains 3 = true ∧
    (asking.setSlave 3 fun r => { r with standby := some stOK }).admitted.all
      (fun n => ((asking.setSlave 3 fun r => { r with standby := some stOK }).slaveRec n).standby == some stOK) = true ∧
    0 + 4 < asking.sys.stroke ∧ asking.admitted.any (fun n => (asking.slaveRec n).standby.isNone) = true := by decide +kernel

theorem wit_StrapsAndTap_1 : ∃ (s : State) (levels : Nat), s.committing = true ∧ s.sys.stroke % 64 = 63 ∧ levels % 64 ≠ s.sys.strapsSeen ∧
    levels % 64 ≠ State.strapsByte { s with sys := { s.sys with strapsSeen := levels % 64 } } :=
  ⟨{ st .running .commit with sys := { (st .running .commit).sys with stroke := 63 } }, 1, by decide +kernel⟩

theorem wit_StrapsAndTap_2 : ∃ s : State, s.tapOn = true ∧ s.unsealed = true ∧ s.sys.selfTest = 0 := ⟨st .scan .gather, by decide +kernel⟩

theorem wit_StrapsAndTap_3 : ∃ s : State, s.tapOn = true ∧ s.sys.selfTest = 2 ^ 30 :=
  ⟨{ st .scan .gather with sys := { (st .scan .gather).sys with selfTest := 2 ^ 30 } }, by decide +kernel⟩

theorem wit_StrapsAndTap_4 : ∃ s : State, s.tapOn = true ∧ s.unsealed = false :=
  ⟨{ st .scan .gather with ink := State.reset.ink.writeCell (.tally 11 1) }, by decide +kernel⟩

theorem wit_ClockAndPll_1 : ∃ s : State, s.sys.power = .running ∧ s.sys.stroke % 1024 = 0 ∧ s.sys.phase = .gather ∧ s.sys.windowLast = true :=
  ⟨{ st .running .gather with sys := { (st .running .gather).sys with stroke := 1024, windowLast := true } }, by decide +kernel⟩

theorem wit_ClockAndPll_2 : ∃ s : State, s.sys.pllSince = none ∧ s.sys.power ≠ .aoReset := ⟨st .running .gather, by decide +kernel⟩

theorem wit_ClockAndPll_3 : ∃ s : State, s.sys.pllSince = some 7 :=
  ⟨{ st .running .gather with sys := { (st .running .gather).sys with pllSince := some 7 } }, by decide +kernel⟩

/-- The command bytes of a one-word write of IRQ_ENABLE of the global page, with its CRC-8 (R128, R129). -/
def cmdIrq (op : Nat) : Bytes := let c := beBytes 1 op ++ beBytes 3 0x14 ++ beBytes 2 0; c ++ beBytes 1 (crc8 c) ++ [0]

def dataIrq : Bytes := beBytes 4 0x7F ++ beBytes 2 (crc16 (beBytes 4 0x7F))

theorem wit_HostTransfers_1 : ∃ s : State, s.portUp = false := ⟨State.reset, by decide⟩

theorem wit_HostTransfers_2 : ∃ s : State, s.portUp = true := ⟨st .running .work, by decide⟩

theorem wit_HostTransfers_3 : ∃ (s : State) (cmd data : Bytes) (st' : Nat), s.portUp = true ∧ 4 * cmdWords cmd + 2 ≤ data.length ∧ st' ≠ stOK ∧
    s.transferStatus 0xB1 cmd (crc16 (data.take (4 * cmdWords cmd)) == beNat (slice data (4 * cmdWords cmd) 2)) = st' :=
  ⟨st .running .work, zeros 8, zeros 6, stDENIED, by decide +kernel⟩

theorem wit_HostTransfers_4 : ∃ (s : State) (cmd data : Bytes), s.portUp = true ∧ s.sys.power ≠ .bootWindow ∧
    4 * cmdWords cmd + 2 ≤ data.length ∧ cmdPage cmd = 0 ∧ cmdOff cmd = 0x014 ∧ cmdWords cmd = 1 ∧
    s.transferStatus 0xB1 cmd (crc16 (data.take 4) == beNat (slice data 4 2)) = stOK :=
  ⟨st .running .work, cmdIrq 0xB1, dataIrq, by decide +kernel⟩

theorem wit_HostTransfers_5 : (st .running .work).transferStatus 0xB4 (cmdIrq 0xB4) (crc16 (dataIrq.take 4) == beNat (slice dataIrq 4 2)) = stOK := by
  decide +kernel

theorem wit_HostRegisters_1 : ∃ s : State, RegAccess s 0 ∧ s.host.coreSeq = true :=
  ⟨{ st .running .work with host := { HostPort.reset with coreSeq := true } }, ⟨by decide, nofun, by decide, fun h => absurd rfl h⟩, rfl⟩

/-- A tenant enabled, with the register page as its path. -/
def tenant : State := { st .running .work with objs := [(0x383001, [0]), (0x3A0001, [0, 0, 0, 0, 0, 0, 0, 1])] }

theorem wit_HostRegisters_2 : RegAccess tenant 1 ∧ tenant.pathPage 1 = true ∧ (tenant.page 1).qpStatus.testBit 0 = false ∧ tenant.domReady 5 = true :=
  ⟨⟨by decide +kernel, nofun, by decide, fun _ => by decide +kernel⟩, by decide +kernel⟩

theorem wit_HostRegisters_3 : ∃ (s : State) (p off : Nat), s.portUp = true ∧ s.sys.power ≠ .bootWindow ∧ p ≤ 64 ∧ p ≠ 0 ∧ s.tenantOn (p - 1) = false ∧
    off < 4096 ∧ off % 4 = 0 := ⟨{ tenant with objs := [(0x3A0001, zeros 8)] }, 64, 4092, by decide +kernel⟩

/-- Ring 0 of the global page, a transmit ring of eight descriptors in granule 0. -/
def oneRing (r : Ring) : State :=
  { st .running .work with
    objs := [(0x3A1201, [64]), (0x6A0041, [1])], host := { HostPort.reset with rings := [r] } }

def freshRing : Ring := ⟨0, 0, 0x30, 0, 0, false, false, false, 0, 0, [], 0⟩

theorem wit_RingLifecycle_1 : let s := oneRing freshRing
    RegAccess s 0 ∧ (s.page 0).ringSel < s.ringCount 0 ∧ (s.ring 0 0).active = false ∧ bits ((0x37 ||| 1) &&& 0x7F01FE) 3 1 = 3 ∧
      s.ownsRun 0 (s.ring 0 0).base (32 * Ring.size { s.ring 0 0 with cfg := (0x37 ||| 1) &&& 0x7F01FE }) = true ∧ s.domReady 3 = true :=
  ⟨⟨by decide, nofun, by decide, fun h => absurd rfl h⟩, by decide +kernel⟩

theorem wit_RingLifecycle_2 : let s := { oneRing freshRing with sys := { (oneRing freshRing).sys with domains := 1 } }
    RegAccess s 0 ∧ (s.page 0).ringSel < s.ringCount 0 ∧ (s.ring 0 0).active = false ∧ s.domReady 3 = false :=
  ⟨⟨by decide, nofun, by decide, fun h => absurd rfl h⟩, by decide +kernel⟩

theorem wit_RingLifecycle_3 : let s := oneRing { freshRing with cfg := 0x36, active := true }
    RegAccess s 0 ∧ (s.page 0).ringSel < s.ringCount 0 ∧ (s.ring 0 0).active = true ∧ (s.ring 0 0).closing = false ∧ (s.ring 0 0).type ≠ 2 ∧
      8 < 2 * (s.ring 0 0).size ∧ (s.ring 0 0).ready ≤ (s.ring 0 0).dist (s.ring 0 0).devIdx 8 ∧
      (s.ring 0 0).dist (s.ring 0 0).devIdx 8 ≤ (s.ring 0 0).size ∧ (s.ring 0 0).size < (s.ring 0 0).dist (s.ring 0 0).devIdx 9 ∧
      2 * (s.ring 0 0).size ≤ 16 :=
  ⟨⟨by decide, nofun, by decide, fun h => absurd rfl h⟩, by decide +kernel⟩

theorem wit_RingLifecycle_4 : let s := oneRing { freshRing with cfg := 0x36, active := true, draining := true }
    (s.ring 0 0).draining = true ∧ (s.ring 0 0).taken = [] := by decide +kernel

theorem wit_TenantsAndRegrant_1 : ∃ (s : State) (n due : Nat), alookup n s.host.resets = some due ∧ s.sys.power = .running ∧ s.sys.phase ≠ .gather ∧
    due ≤ s.sys.stroke :=
  ⟨{ st .running .work with host := { HostPort.reset with resets := [(63, 2)] }, sys := { (st .running .work).sys with stroke := 2 } }, 63, 2, by decide +kernel⟩

theorem wit_TenantsAndRegrant_2 : ∃ (s : State) (pos first : Nat), s.host.regrants = [(pos, first)] ∧ s.working = true ∧ first + 8 ≤ s.sys.stroke :=
  ⟨{ st .running .work with host := { HostPort.reset with regrants := [(3, 4)] }, sys := { (st .running .work).sys with stroke := 12 } }, 3, 4, by decide +kernel⟩

/-- A gathered Ledger request of firmware. -/
def asked (val : Bytes) : State := { st .running .work with gathered := [⟨1, 0, 0, val, [4]⟩] }

theorem wit_LedgerMessages_1 : parseRequest [] = .discard ∧ (asked []).working = true ∧ (asked []).gathered.find? Item.isRequest = some ⟨1, 0, 0, [], [4]⟩ := by
  decide +kernel

theorem wit_LedgerMessages_2 : parseRequest (ledgerMsg 2 0 0 1 0 []) = .ignored := by decide +kernel

theorem wit_LedgerMessages_3 : parseRequest (ledgerMsg 1 0 0 0 0 []) = .malformed := by decide +kernel

theorem wit_LedgerMessages_4 : parseRequest (ledgerMsg 1 0 5 1 0 [1, 0x10, 0, 1, 0]) = .request false [1, 0x10, 0, 1, 0] [⟨false, 0x100001, []⟩] ∧
    (Item.requester ⟨1, 0, 0, ledgerMsg 1 0 5 1 0 [1, 0x10, 0, 1, 0], [4]⟩).via = .none := by decide +kernel

theorem wit_LedgerMessages_5 : ∃ (s : State) (u : Staged), s.working = true ∧ s.deferred = [u] :=
  ⟨{ st .running .work with deferred := [plainUnit 5 [] []] }, plainUnit 5 [] [], by decide +kernel⟩

theorem wit_LedgerMessages_6 : ∃ (s : State) (src : Nat) (r : Reasm), s.reasm = [r] ∧ r.src = src ∧ r.first + 20 ≤ s.sys.stroke :=
  ⟨{ st .running .work with reasm := [⟨257, [], 1, 0, 0⟩], sys := { (st .running .work).sys with stroke := 20 } }, 257, ⟨257, [], 1, 0, 0⟩, by decide +kernel⟩

/-- What is decidable of `takes`. -/
abbrev takesB (s : State) (r : Requester) (k : Nat) (v : Bytes) : Prop :=
  s.working = true ∧ v.length ≤ 240 ∧ s.maskOpen r k = true ∧ classBarred r k = false ∧ s.scheduleBusy k = false ∧
    (objDef k).elim false (fun d => s.clampSteps d k 0 v == some []) = true

theorem takes_of {s : State} {k : Nat} {v : Bytes} (h : takesB s hostR k v) : s.takes hostR k v := by
  obtain ⟨a, b, c, d, e, f⟩ := h
  refine ⟨a, ⟨by decide, .inl ⟨rfl, rfl⟩⟩, fun _ _ _ _ _ _ hv => by simp [hostR] at hv, b, c, d, e, ?_⟩
  cases hd : objDef k with
  | none => rw [hd] at f; simp at f
  | some x => rw [hd] at f; exact ⟨x, rfl, by simpa using f⟩

/-- What is decidable of `takesSigned`. -/
abbrev signedB (s : State) (r : Requester) (k : Nat) (v : Bytes) (pos : Nat) : Prop :=
  s.working = true ∧ v.length ≤ 240 ∧ s.inflightSlot = some pos ∧ s.maskOpen r k = true ∧ classBarred r k = false ∧
    s.securityLegal k v = true ∧ s.holdBlocks = false ∧ (objDef k).elim false (fun d => s.clampSteps d k 0 v == some []) = true

theorem signed_of {s : State} {k pos : Nat} {v : Bytes} (h : signedB s hostR k v pos) : s.takesSigned hostR k v pos := by
  obtain ⟨a, b, c, d, e, f, g, i⟩ := h
  refine ⟨a, ⟨by decide, .inl ⟨rfl, rfl⟩⟩, b, c, d, e, f, g, ?_⟩
  cases hd : objDef k with
  | none => rw [hd] at i; simp at i
  | some x => rw [hd] at i; exact ⟨x, rfl, by simpa using i⟩

theorem wit_WritesOfTheSystem_1 : work.takes hostR 0x120004 [0, 0x17] := takes_of (by decide +kernel)

theorem wit_WritesOfTheSystem_2 : work.takes hostR 0x120006 [8] ∧ beNat [8#8] ≠ 0 ∧ work.feedEn = false :=
  ⟨takes_of (by decide +kernel), by decide +kernel⟩

theorem wit_WritesOfTheSystem_3 : let s := { work with guy := ⟨Tri.all false, Tri.all true, true⟩ }
    s.takes hostR 0x120006 [8] ∧ s.feedEn = true := ⟨takes_of (by decide +kernel), by decide +kernel⟩

theorem wit_WritesOfTheSystem_4 : work.takes hostR 0x120007 [1] ∧ work.standbyBlocked = false ∧
    (if work.isMaster && work.poleUp then work.admitted else []) = [] := ⟨takes_of (by decide +kernel), by decide +kernel⟩

/-- A master with slave 3 ACTIVE. -/
def masterOf3 : State := { work with pole := { Pole.reset with slaves := [(3, { (State.reset.slaveRec 3) with state := 2 })] } }

theorem wit_WritesOfTheSystem_5 : masterOf3.takes hostR 0x120007 [1] ∧ masterOf3.standbyBlocked = false ∧
    3 ∈ (if masterOf3.isMaster && masterOf3.poleUp then masterOf3.admitted else []) := ⟨takes_of (by decide +kernel), by decide +kernel⟩

theorem wit_WritesOfTheSystem_6 : work.takes hostR 0x3A0001 (zeros 8) := takes_of (by decide +kernel)

theorem wit_WritesOfTheSystem_7 : work.takes hostR (0x3A1201 + 95 % 96) [5] ∧ beNat [5#8] ≠ work.granuleOwner (95 % 96) :=
  ⟨takes_of (by decide +kernel), by decide +kernel⟩

/-- A plain 16-byte key for a slot at generation 0. -/
def loadImage (slot : Nat) : Bytes := [BitVec.ofNat 8 slot, 0, 16, 0] ++ zeros 4 ++ zeros 12 ++ zeros 16 ++ zeros 36

def keyWork : State := { work with objs := [(0x380008, [1])] }

theorem wit_WritesOfKeys_1 : keyWork.takes hostR 0x381001 (loadImage 0x50) ∧ slotAllowed false (loadSlot (loadImage 0x50)) = true ∧
    loadLegal (loadImage 0x50) = true ∧ loadExpect (loadImage 0x50) = (keyWork.slotView (loadSlot (loadImage 0x50))).gen ∧
    (keyWork.slotView (loadSlot (loadImage 0x50))).gen ≠ 2 ^ 32 - 1 ∧ keyWork.num 0x380008 ≠ 0 ∧ keyWork.inflightSlot = some 0 :=
  ⟨takes_of (by decide +kernel), by decide +kernel⟩

theorem wit_WritesOfKeys_2 : keyWork.takesSigned hostR 0x381003 (loadImage 0x40) 0 ∧ slotAllowed true (loadSlot (loadImage 0x40)) = true ∧
    loadLegal (loadImage 0x40) = true ∧ loadExpect (loadImage 0x40) = (keyWork.slotView (loadSlot (loadImage 0x40))).gen ∧
    (keyWork.slotView (loadSlot (loadImage 0x40))).gen ≠ 2 ^ 32 - 1 ∧ keyWork.num 0x380008 ≠ 0 ∧
    (keyWork.stage (plainUnit 0 [.inflight 0 (keyWork.newEntry 3 Config.proposalPhases 0 0 hostR)] [])).inflightSlot ≠ none :=
  ⟨signed_of (by decide +kernel), by decide +kernel⟩

def eraseImage (gen : Nat) : Bytes := [0x50, 1, 0, 0] ++ beBytes 4 gen

theorem wit_WritesOfKeys_3 : work.takes hostR 0x381002 (eraseImage 0) ∧ slotAllowed false (byteAt (eraseImage 0) 0) = true ∧
    byteAt (eraseImage 0) 1 < 2 ∧ slice (eraseImage 0) 2 2 = zeros 2 ∧
    beNat (slice (eraseImage 0) 4 4) = (work.slotView (byteAt (eraseImage 0) 0)).gen ∧ beNat (slice (eraseImage 0) 4 4) ≠ 2 ^ 32 - 1 ∧
    work.inflightSlot = some 0 := ⟨takes_of (by decide +kernel), by decide +kernel⟩

def lastGen : State := work.setKeySlot 0x50 ⟨[], 0, 2 ^ 32 - 1, 0, 0⟩

theorem wit_WritesOfKeys_4 : lastGen.takes hostR 0x381002 (eraseImage (2 ^ 32 - 1)) ∧
    beNat (slice (eraseImage (2 ^ 32 - 1)) 4 4) = (lastGen.slotView 0x50).gen ∧ beNat (slice (eraseImage (2 ^ 32 - 1)) 4 4) = 2 ^ 32 - 1 :=
  ⟨takes_of (by decide +kernel), by decide +kernel⟩

theorem wit_WritesOfTheCabin_1 : work.takes hostR (0x200C01 + 7 % 8) [1] ∧ beNat [1#8] = 1 := ⟨takes_of (by decide +kernel), rfl⟩

theorem wit_WritesOfTheCabin_2 : work.takes hostR 0x2C0201 [1] ∧ work.released = false ∧ work.releasing = false ∧ work.tether.waiting = none ∧
    work.holdBlocks = false ∧ work.inflightSlot = some 0 ∧ work.tether.run = none ∧ work.bivouac = false ∧ work.newestWake = none :=
  ⟨takes_of (by decide +kernel), by decide +kernel⟩

def busy : State := { work with tether := { Tether.reset with run := some (work.newExchange 1 0xFE 0 none []) } }

theorem wit_WritesOfTheCabin_3 : busy.takes hostR 0x2C0201 [1] ∧ busy.released = false ∧ busy.releasing = false ∧ busy.tether.waiting = none ∧
    busy.holdBlocks = false ∧ busy.inflightSlot = some 0 ∧ busy.tether.run ≠ none ∧ (busy.bivouac = true → busy.hasCradle = true) :=
  ⟨takes_of (by decide +kernel), by decide +kernel⟩

theorem wit_WritesOfTheCabin_4 : work.takes hostR (0x302001 + 63 % 64) (zeros 80) ∧ work.learning = false :=
  ⟨takes_of (by decide +kernel), by decide +kernel⟩

theorem wit_WritesOfTheCabin_5 : work.takes hostR 0x301004 [1] ∧ beNat [1#8] = 1 := ⟨takes_of (by decide +kernel), rfl⟩

/-- A proposal waits, and host principal 0x40 is a member. -/
def waiting : State := { work with
  objs := [(0x680002, [0xF]), (0x200003, [0])]
  quill := { Quill.reset with slots := [(0x40, ⟨zeros 16, 1, 1, 0, 0⟩)] }
  people := { People.reset with proposals := [⟨0, 1, 1, 0xFF, 0, hostR, zeros 32, zeros 16, 100, 1, false, [], 0⟩] } }

theorem wit_WritesOfTheCabin_6 : let v := [0, 1, 0x40, 0] ++ zeros 16
    waiting.takes hostR 0x681001 v ∧ (waiting.proposalsNow.find? (·.num == beNat (slice v 0 2))).isSome = true ∧ 0x40 ≤ byteAt v 2 ∧
      waiting.isMember (byteAt v 2) = true := ⟨takes_of (by decide +kernel), by decide +kernel⟩

theorem wit_WritesOfTheCabin_7 : waiting.takes hostR 0x681002 [0, 1] ∧ (waiting.proposalsNow.find? (·.num == beNat [0#8, 1#8])).isSome = true ∧
    waiting.hasCradle = true ∧ waiting.tether.waiting = none ∧ waiting.tether.run = none ∧ waiting.sys.entropyTaken + 8 ≤ 128 :=
  ⟨takes_of (by decide +kernel), by decide +kernel⟩

theorem wit_WritesOfTheCabin_8 : let s := { waiting with tether := busy.tether }
    s.takes hostR 0x681002 [0, 1] ∧ (s.proposalsNow.find? (·.num == beNat [0#8, 1#8])).isSome = true ∧
    s.hasCradle = true ∧ s.tether.waiting = none ∧ s.tether.run ≠ none :=
  ⟨takes_of (by decide +kernel), by decide +kernel⟩

theorem wit_WritesOfTheCabin_9 : let s := { waiting with quill := { Quill.reset with slots := [(0x40, ⟨zeros 16, 1, 1, 0, 0⟩), (0x41, ⟨zeros 16, 1, 1, 0, 0⟩)] } }
    s.takes hostR 0x680004 [1] ∧ hostR.cls = 0 ∧ s.isSealed = false ∧ 2 ≤ s.members := ⟨takes_of (by decide +kernel), by decide +kernel⟩

theorem wit_WritesOfTheCabin_10 : work.takes hostR 0x2C2001 [15, 64, 0, 0] ∧ work.bivouac = false ∧ work.openEntry 7 = none ∧
    work.inflightSlot = some 0 := ⟨takes_of (by decide +kernel), by decide +kernel⟩

theorem wit_WritesOfThePorts_1 : work.takes hostR 0x480004 [1] ∧ work.feedEn = false := ⟨takes_of (by decide +kernel), by decide +kernel⟩

def locked : State := { work with guy := ⟨Tri.all true, Tri.all true, true⟩ }

theorem wit_WritesOfThePorts_2 : locked.takes hostR 0x482001 [1] ∧ locked.released = true := ⟨takes_of (by decide +kernel), by decide +kernel⟩

theorem wit_WritesOfThePorts_3 : work.takes hostR 0x50000C [3] := takes_of (by decide +kernel)

theorem wit_WritesOfThePorts_4 : work.takes hostR 0x50000B [7] ∧ work.bivouac = false := ⟨takes_of (by decide +kernel), by decide +kernel⟩

theorem wit_WritesOfThePorts_5 : work.takes hostR 0x50000D [1] := takes_of (by decide +kernel)

theorem wit_WritesOfThePorts_6 : let s := { work with objs := [(0x59000C, [1]), (0x58100C, [1])], can1 := { CanCtl.reset with state := 4 } }
    s.takes hostR (0x58000E + 1 % 2 * 0x1000) [1] ∧ (s.can (1 % 2)).state = 4 ∧ s.canObj (1 % 2) 0x0C = 1 := ⟨takes_of (by decide +kernel), by decide +kernel⟩

theorem wit_WritesOfThePorts_7 : masterOf3.takes hostR (0x601000 + 3) (zeros 240) ∧ masterOf3.bivouac = false ∧ masterOf3.slaveUp 3 = true ∧
    (masterOf3.slaveRec 3).relay = none ∧ ∀ x, Effect.slaveRelay 3 (some x) ∉ masterOf3.effects :=
  ⟨takes_of (by decide +kernel), by decide +kernel, by decide +kernel, by decide +kernel, fun _ h => by
    rw [show masterOf3.effects = [] from by decide +kernel] at h; cases h⟩

theorem wit_WritesOfThePorts_8 : let v := [15] ++ zeros 7 ++ zeros 8 ++ zeros 8
    let s := work.setStream 15 { work.stream 15 with delivered := [⟨0, zeros 8⟩] }
    s.takes hostR 0x440004 v ∧ byteAt v 0 < 16 ∧ slice v 1 7 = zeros 7 ∧
      (s.stream (byteAt v 0)).delivered.any (fun d => d.last == beNat (slice v 8 8) && d.tag == slice v 16 8) = true :=
  ⟨takes_of (by decide +kernel), by decide +kernel⟩

theorem wit_WritesOfThePorts_9 : work.takes hostR (0x440901 + (15 - 13)) (zeros 200) := takes_of (by decide +kernel)

theorem wit_SignedWrites_1 : work.takesSigned hostR 0x340005 [1] 0 := signed_of (by decide +kernel)

theorem wit_SignedWrites_2 : work.takesSigned hostR 0x680005 [0, 10] 0 := signed_of (by decide +kernel)

theorem staged_length (s : State) : s.stagedDigest.length = 32 := sha256_length _

theorem wit_SignedWrites_3 : ∃ v : Bytes,
    work.takesSigned hostR 0x301001 v 0 ∧ slice v 0 32 = work.stagedDigest ∧ beNat (slice v 32 4) = work.epoch % 2 ^ 32 ∧
      (∀ n, n < 64 → recWrong (work.num 0x380008 == 1) (work.imageRec n) = false) ∧ work.imageAdmins ≤ 8 ∧ work.isSealed = false ∧
      work.learning = false ∧ work.epoch % 2 ^ 32 ≠ 2 ^ 32 - 1 ∧
      (work.stage (plainUnit 0 [.inflight 0 (work.newEntry 3 Config.proposalPhases 0 0 hostR)] [])).inflightSlot = some 1 := by
  refine ⟨work.stagedDigest ++ zeros 4, ?_, ?_, ?_, by decide +kernel⟩
  · have hl := staged_length work
    have hv : (work.stagedDigest ++ zeros 4).length = 36 := by simp [hl, zeros]
    generalize work.stagedDigest ++ zeros 4 = v at hv
    refine ⟨by decide, ⟨by decide, .inl ⟨rfl, rfl⟩⟩, by omega, by decide +kernel, by decide +kernel, by decide +kernel, by rfl, by decide +kernel,
      _, rfl, ?_⟩
    unfold State.clampSteps
    have hw : work.clampOwn 3149825 0 v = [v] := rfl
    have hp : padTo 36 v = v := by unfold padTo; rw [← hv, List.take_left]
    simp [hv, hp, changes, hw]
  · have hl := staged_length work
    simp [slice, hl]
  · have hl := staged_length work
    simp [slice, hl]
    decide +kernel

theorem wit_SignedWrites_4 : masterOf3.takesSigned hostR (0x601100 + 3) (zeros 240) 0 ∧ masterOf3.bivouac = false ∧ masterOf3.slaveUp 3 = true ∧
    (masterOf3.slaveRec 3).relay = none ∧ ∀ x, Effect.slaveRelay 3 (some x) ∉ masterOf3.effects :=
  ⟨signed_of (by decide +kernel), by decide +kernel, by decide +kernel, by decide +kernel, fun _ h => by
    rw [show masterOf3.effects = [] from by decide +kernel] at h; cases h⟩

def owned : State := { work with objs := (List.range 24).map fun i => (0x3A1201 + 72 + i, [64]) }

theorem wit_SignedWrites_5 : let v := [72] ++ zeros 39
    owned.takesSigned hostR 0x102001 v 0 ∧ slice v 1 3 = zeros 3 ∧ (∀ i, i < 24 → byteAt v 0 + i < 96 ∧ owned.granuleOwner (byteAt v 0 + i) = 64) ∧
      owned.domReady 3 = true ∧ beNat (slice v 36 4) = owned.tally 16 % 2 ^ 32 ∧ owned.openEntry 4 = none ∧ owned.tally 16 < 2 ^ 48 - 1 ∧
      (owned.stage (plainUnit 0 [.inflight 0 (owned.newEntry 3 Config.proposalPhases 0 0 hostR)] [])).inflightSlot = some 1 :=
  ⟨signed_of (by decide +kernel), by decide +kernel⟩

theorem wit_SignedWrites_6 : 15 ≠ work.num (0x6A0001 + 63) ∧ work.takesSigned hostR (0x6A0001 + 63) (beBytes 1 15) 0 ∧
    (work.stage (plainUnit 0 [.inflight 0 (work.newEntry 3 Config.proposalPhases 0 0 hostR)] [])).inflightSlot = some 1 :=
  ⟨by decide +kernel, signed_of (by decide +kernel), by decide +kernel⟩

/-- A firmware read of an object, as an item. -/
def readItem : Item := requestItem hostR [⟨false, 0x100001, []⟩]

theorem wit_CancelledUnitRunsAgain_1 : let s := { work with rerun := [readItem] }
    s.working = true ∧ readItem.isRequest = true ∧ readItem.cls ≠ 8 ∧ s.staged = [] ∧
    (State.rerunEntry { s with rerun := [] } readItem.requester).isNone = true ∧
    (State.ledgerUnit { s with rerun := [] } 0 readItem []).cancelled.length = s.cancelled.length := by decide +kernel

/-- A start that needs entropy the stroke no longer has. -/
def startItem : Item := requestItem hostR [⟨true, 0x2C0201, [1]⟩]

def dryWork : State :=
  { work with rerun := [startItem]
              tether := { Tether.reset with held := [(5, ⟨0, zeros 8, ⟨0, 0, []⟩, []⟩)] }, sys := { work.sys with entropyTaken := 128 } }

theorem wit_CancelledUnitRunsAgain_2 : dryWork.working = true ∧ startItem.isRequest = true ∧ startItem.cls ≠ 8 ∧ dryWork.staged = [] ∧
    (State.rerunEntry { dryWork with rerun := [] } startItem.requester).isNone = true ∧ startItem.isProtected = false ∧ startItem.asks.isSome = true ∧
    (State.ledgerUnit { dryWork with rerun := [] } 0 startItem []).cancelled.length ≠ dryWork.cancelled.length := by decide +kernel

/-- An internal request waiting, with Quill ready. -/
def quillWork : State :=
  { work with quill := { Quill.reset with state := 0, queue := [⟨0, 1, 9, 0, none, [], [], [], zeros 16, 0, []⟩] } }

theorem wit_QuillModesStart : quillWork.quillUp = true ∧ alookup 0 quillWork.quill.lanes = none ∧ (quillWork.nextOp 0).isSome = true := by
  decide +kernel

/-- A lane works while no completion waits. -/
def laneWork : State :=
  { work with quill := { Quill.reset with state := 0, lanes := [(3, State.reset.intOp ⟨3, 5, 0, 80, none, [], [], zeros 72, [], 0, [0]⟩)] } }

theorem wit_QuillLanesEnd_1 : laneWork.quill.held = [] ∧ (alookup 3 laneWork.quill.lanes).isSome = true ∧ laneWork.quill.sheet = laneWork.sys.stroke / 64 := by
  decide +kernel

/-- An installation (mode 0) as the next operation. -/
def installWork : State :=
  { work with quill := { Quill.reset with state := 0, queue := [⟨3, 5, 0, 80, none, [], [], zeros 72, [], 0, [0]⟩] } }

theorem wit_QuillLanesEnd_2 : installWork.quill.held = [] ∧ alookup 0 installWork.quill.lanes = none ∧ installWork.quillUp = true ∧
    (installWork.nextOp 0).any (fun x => x.1.mode == 0) = true := by decide +kernel

theorem wit_QuillLanesEnd_3 : let s := { laneWork with sys := { laneWork.sys with stroke := 64 } }
    (alookup 3 s.quill.lanes).isSome = true ∧ s.quill.sheet ≠ s.sys.stroke / 64 := by decide +kernel

/-- Quill's completion of the installation of a key in slot 0x50, for the entry at position 0. -/
def installed (status : Nat) : Item := ⟨5, 3, 0, [BitVec.ofNat 8 status], [100, 5, 0, 0]⟩

def loading (status gen expect : Nat) : State :=
  { work with gathered := [installed status], quill := { Quill.reset with slots := [(0x50, ⟨[], 0, gen, 0, 0⟩)], loads := [⟨0, 0x50, expect, [], false⟩] } }

theorem wit_KeyOperations_1 : let s := loading 0 7 7
    s.working = true ∧ s.staged = [] ∧
    s.gathered.find? (fun i => i.cls == 5 && i.idx == 3 && i.aux.getD 1 0 == 5 && i.aux.head? == some 100) = some (installed 0) ∧
    s.quill.loads.find? (fun m => m.pos == (installOf (installed 0)).1) = some ⟨0, 0x50, 7, [], false⟩ ∧
    byteAt (installed 0).val 0 = stOK ∧ (s.slotView 0x50).gen = 7 ∧ (s.slotView 0x50).gen < 2 ^ 32 - 1 := by decide +kernel

theorem wit_KeyOperations_2 : let s := loading 1 7 6
    s.working = true ∧ s.staged = [] ∧
    s.gathered.find? (fun i => i.cls == 5 && i.idx == 3 && i.aux.getD 1 0 == 5 && i.aux.head? == some 100) = some (installed 1) ∧
    s.quill.loads.find? (fun m => m.pos == (installOf (installed 1)).1) = some ⟨0, 0x50, 6, [], false⟩ ∧
    byteAt (installed 1).val 0 ≠ stOK ∧ (s.slotView 0x50).gen ≠ 6 := by decide +kernel

/-- A machine with one in-flight entry open at position 0. -/
def opened (op phase inst : Nat) : State :=
  { work with inflight := [(0, { Inflight.free with op := op, state := 1, phase := phase, phases := 4, inst := inst })] }

theorem wit_KeyOperations_3 : let s := opened 5 1 0x50
    s.working = true ∧ s.effects = [] ∧ (s.inflightAt 0).op = 5 ∧ (s.inflightAt 0).isOpen = true ∧ (s.inflightAt 0).phase = 1 ∧
    s.holdsOld (s.inflightAt 0).inst (s.slotGen (s.inflightAt 0).inst) = false := by decide +kernel

/-- An activation in its target, slot B, at a phase. -/
def activating (phase : Nat) (a : Activation) : State := { opened 8 phase 0 with img := { Images.reset with act := some a } }

def act0 : Activation := ⟨0, 4, [], 0, false, 0, 0⟩

theorem wit_ImageActivation_1 : (activating 0 act0).actAt 0 = some act0 ∧ act0.nextPage + (if act0.voided then 4 else 3) < 383 := by decide +kernel

theorem wit_ImageActivation_2 : let a := { act0 with voided := true, nextPage := 379 }
    (activating 0 a).actAt 0 = some a ∧ 383 ≤ a.nextPage + (if a.voided then 4 else 3) := by decide +kernel

/-- Slot B delivered with a pair: what its activation verifies against its digest. -/
def bothSlots : State := { activating 1 act0 with img := { (activating 1 act0).img with slotB := Slot.delivered0 } }

def act1 (d : Bytes) : Activation := { act0 with digest := d }

theorem actAt_of {s : State} {a : Activation} {n : Nat} (h1 : s.working = true) (h2 : s.staged = []) (h3 : s.img.act = some a)
    (h4 : (s.inflightAt a.pos).isOpen = true) (h5 : (s.inflightAt a.pos).phase = n) : s.actAt n = some a := by
  simp [State.actAt, h1, h2, h3, h4, h5]

def withAct (d : Bytes) : State := { bothSlots with img := { bothSlots.img with act := some (act1 d) } }

theorem withAct_at (d : Bytes) : (withAct d).actAt 1 = some (act1 d) := actAt_of rfl rfl rfl rfl rfl

theorem targetPasses_of {s : State} {a : Activation} (h : sha256 ((s.slot (!s.img.bootB)).read 0 98048) = a.digest)
    (k : testedPair (s.aboveFloor (!s.img.bootB) true) (s.aboveFloor (!s.img.bootB) false) steppingBit = true) : s.targetPasses a = true := by
  simp only [State.targetPasses, h, k, beq_self_eq_true, Bool.and_self]

theorem imageFacts_delivered {s : State} {b m : Bool} {d : ImageFacts × ImageFacts} (h : (s.slot b).delivered = some d) :
    s.imageFacts b m = if m then d.1 else d.2 := by
  simp only [State.imageFacts, h]

theorem aboveFloor_delivered {s : State} {b m : Bool} {d : ImageFacts × ImageFacts} (h : (s.slot b).delivered = some d)
    (k : s.tally (if m then 17 else 18) ≤ (if m then d.1 else d.2).version) : s.aboveFloor b m = (if m then d.1 else d.2) := by
  have e : s.aboveFloor b m = { s.imageFacts b m with
    verifies := (s.imageFacts b m).verifies && decide (s.tally (if m then 17 else 18) ≤ (s.imageFacts b m).version) } := rfl
  rw [e, imageFacts_delivered h, decide_eq_true k, Bool.and_true]

theorem tally_fresh {s : State} (h : s.ink = Inkwell.reset) : s.tally 17 = 0 ∧ s.tally 18 = 0 := by
  unfold State.tally
  rw [h]
  decide +kernel

theorem withAct_passes (d : Bytes) (h : sha256 (((withAct d).slot true).read 0 98048) = d) : (withAct d).targetPasses (act1 d) = true := by
  have e : (!(withAct d).img.bootB) = true := rfl
  have k := tally_fresh (s := withAct d) rfl
  refine targetPasses_of (by rw [e]; exact h) ?_
  rw [e, aboveFloor_delivered rfl (m := true) (Nat.le_trans (Nat.le_of_eq k.1) (Nat.zero_le _)),
    aboveFloor_delivered rfl (m := false) (Nat.le_trans (Nat.le_of_eq k.2) (Nat.zero_le _))]
  unfold steppingBit
  cases Config.steppingIsB0 <;> decide +kernel

theorem wit_ImageActivation_3 : ∃ (s : State) (a : Activation), s.actAt 1 = some a ∧ s.targetPasses a = true := by
  have e : ∀ d, (withAct d).slot true = Slot.delivered0 := fun _ => rfl
  obtain ⟨d, h⟩ : ∃ d, sha256 (Slot.delivered0.read 0 98048) = d := ⟨_, rfl⟩
  exact ⟨withAct d, act1 d, withAct_at d, withAct_passes d (by rw [e]; exact h)⟩

theorem wit_ImageActivation_4 : ∃ (s : State) (a : Activation), s.actAt 1 = some a ∧ s.targetPasses a = false := by
  refine ⟨activating 1 act0, act0, by decide +kernel, ?_⟩
  unfold State.targetPasses
  rw [Bool.and_eq_false_iff]
  exact .inr (by decide +kernel)

theorem wit_ImageActivation_5 : (activating 2 act0).actAt 2 = some act0 := by decide +kernel

theorem wit_ImageActivation_6 : (activating 3 act0).actAt 3 = some act0 := by decide +kernel

theorem wit_ImageActivation_7 : let s := activating 0 { act0 with refused := 1000 }
    s.actNow = some { act0 with refused := 1000 } ∧ s.working = true ∧ (s.inflightAt 0).isOpen = true := by decide +kernel

/-- Stream 15 holds a record, and the global page offers a descriptor for its blocks. -/
def logged : State :=
  { work with
    objs := [(0x3A1201, [64]), (0x6A0041, [1])]
    host := { HostPort.reset with rings := [⟨0, 0, 0x36, 0, 0, false, false, true, 1, 0, [], 0⟩] }
    mem := [(28, 15)], folio := { Folio.reset with streams := [(15, ⟨[⟨0, 1, 1, .complete, [⟨1, Stamp.zero, 1, 3, 0, []⟩]⟩], 0, 0, false, [], none⟩)] } }

theorem wit_FolioExport_1 : logged.working = true ∧ logged.openEntry 6 = none ∧ logged.portsIdle = true ∧ logged.inflightSlot = some 0 ∧ logged.exportStream = some 15 := by decide +kernel


/-- The completion of a block's seal. -/
def sealedItem (status : Nat) : Item := ⟨5, 2, 0, [BitVec.ofNat 8 status], [100, 6, 0]⟩

def exporting (status : Nat) : State :=
  { opened 6 1 1 with gathered := [sealedItem status], folio := { Folio.reset with exporting := some ⟨0, 15, 1, 1, Stamp.zero, []⟩ } }

theorem wit_FolioExport_2 : let s := exporting 0
    s.gathered.find? (fun i => i.cls == 5 && i.idx == 2 && i.aux.take 2 == [100, 6]) = some (sealedItem 0) ∧
    s.folio.exporting = some ⟨0, 15, 1, 1, Stamp.zero, []⟩ ∧ s.working = true ∧ (s.inflightAt 0).isOpen = true ∧
    byteAt (sealedItem 0).val 0 = stOK := by decide +kernel

theorem wit_FolioExport_3 : let s := exporting 11
    s.gathered.find? (fun i => i.cls == 5 && i.idx == 2 && i.aux.take 2 == [100, 6]) = some (sealedItem 11) ∧
    s.folio.exporting = some ⟨0, 15, 1, 1, Stamp.zero, []⟩ ∧ s.working = true ∧ (s.inflightAt 0).isOpen = true ∧
    byteAt (sealedItem 11).val 0 ≠ stOK := by decide +kernel

theorem wit_FolioExport_4 : ∃ (s : State) (n u : Nat), (s.stream n).ackDue = some u ∧ u ≤ s.sys.stroke :=
  ⟨{ work with sys := { work.sys with stroke := 9 }, folio := { Folio.reset with streams := [(3, ⟨[], 1, 4, false, [], some 9⟩)] } }, 3, 9, by decide +kernel⟩

theorem wit_DomainsReady : ∃ (s : State), s.sys.rising.any (fun d => d.1 == 8) = true ∧ s.sys.rising.any (fun d => d.1 == 9) = true :=
  ⟨{ work with sys := { work.sys with rising := [(8, 1), (9, 1)] } }, by decide +kernel⟩

/-- The regulatory region loaded, every LF channel allowed CODE 63 and 1,000 ms an hour. -/
def regs : List Bytes := [zeros 1, zeros 1, zeros 1, List.replicate 8 63 ++ (List.range 8).flatMap (fun _ => beBytes 4 1000), zeros 1]

def lfWork (x : LfSched) : State := { work with lf := { Lantern.reset with next := some x }, radio := { Radio.reset with reg := regs } }

theorem wit_LanternActivity_1 : let s := lfWork ⟨1, 0, 0, 0, [], []⟩
    s.lf.next = some ⟨1, 0, 0, 0, [], []⟩ ∧ s.lf.running = none ∧ 0 ≤ s.sys.stroke ∧ s.sys.power = .running ∧ s.bivouac = false ∧ s.guardMet = true := by
  decide +kernel

/-- An LF activity with bursts still to end, Feed off. -/
def lfRun (bs : List Burst) : State :=
  { work with lf := { Lantern.reset with running := some ⟨⟨1, 0, 0, 0, [], []⟩, bs, false⟩ }, radio := { Radio.reset with reg := regs }, objs := [(0x200002, [0xFF])] }

theorem wit_LanternActivity_2 : let b : Burst := ⟨1, 0, 7, 63, 500⟩
    (lfRun [b, b]).lf.running = some ⟨⟨1, 0, 0, 0, [], []⟩, [b, b], false⟩ ∧ b.kind ≠ 3 ∧ b.chan / 32 = (lfRun [b, b]).sys.cascId ∧
      (lfRun [b, b]).lfBar (b.chan % 8) = 0 := by decide +kernel

theorem wit_LanternActivity_3 : (lfRun [⟨1, 0, 7, 63, 500⟩]).lf.running ≠ none ∧ ((lfRun [⟨1, 0, 7, 63, 500⟩]).setLfChan 7 { (lfRun []).lfChan 7 with flags := 2 }).lf.running ≠ none ∧
    (((lfRun [⟨1, 0, 7, 63, 500⟩]).setLfChan 7 { (lfRun []).lfChan 7 with flags := 2 }).lfChan 7).flags.testBit 1 = true := by decide +kernel

theorem wit_LanternActivity_4 : ∃ s : State, s.sys.stroke % s.regWindow = 0 := ⟨work, by decide +kernel⟩

theorem wit_LanternActivity_5 : let s := st .running .commit
    s.committing = true ∧ s.lf.running = none ∧ s.lf.next = none := by decide +kernel

theorem wit_CradleAndHandles_1 : let b : Burst := ⟨3, 0xFF, 0, 63, 0⟩
    (lfRun [b, b]).uplinkBurst = some (⟨⟨1, 0, 0, 0, [], []⟩, [b, b], false⟩, b, [b]) ∧ b.chan / 32 = (lfRun [b, b]).sys.cascId ∧
      (lfRun [b, b]).lfBar (b.chan % 8) = 0 := by decide +kernel

theorem wit_CradleAndHandles_2 : let s := { st .standby .gather with objs := [(0x240001, [1])] }
    s.sys.power = .standby ∧ s.num 0x240001 = 1 ∧ (s.hsChan 0).state = 0 ∧ (∀ c, 1 ≤ c → c < 4 → (s.hsChan c).state = 0) :=
  ⟨by decide, by decide +kernel, by decide, fun _ _ _ => rfl⟩

theorem wit_CradleAndHandles_3 : let s := { work with lf := { Lantern.reset with hs := [(3, ⟨3, 900, 60, 0, 0, 0, 0, 5⟩)] }, sys := { work.sys with stroke := 10 ^ 7 } }
    (s.hsChan 3).state = 3 ∧ (s.hsChan 3).since + s.secStrokes (s.num 0x240005) ≤ s.sys.stroke := by decide +kernel

/-- An entry of a radio list: the radio, the action, starting at a stroke. -/
def entry (radio action start : Nat) : RadioEntry :=
  ⟨radio, action, false, start, 0, 433920000, 0, 0, 0, 0, 0, 0, [], 100, false, false, 4⟩

def listed (es : List RadioEntry) (i : Nat) : State := { work with radio := { Radio.reset with running := some (⟨es, false⟩, i) } }

theorem wit_Radios_1 : let s := listed [entry 1 3 9] 0
    s.radioState 1 = 0 ∧ s.domReady (radioDomain 1) = true ∧ s.radioHead = some (⟨[entry 1 3 9], false⟩, 0) ∧
      ([entry 1 3 9].drop 0).any (fun e => e.radio == 1) = true := by decide +kernel

theorem wit_Radios_2 : let s := listed [entry 0 1 0] 0
    s.radio.running = some (⟨[entry 0 1 0], false⟩, 0) ∧ [entry 0 1 0][0]? = some (entry 0 1 0) ∧ alookup 0 s.radio.act = none ∧
      (entry 0 1 0).start ≤ s.sys.stroke ∧ s.domReady 8 = true ∧ s.coexScope 0 = false := by decide +kernel

/-- Coexistence obeyed, both radios in its scope. -/
def coexed (es : List RadioEntry) (i : Nat) : State := { listed es i with objs := [(0x28000F, [2]), (0x280012, [3])] }

theorem wit_Radios_3 : let s := coexed [entry 0 1 0] 0
    s.radio.running = some (⟨[entry 0 1 0], false⟩, 0) ∧ alookup 0 s.radio.act = none ∧ (entry 0 1 0).start ≤ s.sys.stroke ∧
      s.domReady (radioDomain 0) = true ∧ s.coexScope 0 = true ∧ s.num 0x28000F = 2 := by decide +kernel

/-- A radio in an activity, or in a sniff window (entry 0xFF). -/
def acting (radio n part : Nat) : State :=
  { coexed [entry radio 1 0] 1 with radio := { (coexed [entry radio 1 0] 1).radio with act := [(radio, ⟨n, entry radio 1 0, part, 0, 10, false, []⟩)] } }

theorem wit_Radios_4 : alookup 0 (acting 0 0 1).radio.act = some ⟨0, entry 0 1 0, 1, 0, 10, false, []⟩ := by decide +kernel

theorem wit_Radios_5 : alookup 1 (acting 1 0 0).radio.act = some ⟨0, entry 1 1 0, 0, 0, 10, false, []⟩ ∧ (acting 1 0 0).domReady 9 = true := by decide +kernel

/-- A packet of four zero bytes with its CRC. -/
def packet : Bytes := [4, 0, 0, 0, 0] ++ beBytes 2 (crc16 [4, 0, 0, 0, 0])

theorem wit_Radios_6 : packetParse packet = some (zeros 4) ∧ (alookup 0 (acting 0 0xFF 1).radio.act).any (fun a => a.entry == 0xFF) = true ∧
    ({ acting 0 0xFF 1 with objs := [] } : State).sniffMatch (zeros 4) = true ∧ (acting 0 0xFF 1).sys.power ≠ .standby := by decide +kernel

theorem wit_Radios_7 : let s := { work with radio := { Radio.reset with uwb := 1 } }
    s.radioState 1 = 1 ∧ alookup 1 s.radio.act = none ∧ s.radioHead = none := by decide +kernel

/-- A sniffing receiver in standby. -/
def sniffing (act : List (Nat × RadioAct)) : State :=
  { st .standby .gather with objs := [(0x28000A, [1])], radio := { Radio.reset with reg := regs, act := act } }

theorem wit_Radios_8 : (sniffing []).num 0x28000A = 1 ∧ (sniffing []).regBlocked = false ∧ (sniffing []).sys.power = .standby ∧
    alookup 0 (sniffing []).radio.act = none ∧ (sniffing []).radioHead = none := by decide +kernel

theorem wit_Radios_9 : let s := sniffing [(0, ⟨0, entry 0 1 0, 1, 0, 10, false, []⟩)]
    s.num 0x28000A = 1 ∧ s.regBlocked = false ∧ s.sys.power = .standby ∧ alookup 0 s.radio.act ≠ none := by decide +kernel

theorem wit_Radios_10 : let s := { work with radio := { Radio.reset with uhf := 1 } }
    alookup 2 s.radio.cals = none ∧ s.radio.running = none ∧ s.radio.next = none ∧ s.radioState 0 ≤ 1 ∧ alookup 0 s.radio.act = none ∧
      s.domReady 8 = true := by decide +kernel

theorem wit_Radios_11 : let s := { work with radio := { Radio.reset with cals := [(3, 0, 25, false)] }, sys := { work.sys with stroke := 10 ^ 9 } }
    alookup 3 s.radio.cals = some (0, 25, false) ∧ 0 + s.secStrokes (5 * s.num 0x280013) < s.sys.stroke := by decide +kernel

theorem wit_Radios_12 : (acting 0 0 0).radio.act = [(0, ⟨0, entry 0 1 0, 0, 0, 10, false, []⟩)] ∧ (acting 0 0 0).coexScope 0 = true ∧
    (acting 0 0 0).num 0x28000F = 2 := by decide +kernel

/-- A machine with a token loaded in slot 0: role 2, active, its window open, and Quill ready. -/
def tokened : State :=
  { work with
    ink := { Inkwell.reset with pages := (List.range 14).map fun i =>
      (pairPage 0 i, ⟨1, 0, if i = 0 then zeros 40 ++ zeros 32 ++ [2, 1] ++ zeros 8 ++ List.replicate 8 255 ++ zeros 150 else zeros 240, .complete⟩) }
    quill := { Quill.reset with state := 0 } }

/-- The answer of the token in slot 0 with counter 1. -/
def answer0 : Bytes := [0x13, 0] ++ beBytes 4 1 ++ [0] ++ zeros 16

/-- A start by cradle, answered, its MAC found good. -/
def granted : Exchange :=
  ⟨3, 0xFE, none, .answered, 0, 0, true, 0, [], [], [], [], [], some 1, some 7, false, 0, false, true, some answer0, some (0, 0), none, false, false,
    [1], [], 0, []⟩

theorem wit_AccessNeedsProof : (tokened.judge granted).reason = 0 := by decide +kernel

/-- A gathered TOUCH of handle 1, which routes to pattern 2. -/
def touch : Item := ⟨6, 1, 0, zeros 9, [2]⟩

def touched (run : Option Exchange) : State :=
  { work with gathered := [touch], objs := [(0x2C0801, [1, 2])], tether := { Tether.reset with run := run } }

theorem wit_ExchangeSteps_1 : let s := touched none
    s.working = true ∧ s.gathered.find? (fun i => i.cls == 6 && i.aux == [2]) = some touch ∧ s.tether.run = none ∧ s.tether.waiting = none ∧
      s.route touch.idx = some 2 ∧ s.newestWake = none := by decide +kernel

theorem wit_ExchangeSteps_2 : let s := touched (some { granted with kind := 1 })
    s.working = true ∧ s.gathered.find? (fun i => i.cls == 6 && i.aux == [2]) = some touch ∧ s.tether.run = some { granted with kind := 1 } ∧
      s.tether.waiting = none := by decide +kernel

theorem wit_ExchangeSteps_3 : let s := touched (some granted)
    s.working = true ∧ s.gathered.find? (fun i => i.cls == 6 && i.aux == [2]) = some touch ∧ s.tether.run = some granted ∧ s.tether.waiting = none ∧
      granted.kind ≠ 1 := by decide +kernel

/-- The item of an empty listen window of a poll. -/
def heardNothing : Item := ⟨8, 0, 0, [2] ++ zeros 9, []⟩

def polling : Exchange := { granted with kind := 1, phase := .listening }

def listening (held : List (Nat × Wake)) : State :=
  { work with gathered := [heardNothing], tether := { Tether.reset with run := some polling, held := held } }

theorem wit_ExchangeSteps_4 : let s := listening []
    s.working = true ∧ s.tether.run = some polling ∧ polling.phase = .listening ∧
      s.gathered.filter (fun i => i.cls == 8 && byteAt i.val 0 != 4) = [heardNothing] ∧ s.newestWake = none ∧ polling.kind = 1 := by decide +kernel

theorem wit_ExchangeSteps_5 : let s := listening [(5, ⟨0, zeros 8, ⟨0, 0, []⟩, []⟩)]
    s.working = true ∧ s.tether.run = some polling ∧ polling.phase = .listening ∧
      s.gathered.filter (fun i => i.cls == 8 && byteAt i.val 0 != 4) = [heardNothing] ∧ s.newestWake = some (5, ⟨0, zeros 8, ⟨0, 0, []⟩, []⟩) ∧
      s.sys.entropyTaken + 26 ≤ 128 := by decide +kernel

/-- An exchange over the air at its response stroke, with the answer heard. -/
def airborne (lockout : Bool) : Exchange :=
  { granted with kind := 1, phase := .running, resp := some 0, due := none, lockout := lockout, answer := none
                 inputs := [⟨0, 8 * 2 ^ 24, [1] ++ zeros 8 ++ [23] ++ ([0x03, 0] ++ beBytes 4 1 ++ [0] ++ zeros 16)⟩] }

theorem wit_ExchangeAnswered_1 : let s := { work with tether := { Tether.reset with run := some (airborne false) } }
    s.working = true ∧ (airborne false).phase = .running ∧ (airborne false).found = true ∧ (airborne false).resp = some s.sys.stroke ∧
      (airborne false).response.isSome = true ∧ (airborne false).lockout = false ∧ (airborne false).cradle = false := by decide +kernel

theorem wit_ExchangeAnswered_2 : let s := { work with tether := { Tether.reset with run := some (airborne true) } }
    s.working = true ∧ (airborne true).phase = .running ∧ (airborne true).found = true ∧ (airborne true).resp = some s.sys.stroke ∧
      (airborne true).lockout = true := by decide +kernel

/-- An answered exchange whose decision is due. -/
def deciding (x : Exchange) : State := { opened 2 0 0 with tether := { Tether.reset with run := some x }, sys := { work.sys with stroke := 7 } }

theorem wit_ExchangeDecided_1 : (deciding granted).working = true ∧ (deciding granted).exchangeNow = some granted ∧ granted.due = some 7 ∧
    7 ≤ (deciding granted).sys.stroke ∧ granted.config ≠ [] ∧ granted.kind ≠ 4 ∧ granted.pos = none := by decide +kernel

theorem wit_ExchangeDecided_2 : let x := { granted with pos := some 0 }
    (deciding x).working = true ∧ (deciding x).exchangeNow = some x ∧ x.due = some 7 ∧ x.config ≠ [] ∧ x.kind ≠ 4 ∧
      ((deciding x).inflightAt 0).isOpen = true := by decide +kernel

theorem wit_ExchangeDecided_3 : let x := { granted with config := [] }
    (deciding x).working = true ∧ (deciding x).exchangeNow = some x ∧ x.due = some 7 ∧ x.config = [] := by decide +kernel

theorem wit_ExchangeDecided_4 : let x := { granted with kind := 4 }
    (deciding x).working = true ∧ (deciding x).exchangeNow = some x ∧ x.due = some 7 ∧ x.config ≠ [] ∧ x.kind = 4 := by decide +kernel

theorem wit_LockoutTimes_1 : let s := { work with tether := { Tether.reset with window := some 0 }, sys := { work.sys with stroke := 10 ^ 9 } }
    s.tether.window = some 0 ∧ s.working = true ∧ 0 + s.secStrokes (s.num 0x340002) ≤ s.sys.stroke := by decide +kernel

theorem wit_LockoutTimes_2 : let s := { work with ink := Inkwell.reset.writeCell (.tally 5 60), sys := { work.sys with stroke := work.secStrokes 1 - 1 } }
    s.working = true ∧ s.lockedOut = true ∧ (s.sys.stroke + 1) % s.secStrokes 1 = 0 := by decide +kernel

theorem wit_LockoutTimes_3 : let s := { listening [(5, ⟨0, zeros 8, ⟨0, 0, []⟩, []⟩)] with sys := { work.sys with stroke := 10 ^ 6 } }
    alookup 5 s.tether.held = some ⟨0, zeros 8, ⟨0, 0, []⟩, []⟩ ∧ 0 + s.secStrokes 30 ≤ s.sys.stroke := by decide +kernel

/-- A Learn at a phase, its entry at position 0. -/
def learning (phase : Nat) (l : Learn) : State := { opened 4 phase 0 with people := { People.reset with learn := some l } }

def learn0 : Learn := ⟨0, 0, [], [], 0, 0, none, [], [], 0, false⟩

theorem wit_LearnPhases_1 : let s := learning 0 learn0
    s.working = true ∧ s.learnNow = some learn0 ∧ s.staged.any (fun u => u.need == .phase) = false ∧ s.learnPhaseOf learn0 = 0 ∧
      learn0.written < 14 ∧ learn0.awaiting = [] ∧ learn0.failed = false ∧ s.gathered.filter Item.isUnwrap = [] := by decide +kernel

theorem wit_LearnPhases_2 : let s := learning 1 learn0
    s.learnNow = some learn0 ∧ s.learnPhaseOf learn0 = 1 ∧ learn0.pos < 16 ∧ learn0.checked = none ∧
      s.bankValid ((learn0.epoch + 1) % 2) (learn0.epoch + 1) = false := by decide +kernel

/-- Bank 1 written and valid for epoch 1. -/
def bank1 (d : Bytes) : Inkwell :=
  { Inkwell.reset with pages := (List.range 14).map fun i => (pairPage 0 (14 + i), ⟨1, 0, if i = 0 then [1, 0, 0, 0] ++ d ++ zeros 204 else zeros 240, .complete⟩) }

theorem bank1_payload (d : Bytes) (i : Nat) (h : i < 14) : (bank1 d).payload (pairPage 0 (14 + i)) =
    some (if i = 0 then [1, 0, 0, 0] ++ d ++ zeros 204 else zeros 240) := by
  have : i = 0 ∨ i = 1 ∨ i = 2 ∨ i = 3 ∨ i = 4 ∨ i = 5 ∨ i = 6 ∨ i = 7 ∨ i = 8 ∨ i = 9 ∨ i = 10 ∨ i = 11 ∨ i = 12 ∨ i = 13 := by omega
  rcases this with rfl | rfl | rfl | rfl | rfl | rfl | rfl | rfl | rfl | rfl | rfl | rfl | rfl | rfl <;> rfl

def learned (d : Bytes) : State := { learning 1 { learn0 with reports := [3] } with ink := bank1 d }

theorem bank1_bank (d : Bytes) (h : d.length = 32) : (learned d).bank 1 = some ([1, 0, 0, 0] ++ d ++ zeros 3324) := by
  have hp : ∀ i, i < 14 → (learned d).ink.payload (pairPage 0 (14 * 1 + i)) = some (if i = 0 then [1, 0, 0, 0] ++ d ++ zeros 204 else zeros 240) :=
    fun i hi => bank1_payload d i hi
  have pz : padTo 240 (zeros 240) = zeros 240 := by decide +kernel
  have p0 : padTo 240 ([1, 0, 0, 0] ++ d ++ zeros 204) = [1, 0, 0, 0] ++ d ++ zeros 204 := by
    unfold padTo
    exact List.take_left' (by rw [List.length_append, List.length_append, h]; unfold zeros; rw [List.length_replicate]; rfl)
  have zz : ∀ (b : Bytes) (n m : Nat), b ++ zeros n ++ zeros m = b ++ zeros (n + m) := by
    intro b n m; rw [List.append_assoc]; unfold zeros; rw [List.replicate_append_replicate]
  unfold State.bank
  rw [show List.range 14 = [0, 1, 2, 3, 4, 5, 6, 7, 8, 9, 10, 11, 12, 13] from rfl]
  simp only [List.foldl_cons, List.foldl_nil, hp 0 (by decide), hp 1 (by decide), hp 2 (by decide), hp 3 (by decide), hp 4 (by decide),
    hp 5 (by decide), hp 6 (by decide), hp 7 (by decide), hp 8 (by decide), hp 9 (by decide), hp 10 (by decide), hp 11 (by decide),
    hp 12 (by decide), hp 13 (by decide), if_true, if_false, List.nil_append, p0, pz, zz, OfNat.ofNat_ne_zero, one_ne_zero]

theorem bank1_valid (d : Bytes) (h : d.length = 32) (k : sha256 (zeros 3200) = d) : (learned d).bankValid 1 1 = true := by
  unfold State.bankValid
  rw [bank1_bank d h]
  have e1 : slice ([1, 0, 0, 0] ++ d ++ zeros 3324) 0 4 = [1, 0, 0, 0] := rfl
  have e2 : slice ([1, 0, 0, 0] ++ d ++ zeros 3324) 4 32 = d := by
    show (d ++ zeros 3324).take 32 = d
    exact List.take_left' h
  have e3 : slice ([1, 0, 0, 0] ++ d ++ zeros 3324) 40 3200 = zeros 3200 := by
    show ((d ++ zeros 3324).drop 36).take 3200 = zeros 3200
    rw [List.drop_append, h, List.drop_eq_nil_of_le (by omega)]
    decide +kernel
  simp only [bankDigest, e1, e2, e3, k, beq_self_eq_true, Bool.and_true]
  rw [show (leNat [1, 0, 0, 0] == 1 % 2 ^ 32) = true by decide +kernel, Bool.or_true]

def learnR : Learn := { learn0 with reports := [3] }

theorem wit_LearnPhases_3 : ∃ d, let s := learned d
    s.learnNow = some learnR ∧ s.learnPhaseOf learnR = 1 ∧ learnR.pos < 16 ∧ s.bankValid ((learnR.epoch + 1) % 2) (learnR.epoch + 1) = true ∧
      (∀ n, n ∈ s.slavesUp → n ∈ learnR.reports ∨ n ∈ learnR.left) := by
  obtain ⟨d, h⟩ : ∃ d, sha256 (zeros 3200) = d := ⟨_, rfl⟩
  have k := sha256_length (zeros 3200)
  rw [h] at k
  refine ⟨d, rfl, rfl, by decide, bank1_valid d k h, ?_⟩
  rw [show (learned d).slavesUp = [] from rfl]
  exact fun n hn => nomatch hn

/-- A Learn whose own bank was checked at stroke 5 and that waits for slave 3. -/
def learnW : Learn := { learn0 with checked := some 5 }

theorem wit_LearnPhases_4 : let s := { learning 1 learnW with pole := masterOf3.pole, sys := { work.sys with stroke := 37 } }
    s.learnNow = some learnW ∧ s.learnPhaseOf learnW = 1 ∧ learnW.checked = some 5 ∧ 5 + 32 ≤ s.sys.stroke ∧ s.slavesUp.contains 3 = true ∧
      learnW.reports.contains 3 = false := by decide +kernel

theorem wit_LearnPhases_5 : (learning 2 learn0).learnNow = some learn0 ∧ (learning 2 learn0).learnPhaseOf learn0 = 2 := by decide +kernel

theorem wit_LearnPhases_6 : (learning 3 learn0).learnNow = some learn0 ∧ (learning 3 learn0).learnPhaseOf learn0 = 3 ∧ learn0.scrub + 4 < 30 := by decide +kernel

theorem wit_LearnPhases_7 : let l := { learn0 with scrub := 28 }
    (learning 3 l).learnNow = some l ∧ (learning 3 l).learnPhaseOf l = 3 ∧ 30 ≤ l.scrub + 4 := by decide +kernel

theorem wit_LearnPhases_8 : (learning 4 learn0).learnNow = some learn0 ∧ (learning 4 learn0).learnPhaseOf learn0 = 4 := by decide +kernel

theorem wit_LearnPhases_9 : let l := { learn0 with refused := 1000 }
    (learning 0 l).learnNow = some l ∧ (learning 0 l).learnPhaseOf l < 3 ∧ 1000 ≤ l.refused := by decide +kernel

/-- Quill's verification of a host principal's MAC on a proposal. -/
def authItem (tag : Nat) : Item := ⟨5, 0, 0, [0, BitVec.ofNat 8 tag], [100, 3, 9, 0x40]⟩

/-- A held proposal, number 9, with its count of members so far. -/
def proposal9 (st first fails : Nat) : Proposal := ⟨2, 9, st, first, fails, hostR, zeros 32, zeros 16, 100, 0, false, [], 0⟩

def authed (tag : Nat) (p : Proposal) : State :=
  { work with gathered := [authItem tag], people := { People.reset with proposals := [p] }, objs := [(0x680002, [15])]
              quill := { Quill.reset with slots := [(0x40, ⟨[], 1, 0, 0, 0⟩), (0x41, ⟨[], 1, 0, 0, 0⟩)] } }

theorem wit_Countersigning_1 : let s := authed 0 (proposal9 1 0 0)
    s.working = true ∧ s.gathered.find? (fun i => i.authentication.isSome) = some (authItem 0) ∧ (authItem 0).authentication = some (9, 0x40) ∧
      s.proposalsNow.find? (fun q => q.num == 9) = some (proposal9 1 0 0) ∧ byteAt (authItem 0).val 0 = stOK ∧ byteAt (authItem 0).val 1 = 0 := by
  decide +kernel

theorem wit_Countersigning_2 : let s := authed 0 (proposal9 2 0x41 0)
    s.proposalsNow.find? (fun q => q.num == 9) = some (proposal9 2 0x41 0) ∧ s.sys.stroke ≤ (proposal9 2 0x41 0).closes ∧ s.isMember 0x41 = true ∧
      s.isMember 0x40 = true := by decide +kernel

theorem wit_Countersigning_3 : let s := authed 1 (proposal9 1 0 1)
    s.gathered.find? (fun i => i.authentication.isSome) = some (authItem 1) ∧ s.proposalsNow.find? (fun q => q.num == 9) = some (proposal9 1 0 1) ∧
      byteAt (authItem 1).val 0 = stOK ∧ byteAt (authItem 1).val 1 ≠ 0 ∧ (proposal9 1 0 1).fails < 2 := by decide +kernel

theorem wit_Countersigning_4 : let s := authed 1 (proposal9 1 0 2)
    s.gathered.find? (fun i => i.authentication.isSome) = some (authItem 1) ∧ s.proposalsNow.find? (fun q => q.num == 9) = some (proposal9 1 0 2) ∧
      byteAt (authItem 1).val 0 = stOK ∧ byteAt (authItem 1).val 1 ≠ 0 ∧ 2 ≤ (proposal9 1 0 2).fails := by decide +kernel

theorem wit_Countersigning_5 : let s := { authed 1 (proposal9 1 0 2) with sys := { work.sys with stroke := 100 } }
    s.working = true ∧ s.proposalsNow.find? (fun q => q.num == 9) = some (proposal9 1 0 2) ∧ (proposal9 1 0 2).closes ≤ s.sys.stroke := by decide +kernel

theorem wit_Countersigning_6 : let s := { work with people := { People.reset with debugUntil := some 0 } }
    s.people.debugUntil = some 0 ∧ 0 ≤ s.sys.stroke := by decide +kernel

/-- Feed in a state, with FEED_EN asserted or not, its PLL locked. -/
def feeding (n : Nat) (en : Bool) : State :=
  { work with guy := ⟨Tri.all false, Tri.all en, en⟩, feed := { Feed.reset with state := n, locked := true, fsync := 4000000 } }

theorem wit_FeedStates_1 : (feeding 1 true).feedEn = true ∧ (feeding 1 true).feed.locked = true ∧ (feeding 1 true).feed.state = 1 := by decide +kernel

theorem wit_FeedStates_2 : (feeding 3 true).feed.state = 3 ∧ (feeding 3 true).feedCfg 8 = 2 ∧
    (State.feedCfg { feeding 3 true with feed := { (feeding 3 true).feed with cfg := [1, 8, 0, 80, 0, 160, 8, 40, 1] } } 8 ≠ 2) ∧
    ({ feeding 3 true with feed := { (feeding 3 true).feed with switching := true } } : State).feed.switching = true := by decide +kernel

theorem wit_FeedStates_3 : (feeding 2 true).feed.state = 2 ∧ (feeding 4 true).feed.state = 4 ∧ (feeding 5 true).feed.state = 5 ∧
    (feeding 6 true).feed.state = 6 ∧ (feeding 7 false).feed.state = 7 ∧ (feeding 9 false).feed.state = 9 := by decide +kernel

theorem wit_FeedStates_4 : (feeding 8 true).feed.state = 8 ∧ (feeding 8 true).feedEn = true ∧ (feeding 8 false).feed.state = 8 ∧
    (feeding 8 false).feedEn = false := by decide +kernel

theorem wit_FeedStates_5 : ∃ s : State, s.feedEn = false ∧ 2 ≤ s.feed.state ∧ s.feed.state ≤ 6 := ⟨feeding 6 false, by decide +kernel⟩

theorem wit_FeedStates_6 : ∃ s : State, s.feed.watch = true := ⟨{ work with feed := { Feed.reset with state := 5, watch := true } }, rfl⟩

theorem wit_FeedTiming_1 : let s := { work with feed := { Feed.reset with state := 1 } }
    s.feed.state ≠ 0 ∧ s.feed.locked = false ∧ s.syncMeets 4000000 = true := by decide +kernel

theorem wit_FeedTiming_2 : (feeding 5 true).feed.locked = true ∧ (feeding 5 true).feed.lost = false ∧
    State.syncMeets { feeding 5 true with feed := { (feeding 5 true).feed with lost := true } } 9000000 = true := by decide +kernel

theorem wit_FeedTiming_3 : let s := { feeding 6 true with feed := { (feeding 6 true).feed with pointer := 4, lsArmed := true, cfg := [6, 8] ++ List.replicate 17 0 ++ [20] } }
    s.feed.state = 6 ∧ s.feedCfg 19 ≠ 0 ∧ s.feed.lsArmed = true ∧
      ((List.range (max 1 (s.feedCfg 0))).map fun i => (s.feed.pointer + i) % max 1 (s.feedCfg 0)).find? (Nat.testBit 3) = some 0 := by decide +kernel

/-- Feed in a state with a last accepted SET_VID. -/
def linked (n : Nat) (last : Option (Nat × Nat × Nat)) : State := { feeding n true with feed := { (feeding n true).feed with last := last, link := 1 } }

theorem wit_FeedlineExchanges_1 : (linked 5 (some (7, 80, 40))).feed.state ≠ 0 ∧ ((linked 5 (some (7, 80, 40))).linkValid 3).feed.last = some (7, 80, 40) ∧
    ((linked 4 none).linkValid 3).feed.last ≠ some (7, 80, 40) ∧ ((linked 4 none).linkValid 3).feed.state ≠ 5 ∧
    ((linked 4 none).linkValid 3).feed.state ≠ 6 := by decide +kernel

theorem wit_FeedlineExchanges_2 : let t := (linked 5 none).linkValid 3
    t.feed.last ≠ some (7, 161, 40) ∧ t.feed.state = 5 ∧ t.feedCfg 5 < 161 ∧ t.feedCfg 4 ≤ 160 ∧ 160 ≤ t.feedCfg 5 := by decide +kernel

theorem wit_FeedlineExchanges_3 : (linked 6 none).feed.state = 6 ∧ (linked 5 (some (7, 80, 40))).feed.state = 5 ∧
    (linked 5 (some (7, 80, 40))).feed.ack = false ∧ (linked 5 (some (7, 80, 40))).feed.last = some (7, 80, 40) ∧ (linked 5 none).feed.link = 1 := by
  decide +kernel

/-- A release at a phase. -/
def releasing (phase : Nat) : State := opened 2 phase 0

theorem wit_ReleaseSteps_1 : (releasing 1).working = true ∧ ((releasing 1).releaseEntry.any fun x => x.1 == 0 && x.2.phase == 1 &&
    alookup 0 (releasing 1).inflight == some x.2) = true := by decide +kernel

theorem wit_ReleaseSteps_2 : let s := { releasing 2 with release := ⟨2, 0, []⟩ }
    s.working = true ∧ (s.releaseEntry.any fun x => x.2.phase == 2) = true ∧ 2 ≤ s.pgNow := by decide +kernel

theorem wit_ReleaseSteps_3 : let s := { releasing 2 with release := ⟨1, 0, []⟩, sys := { work.sys with stroke := 10 ^ 6 } }
    s.working = true ∧ (s.releaseEntry.any fun x => x.2.phase == 2) = true ∧ s.pgNow < 2 ∧
      s.release.since + s.msStrokes (s.num 0x482003) ≤ s.sys.stroke := by decide +kernel

/-- Ridgeline objects of a node with ID `n` of 8: schedule 1 is layout 1 with two static slots and two dynamic FRAME_IDs, node 5 owning 1 and 3; its other
entries name node 1 and no cycle. -/
def ringObjs (n : Nat) : List (Nat × Bytes) :=
  [(0x500001, [1]), (0x500002, [BitVec.ofNat 8 n]), (0x500003, [8]), (0x500007, [15]), (0x500008, [1]), (0x50000A, [1]),
    (0x510002, [1, 2, 0, 40, 2, 20, 0, 10] ++ zeros 24), (0x511101, [5, 15, 0, 4]), (0x511102, [6, 15, 0, 4]), (0x511103, [5, 15, 0, 4]),
    (0x511104, [6, 15, 0, 4])] ++ (List.range 246).map fun i => (0x511105 + i, [1, 0x70, 0, 0])

/-- A node of the ring in a state, on schedule 1. -/
def ringing (n st : Nat) : State := { work with objs := ringObjs n, ridge := { Ridge.reset with state := st, active := 1 } }

def readyFrame (fid cycle : Nat) : RidgeOut := ⟨fid, cycle, if fid = 1 then 0 else 3, zeros 12, none, none, false⟩

def withFrame (s : State) (f : RidgeOut) : State := { s with ridge := { s.ridge with ready := [f] } }

theorem wit_RingFramesOut_1 : let s := withFrame (ringing 5 5) (readyFrame 1 0)
    s.ridge.state = 5 ∧ s.slotOf s.ridge.active s.ridge.cycle 1 = 1 ∧ entOwner (s.schEntry s.ridge.active 1) = s.node ∧
      s.ridge.ready.find? (fun f => f.fid == 1 && f.fid != 0 && f.fid != 255) = some (readyFrame 1 0) := by decide +kernel

theorem wit_RingFramesOut_2 : let s := withFrame { ringing 5 5 with ridge := { (ringing 5 5).ridge with cycle := 5 } } (readyFrame 0 5)
    s.ridge.state = 5 ∧ s.ridge.cycle = s.node ∧ s.ridge.ready.find? (fun f => f.fid == 0) = some (readyFrame 0 5) ∧ (readyFrame 0 5).sent = false ∧
      (s.drive (readyFrame 0 5)).ridge.sent ≠ s.ridge.sent := by decide +kernel

theorem wit_RingFramesOut_3 : let s := ringing 5 5
    s.ridgeSync = true ∧ s.dynSegment 0 = some (3, 4, 20, 10) ∧ (3 : Nat) ≤ 4 ∧ (1 : Nat) ≤ 20 ∧ s.ridge.dyn = none ∧
      (s.ridge.ready.find? fun f => f.fid == 3 && decide (f.kind < 2) && entOwner (s.schEntry s.ridge.active 3) == s.node) = none := by decide +kernel

theorem wit_RingFramesOut_4 : let s := withFrame (ringing 5 2) (readyFrame 255 0)
    s.ridge.state = 2 ∧ s.ridge.ready.find? (fun f => f.fid == 255 && f.cycle == s.sys.stroke % 64 && !f.sent) = some (readyFrame 255 0) ∧
      (s.drive (readyFrame 255 0)).ridge.sent ≠ s.ridge.sent := by decide +kernel

/-- A frame as it runs over an input: header, payload, CRC. -/
def onWire (f : Bytes) : RidgeRx := ⟨f ++ frameCrc f, 0, true, 0⟩

/-- A vote of node 6 for schedule 1 with REQUEST 2, so that it is an integration frame; and node 6's frame of slot 2. -/
def voteFrame6 : Bytes := frameHeader 3 6 false 6 0 12 ++ ([0, 0, 0, 9, 1, 2] ++ zeros 4 ++ [1, 0])

def dataFrame6 : Bytes := frameHeader 0 6 false 0 2 4 ++ zeros 4

theorem wit_RingFramesIn_1 : let s := ringing 5 1
    s.ridge.state = 1 ∧ s.isolated 0 = false ∧ copyWhole (onWire voteFrame6) = true ∧ fSource (onWire voteFrame6).frame ≠ s.node ∧
      s.integrates (onWire voteFrame6).frame = true := by decide +kernel

theorem wit_RingFramesIn_2 : let s := ringing 5 5
    s.ridge.state = 5 ∧ s.isolated 0 = false ∧ copyWhole (onWire dataFrame6) = true ∧ fSource (onWire dataFrame6).frame ≠ s.node ∧
      s.agrees s.ridge.active s.ridge.cycle 2 (onWire dataFrame6).frame = true ∧ fCycle (onWire dataFrame6).frame = s.ridge.cycle ∧
      fKind (onWire dataFrame6).frame = 0 := by decide +kernel

theorem wit_RingFramesIn_3 : let s := ringing 5 5
    let x : RidgeRx := ⟨dataFrame6 ++ zeros 4, 0, true, 0⟩
    s.ridge.state = 5 ∧ x.violations = 0 ∧ x.ended = true ∧ s.isolated 0 = false ∧
      (2 ≤ s.ridge.topology ∨ fHops x.frame + 2 < s.num 0x500003) ∧ copyWhole x = false ∧ fSource x.frame ≠ s.node ∧ (s.slotOf s.ridge.active s.ridge.cycle 2 == 2) = false ∧
      x.frame.drop (x.frame.length - 4) ≠ frameCrc (x.frame.take (x.frame.length - 4)) := by decide +kernel

theorem digest_ridge (s : State) (r : Ridge) (k : Nat) : State.schDigest { s with ridge := r } k = s.schDigest k := rfl

theorem valid_ridge (s : State) (r : Ridge) (k : Nat) : State.schValid { s with ridge := r } k = s.schValid k := rfl

theorem ring_valid : (ringing 5 5).schValid 1 = true := by decide +kernel

theorem not_listenOnly (s : State) (h : s.schValid (s.num 0x500008) = true) (k : (s.num 0x500001 == 0 || s.bivouac || s.pole.self.admitted) = false) :
    s.listenOnly = false := by
  simp only [Bool.or_eq_false_iff] at k
  simp [State.listenOnly, h, k]

theorem wit_RingTiming_1 : (ringing 5 3).ridge.state = 3 ∧ (ringing 5 4).ridge.state = 4 ∧ (ringing 5 4).ridge.devs = [] ∧
    ((ringing 5 4).wrapOffset 160).natAbs ≤ 160 ∧ (ringing 5 4).listenOnly = false :=
  ⟨rfl, rfl, rfl, by decide +kernel, not_listenOnly _ ((valid_ridge (ringing 5 5) _ _).trans ring_valid) (by decide +kernel)⟩

theorem wit_RingTiming_2 : (ringing 5 5).ridge.state = 5 ∧ (ringing 5 5).ridge.devs = [] ∧ 160 < ((ringing 5 5).wrapOffset 161).natAbs := by decide +kernel

/-- The node in LISTEN at stroke 26. -/
def longListen : State := { ringing 5 1 with sys := { work.sys with stroke := 26 } }

theorem valid_stroke (s : State) (n : Nat) (k : Nat) : State.schValid { s with sys := { s.sys with stroke := n } } k = s.schValid k := rfl

theorem wit_RingTiming_3 : longListen.ridge.state = 1 ∧ longListen.num 0x50000A = 1 ∧ longListen.listenOnly = false ∧
    longListen.ridge.listenFrom + 16 + 2 * longListen.node ≤ longListen.sys.stroke :=
  ⟨rfl, by decide +kernel, not_listenOnly _ ((valid_stroke (ringing 5 1) 26 _).trans ((valid_ridge (ringing 5 5) _ _).trans ring_valid)) (by decide +kernel),
    by decide +kernel⟩

/-- The cold start after its four strokes, `a` frames driven. -/
def coldDone (a : Nat) : State := { ringing 5 2 with sys := { work.sys with stroke := 4 }, ridge := { (ringing 5 2).ridge with attempts := a } }

theorem wit_RingFramesOut_5 : (coldDone 4).ridge.state = 2 ∧ (coldDone 4).ridge.coldFrom + 4 ≤ (coldDone 4).sys.stroke ∧ (coldDone 4).ridge.attempts = 4 ∧
    (coldDone 4).listenOnly = false :=
  ⟨rfl, by decide +kernel, rfl, not_listenOnly _ ((valid_stroke { ringing 5 5 with ridge := (coldDone 4).ridge } 4 _).trans
    ((valid_ridge (ringing 5 5) _ _).trans ring_valid)) (by decide +kernel)⟩

theorem wit_RingFramesOut_6 : (coldDone 3).ridge.state = 2 ∧ (coldDone 3).ridge.coldFrom + 4 ≤ (coldDone 3).sys.stroke ∧ (coldDone 3).ridge.attempts ≠ 4 := by
  decide +kernel

theorem wit_RingTiming_4 : (ringing 5 4).ridgeSync = true ∧
    ({ ringing 5 4 with ridge := { (ringing 5 4).ridge with badCycle := 2 } } : State).ridgeSync = true ∧
    ({ ringing 5 4 with ridge := { (ringing 5 4).ridge with active := 8 } } : State).schValid 8 = false := by decide +kernel

theorem wit_RingSides_1 : (ringing 5 4).ridge.state ≠ 0 ∧ alookup 3 (ringing 5 4).ridge.symLoss = none ∧
    topologyOf ((ringing 5 4).sideLost 1).sidesOut ≠ (ringing 5 4).ridge.topology := by decide +kernel

theorem wit_RingSides_2 : let s := { ringing 5 4 with sys := { work.sys with stroke := 70 }, ridge := { (ringing 5 4).ridge with cycle := 63, lost := 1, lostUp := 6, symLoss := [(3, 69)] } }
    s.ridge.state = 4 ∧ s.ridge.lostUp + 64 ≤ s.sys.stroke ∧ (s.num 0x50000C).testBit 0 = false ∧ s.ridge.cycle = 63 ∧ s.ridge.lost.testBit 0 = true ∧
      alookup 3 s.ridge.symLoss = some (s.sys.stroke - 1) ∧ 1 ≤ s.sys.stroke := by decide +kernel

theorem wit_RingSides_3 : (ringing 5 5).ridgeSync = true ∧ (ringing 5 5).ridge.babbled.contains (1, 3) = false ∧
    ((ringing 5 5).num 0x50000C).testBit 1 = false := by decide +kernel

/-- The verification of node 6's frame, gathered. -/
def verified (status tag : Nat) : Item := ⟨5, 1, 0, [BitVec.ofNat 8 status, BitVec.ofNat 8 tag], [100, 7] ++ nums dataFrame6⟩

theorem wit_RingSchedules_1 : ∀ x ∈ [(0, 0), (0, 1), (stQUARANTINED, 0)], let i := verified x.1 x.2
    let s := { ringing 5 5 with gathered := [i] }
    s.working = true ∧ s.gathered.find? (fun i => i.cls == 5 && i.idx == 1 && i.aux.head? == some 100 && i.aux.getD 1 0 == 7) = some i := by
  decide +kernel

/-- Node 5 on schedule 2 of its two, with a vote of node 6 of the sheet before for schedule 1, whose digest's first bytes are `d`. -/
def voted (cur req own : Nat) (d : Bytes) : State :=
  { ringing 5 5 with ridge := { (ringing 5 5).ridge with
    active := 2, cycle := if own = 1 then 1 else 63, sheet := 10, votes := [⟨9, 6, [0, 0, 0, 9, BitVec.ofNat 8 cur, BitVec.ofNat 8 req] ++ d ++ [1, 0]⟩]
    ownVotes := if own = 1 then [(9, 1)] else [] } }

theorem voted_votes (cur req own : Nat) (a b c d : BitVec 8) : (voted cur req own [a, b, c, d]).votesOf ((voted cur req own [a, b, c, d]).sheetBack 1) =
    [⟨9, 6, [0, 0, 0, 9, BitVec.ofNat 8 cur, BitVec.ofNat 8 req] ++ [a, b, c, d] ++ [1, 0]⟩] := by
  have e : (voted cur req own [a, b, c, d]).sheetBack 1 = 9 := by
    show (10 + 2 ^ 32 - 1) % 2 ^ 32 = 9
    omega
  unfold State.votesOf
  rw [e]
  simp [voted, byteAt]

theorem digest_take (s : State) (k : Nat) : ∃ a b c d, (s.schDigest k).take 4 = [a, b, c, d] := by
  have h : ((s.schDigest k).take 4).length = 4 := by
    rw [List.length_take, State.schDigest, sha256_length]; rfl
  match (s.schDigest k).take 4, h with
  | [a, b, c, d], _ => exact ⟨a, b, c, d, rfl⟩

theorem wit_RingSchedules_2 : ∃ (s : State) (w : Vote), s.working = true ∧ s.ridgeSync = true ∧ s.ridge.cycle = 1 ∧ s.votesOf (s.sheetBack 1) = [w] ∧
    (s.ridge.ownVotes.filter fun o => o.1 == s.sheetBack 1) = [(s.sheetBack 1, byteAt w.payload 5)] ∧
    (∀ n ∈ s.membership (s.sheetBack 2), n ≠ s.node → ∃ v ∈ s.ridge.votes, v.sheet = s.sheetBack 1 ∧ v.node = n) ∧
    slice w.payload 6 4 = (s.schDigest (byteAt w.payload 5)).take 4 ∧ s.schValid (byteAt w.payload 5) = true ∧ byteAt w.payload 5 ≠ s.ridge.active := by
  obtain ⟨a, b, c, d, h⟩ := digest_take (ringing 5 5) 1
  refine ⟨voted 2 1 1 [a, b, c, d], _, rfl, rfl, rfl, voted_votes _ _ _ _ _ _ _, ?_, ?_, ?_, ?_, (show (1 : Nat) ≠ 2 by decide)⟩
  · simp [voted, State.sheetBack, byteAt]
  · simp [State.membership, State.votesOf, voted, State.sheetBack, byteAt]
  · exact h.symm.trans (congrArg (List.take 4) (digest_ridge (ringing 5 5) _ 1).symm)
  · exact (valid_ridge (ringing 5 5) _ 1).trans ring_valid

theorem wit_RingSchedules_3 : let s := { ringing 5 5 with ridge := { (ringing 5 5).ridge with cycle := 63, switchTo := some 7 } }
    s.ridge.switchTo = some 7 ∧ s.working = true ∧ s.ridgeSync = true ∧ s.ridge.cycle = 63 := by decide +kernel

theorem wit_RingSchedules_4 : ∃ (s : State) (w : Vote), (s.votesOf (s.sheetBack 1)).filter (fun v => v.node != s.node) = [w] ∧ s.working = true ∧
    s.ridge.state = 5 ∧ s.ridge.cycle = 63 ∧ s.ridge.switchTo = none ∧ byteAt w.payload 4 ≠ s.ridge.active ∧ s.schValid (byteAt w.payload 4) = true ∧
    byteAt w.payload 5 = 0xFF ∧ slice w.payload 6 4 = (s.schDigest (byteAt w.payload 4)).take 4 := by
  obtain ⟨a, b, c, d, h⟩ := digest_take (ringing 5 5) 1
  refine ⟨voted 1 255 0 [a, b, c, d], ⟨9, 6, [0, 0, 0, 9, 1, 255] ++ [a, b, c, d] ++ [1, 0]⟩, ?_, rfl, rfl, rfl, rfl, by simp [voted, byteAt], ?_, rfl, ?_⟩
  · rw [voted_votes]; rfl
  · exact (valid_ridge (ringing 5 5) _ 1).trans ring_valid
  · exact h.symm.trans (congrArg (List.take 4) (digest_ridge (ringing 5 5) _ 1).symm)

/-- Controller 1 in a state and mode 1, its request, response and export identifiers 0x10, 0x11 and 0x12. -/
def canning (n : Nat) (tx : List CanTx) : State :=
  { work with objs := [(0x581001, [1]), (0x581004, beBytes 4 0x10), (0x581005, beBytes 4 0x11), (0x581006, beBytes 4 0x12)]
              can1 := { CanCtl.reset with state := n, tec := 8, rxc := 8, tx := tx } }

def canMsg : CanTx := ⟨false, 0x10, 1, 0, [zeros 9], [zeros 9]⟩

theorem wit_CanControllers_1 : let s := canning 2 []
    (s.can 1).active = true ∧ s.canObj 1 2 ≠ 0 ∧ Nat.testBit 2 0 = (s.canObj 1 3 == 1) ∧ s.canObj 1 4 ≠ noId ∧ (s.can 1).rxc < 128 ∧ (s.can 1).tec < 128 ∧
      (s.can 1).reinit = false ∧ (s.can 1).state = 2 ∧
      (s.gq.filter fun i => i.cls == 0x0C && i.idx == 1 % 2 && byteAt i.val 0 == 0).length < 64 ∧ s.canObj 1 5 ≠ s.canObj 1 4 ∧
      0x13 ≠ s.canObj 1 4 ∧ 0x13 ≠ s.canObj 1 5 ∧ 0x13 ≠ s.canObj 1 6 := by decide +kernel

theorem wit_CanControllers_2 : let s := canning 2 [canMsg]
    (s.can 1).active = true ∧ s.canObj 1 1 = 1 ∧ s.canHead 1 = some 0 ∧ (s.can 1).tx[0]? = some canMsg ∧ canMsg.parts.length = 1 := by decide +kernel

theorem wit_CanControllers_3 : let s := { canning 4 [] with can1 := { CanCtl.reset with state := 4, recoverAt := some 0 } }
    (s.can 1).recoverAt = some 0 ∧ s.working = true ∧ (s.can 1).state = 4 ∧ s.canObj 1 0x0C = 0 ∧ 0 ≤ s.sys.stroke := by decide +kernel

theorem wit_CanControllers_4 : ((canning 5 []).can 1).state = 5 ∧ (canning 5 []).canObj 1 1 ≠ 0 ∧ ((canning 3 []).can 1).active = true ∧ ((canning 1 []).can 1).state = 1 ∧
    ((canning 1 []).can 1).reinit = false := by decide +kernel

/-- A marker of stroke 5. -/
def marker5 : Bytes := [0, 0, 0, 0, 5, 0, 0, 1] ++ beBytes 1 (crc8 [0, 0, 0, 0, 5, 0, 0, 1])

/-- A slave at position 1, not admitted. -/
def newSlave : State := { slave with pole := Pole.reset }

theorem wit_PoleLink_1 : work.poleUp = true ∧ marker5.length = 9 ∧ crc8 (marker5.take 8) = byteAt marker5 8 ∧ work.isSlave = false ∧
    newSlave.poleUp = true ∧ newSlave.isSlave = true ∧ newSlave.pole.self.delays = [] := by decide +kernel

theorem wit_PoleLink_2 : let s := { newSlave with pole := { Pole.reset with self := { Pole.reset.self with mstroke := 8, echo := true, delays := List.replicate 8 0 } } }
    s.poleUp = true ∧ s.isSlave = true ∧ s.bivouac = false ∧ s.knownStroke % 64 = 8 * s.sys.cascId ∧ s.pole.self.echo = true ∧
      s.pole.self.delays.length ≤ 8 := by decide +kernel

theorem wit_PoleAdmission_1 : newSlave.pole.self.admitted = false ∧ newSlave.pole.self.refused = 0 ∧ newSlave.bivouac = false ∧
    newSlave.pole.conflict = false := by decide +kernel

theorem wit_PoleAdmission_2 : let s := { newSlave with pole := { Pole.reset with self := { Pole.reset.self with effective := some 65535 } }, sys := { newSlave.sys with stroke := 3 } }
    s.poleUp = true ∧ s.isSlave = true ∧ s.pole.self.effective = some 65535 ∧ (s.masterStroke + 2 ^ 16 - 65535) % 2 ^ 16 < 2 ^ 15 := by decide +kernel

theorem wit_PoleAdmission_3 : let s := { masterOf3 with pole := { Pole.reset with slaves := [(7, { State.reset.slaveRec 7 with effective := some 0 })] } }
    s.poleUp = true ∧ s.isSlave = false ∧ (s.slaveRec 7).effective = some 0 ∧ 0 ≤ s.sys.stroke := by decide +kernel

theorem wit_PoleAdmission_4 : let s := { newSlave with pole := { Pole.reset with self := { Pole.reset.self with refused := 1 } }, sys := { newSlave.sys with stroke := 64 } }
    s.pole.self.refused = 1 ∧ s.pole.self.refusedAt + 64 ≤ s.sys.stroke := by decide +kernel

theorem wit_PoleAdmission_5 : let s := { work with pole := { Pole.reset with foreign := 3 } }
    s.poleUp = true ∧ s.isSlave = false ∧ s.pole.conflict = false ∧ 3 ≤ s.pole.foreign + b2n s.pole.self.marked := by decide +kernel

theorem wit_PoleParts_1 : slave.served = true ∧ ({ slave with quill := { Quill.reset with state := 0 } } : State).quillUp = true := by decide +kernel

theorem wit_PoleParts_2 : let s := { slave with pole := { slave.pole with self := { slave.pole.self with staged := some (zeros 8) } } }
    s.served = true ∧ s.pole.self.staged = some ((zeros 8).take 8) ∧ s.sys.phase ≠ .commit ∧ byteAt (13#8 :: zeros 241) 0 % 14 ≠ 0 ∧
      byteAt (14#8 :: zeros 241) 0 % 14 = 0 := by decide +kernel

theorem wit_PoleReports_1 : masterOf3.poleUp = true ∧ masterOf3.isSlave = false ∧ masterOf3.pole.conflict = false ∧ masterOf3.slaveUp 3 = true ∧
    masterOf3.sys.stroke < 1 ∧ masterOf3.admitted.contains 3 = true ∧ (masterOf3.slaveRec 3).status ≠ padTo 8 [1] := by decide +kernel

theorem wit_PoleReports_2 : let s := { masterOf3 with sys := { masterOf3.sys with stroke := 64 }, pole := { Pole.reset with slaves := [(3, { (State.reset.slaveRec 3) with state := 2, missed := 3, relay := some (0, 9) })] } }
    s.poleUp = true ∧ s.slaveUp 3 = true ∧ 63 < s.sys.stroke ∧ (s.slaveRec 3).relay = some (0, 9) ∧ s.admitted.contains 3 = true ∧
      3 ≤ (s.slaveRec 3).missed ∧ s.working = true ∧ 0 + 64 ≤ s.sys.stroke ∧ s.effects = [] := by decide +kernel

theorem wit_PoleReports_3 : let s := { slave with pole := { slave.pole with self := { slave.pole.self with missed := 3 } } }
    s.poleUp = true ∧ s.isSlave = true ∧ s.pole.self.admitted = true ∧ 3 ≤ s.pole.self.missed := by decide +kernel

end Sys2Proof.Tests
end

section
/-!
PROOFS. UndefinedObjects: an entry on an object outside the object table is answered NO_SUCH_OBJECT and leaves the transaction as it
was, and a request of that one entry stages its response alone (R11).
-/

namespace Sys2Proof.Machine

/-! ## One entry on an undefined object -/

/-- Outside the object table nothing is read: an undefined key is no sub-index of a defined index (R11, R99). -/
theorem read_eq_none {k : Nat} (s : State) (hd : objDef k = none) (h0 : k % 256 = 0 → highestSub (k / 256) = 0) :
    s.read k = none := by
  unfold State.read
  by_cases hk : k % 256 = 0
  · simp [hk, h0 hk]
  · simp [hk, hd]

/-- A write outside the object table is refused and draws nothing (R11). -/
theorem writeEntry_undefined {k : Nat} (s : State) (r : Requester) (prot : Bool) (v : Bytes) (hd : objDef k = none)
    (h0 : k % 256 = 0 → highestSub (k / 256) = 0) : s.writeEntry r prot k v = (.refuse stNO_SUCH_OBJECT, [], s) := by
  have hn : ¬ (k % 256 = 0 ∧ highestSub (k / 256) ≠ 0) := fun ⟨hk, hs⟩ => hs (h0 hk)
  unfold State.writeEntry
  rw [hd]
  simp only [if_neg hn]

/-- An entry outside the object table writes no countersigned object. -/
theorem protected_undefined {e : LEntry} (hd : objDef e.key = none) : e.protected = false := by
  simp [LEntry.protected, hd]

/-- An entry outside the object table adds its refusal to the results and nothing else. -/
theorem entry_undefined {e : LEntry} (hd : objDef e.key = none) (h0 : e.key % 256 = 0 → highestSub (e.key / 256) = 0)
    (t : TxnRun) (r : Requester) (prot echo : Bool) :
    t.entry r prot echo e = { t with results := t.results ++ [⟨stNO_SUCH_OBJECT, e.key, []⟩] } := by
  have href : isRefusal stNO_SUCH_OBJECT = true := by decide
  unfold TxnRun.entry
  cases e.write
  case true => simp [writeEntry_undefined t.s r prot e.val hd h0, OpResult.refuse, href]
  case false => simp [read_eq_none t.s hd h0]

/-! ## A request of that one entry -/

/-- A re-grant waits for quotas that were all let through: one refused entry stops it (R152). -/
theorem regrant_of_refused (t : TxnRun) (s : State) (r : Requester) (inst : Nat) (es : List LEntry)
    (h : t.results.any (fun x => isRefusal x.status) = true) : t.regrant s r inst es = t := by
  simp [TxnRun.regrant, h]

/-- The run of one entry outside the object table holds its refusal and nothing else. -/
theorem runEntries_undefined {e : LEntry} (hd : objDef e.key = none) (h0 : e.key % 256 = 0 → highestSub (e.key / 256) = 0)
    (s : State) (r : Requester) (prot echo : Bool) (inst : Nat) :
    s.runEntries r prot echo inst [e] = ⟨s, [], [], [], [], [⟨stNO_SUCH_OBJECT, e.key, []⟩]⟩ := by
  unfold State.runEntries
  rw [List.foldl_cons, List.foldl_nil, entry_undefined hd h0]
  exact regrant_of_refused _ s r inst [e] rfl

/-- An unprotected transaction that has the entropy it needs stages the unit of its run. -/
theorem transact_ordinary (s : State) (key : Nat) (r : Requester) (echo : Bool) (body : Bytes) (es : List LEntry)
    (hp : es.any LEntry.protected = false)
    (ho : (s.runEntries r false echo 0 es).results.any (·.status == stOVERRUN) = false) :
    s.transact key r echo body es =
      some ((s.drawn (s.runEntries r false echo 0 es)).stage ((s.runEntries r false echo 0 es).unit key r echo es [] [])) := by
  simp [State.transact, hp, ho]

/-- A request that came by no transport runs as a transaction: no response buffer bounds it (R107, R146). -/
theorem ledgerUnit_of_via_none (s : State) (key : Nat) (i : Item) (echo : Bool) (body : Bytes) (es : List LEntry)
    (hp : parseRequest i.val = .request echo body es) (hv : i.requester.via = .none) :
    s.ledgerUnit key i [] = (s.transact key i.requester echo body es).getD (s.cancelItem i) := by
  simp only [State.ledgerUnit, hp, hv, if_true]
  cases s.transact key i.requester echo body es <;> rfl

/-- In Work, LEDGER_TRANSACTION takes the first gathered request and runs it as one unit. -/
theorem exec_ledgerTransaction (s : State) (i : Item) (hw : s.working = true) (hi : s.gathered.find? Item.isRequest = some i) :
    exec .ledgerTransaction s = .next ((s.consume i).ledgerUnit i.key i []) := by
  simp [exec, execLedgerTransaction, hi, hw]

/-- Settles O57: an entry is refused before anything is drawn or staged, so the unit of a request of that one entry holds the response
alone. -/
theorem undefinedObjects : Obligations.UndefinedObjects := by
  unfold Obligations.UndefinedObjects
  intro e hd h0
  refine ⟨entry_undefined hd h0, fun s i echo body hw hi hp hv => ?_⟩
  have hrun := runEntries_undefined hd h0 (s.consume i) i.requester false echo 0
  have htr := transact_ordinary (s.consume i) i.key i.requester echo body [e] (by simp [protected_undefined hd])
    (by rw [hrun]; rfl)
  rw [hrun] at htr
  have hx := exec_ledgerTransaction s i hw hi
  rw [ledgerUnit_of_via_none _ _ _ _ _ _ hp hv, htr] at hx
  exact ⟨_, hx, _, rfl, rfl, rfl, rfl, rfl⟩

end Sys2Proof.Machine
end

section
/-!
PROOFS. ExchangeSteps: the first step of a gathered TOUCH, the end of the listen window, the close of a failure window, a second served
under lockout and the expiry of a held telegram (R25, R227, R258, R259, R260, R276, R277, R280, R281).
-/

namespace Sys2Proof.Machine

/-! ## Entropy and the planned exchange (R38, R259, R262) -/

/-- A unit that finds enough of the entropy block takes its bytes and moves the count on, and nothing else changes (R38). -/
theorem takeEntropy_of_le (s : State) (n : Nat) (h : s.sys.entropyTaken + n ≤ 128) : ∃ b : Bytes, b.length = n ∧
    s.takeEntropy n = some (b, { s with sys := { s.sys with entropyTaken := s.sys.entropyTaken + n } }) := by
  unfold State.takeEntropy
  rw [if_pos h]
  exact ⟨_, by rw [List.length_map, List.length_range], rfl⟩

/-- A slice inside the bytes has the length asked for. -/
theorem slice_length_of_le (b : Bytes) (i n : Nat) (h : i + n ≤ b.length) : (slice b i n).length = n := by
  simp only [slice, List.length_take, List.length_drop]
  omega

/-- What an exchange that starts in the running stroke with a telegram holds: the telegram's slot and TN, a challenge of 16 and a device
nonce of 8 bytes, its response stroke and its decision six strokes on (R261-R263, R274). -/
def State.StartedWith (s : State) (slot : Nat) (w : Wake) (pattern : Nat) (y : Exchange) : Prop :=
  y.phase = .running ∧ y.slot = slot ∧ y.tn = w.tn ∧ y.a = s.sys.stroke ∧ y.c.length = 16 ∧ y.dn.length = 8 ∧
    y.resp = some (s.responseStroke s.sys.stroke pattern) ∧ y.due = some (s.responseStroke s.sys.stroke pattern + 6)

/-- With 26 random bytes left an exchange starts with the telegram chosen. -/
theorem startWith_of_entropy (s : State) (x : Exchange) (slot : Nat) (w : Wake) (h : s.sys.entropyTaken + 26 ≤ 128) :
    ∃ y effs, s.startWith x slot w =
        some ({ s with sys := { s.sys with entropyTaken := s.sys.entropyTaken + 26 } }, .exchange (some y) :: effs) ∧
      s.StartedWith slot w x.pattern y := by
  obtain ⟨b, hb, hte⟩ := takeEntropy_of_le s 26 h
  unfold State.startWith
  rw [hte]
  have hc : (slice b 2 16).length = 16 := slice_length_of_le b 2 16 (by omega)
  have hdn : (slice b 18 8).length = 8 := slice_length_of_le b 18 8 (by omega)
  exact ⟨_, _, rfl, rfl, rfl, rfl, rfl, hc, hdn, rfl, rfl⟩

/-- A poll that finds no telegram held opens its listen window (R259). -/
theorem begin_poll_of_no_wake (s : State) (x : Exchange) (hk : x.kind = 1) (hn : s.newestWake = none) :
    s.begin x = some (s, s.listenEffects x) := by
  simp [State.begin, hk, hn]

/-! ## POLL_START (R25, R227, R259, R260) -/

section PollStart

variable {s : State} {i : Item} (hw : s.working = true) (hi : s.gathered.find? (fun i => i.cls == 6 && i.aux == [2]) = some i)
  (hwait : s.tether.waiting = none)
include hw hi hwait

/-- With nothing running and no telegram held, a TOUCH whose handle has a route opens the listen window of a poll. -/
theorem exec_pollStart_of_idle (p : Nat) (hr : s.tether.run = none) (hp : s.route i.idx = some p) (hn : s.newestWake = none) :
    exec .pollStart s = .next ((s.consume i).stage (plainUnit i.key (s.listenEffects (s.newExchange 1 i.idx p none [s.input i])) [])) := by
  have hb := begin_poll_of_no_wake s (s.newExchange 1 i.idx p none [s.input i]) rfl hn
  simp [exec, execPollStart, hi, hw, hr, hwait, hp, hb]

/-- A TOUCH joins a running poll: its unit stages nothing. -/
theorem exec_pollStart_of_poll (x : Exchange) (hr : s.tether.run = some x) (hk : x.kind = 1) :
    exec .pollStart s = .next (s.consume i) := by
  simp [exec, execPollStart, hi, hw, hr, hwait, hk]

/-- A TOUCH while another exchange runs is recorded and does nothing else. -/
theorem exec_pollStart_of_other (x : Exchange) (hr : s.tether.run = some x) (hk : x.kind ≠ 1) :
    exec .pollStart s = .next ((s.consume i).stage (plainUnit i.key [] [s.recItem 12 i])) := by
  simp [exec, execPollStart, hi, hw, hr, hwait, hk]

end PollStart

/-! ## WAKE_LISTEN_END (R259, R276) -/

section WakeListenEnd

variable {s : State} {x : Exchange} {i : Item} (hw : s.working = true) (hr : s.tether.run = some x) (hph : x.phase = .listening)
  (hg : s.gathered.filter (fun i => i.cls == 8 && byteAt i.val 0 != 4) = [i])
include hw hr hph hg

/-- A poll whose listen window brought no telegram ends in a refusal in preparation. -/
theorem exec_wakeListenEnd_of_no_wake (hn : s.newestWake = none) (hk : x.kind = 1) :
    exec .wakeListenEnd s = .next ((s.consume i).stage (plainUnit i.key (s.startEmpty { x with inputs := x.inputs ++ [s.input i] }) [])) := by
  simp [exec, execWakeListenEnd, hr, hg, hw, hph, hn, hk]

/-- With a telegram chosen and 26 random bytes left, the exchange starts: the unit carries it, started. -/
theorem exec_wakeListenEnd_of_wake (slot : Nat) (w : Wake) (hn : s.newestWake = some (slot, w)) (he : s.sys.entropyTaken + 26 ≤ 128) :
    ∃ y effs, exec .wakeListenEnd s =
        .next ((({ s with sys := { s.sys with entropyTaken := s.sys.entropyTaken + 26 } } : State).consume i).stage
          (plainUnit i.key (.exchange (some y) :: effs) [])) ∧
      s.StartedWith slot w x.pattern y := by
  obtain ⟨y, effs, hst, hy⟩ :=
    startWith_of_entropy s { x with inputs := (x.inputs ++ [s.input i]).filter fun j => j != w.input } slot w he
  have hlisten : (x.phase == .listening) = true := by simp [hph]
  refine ⟨y, effs, ?_, hy⟩
  simp only [exec, execWakeListenEnd, hr, hg, hw, hlisten, hn, List.map_cons, List.map_nil, List.foldl_cons, List.foldl_nil, hst,
    Bool.and_self, if_true]

end WakeListenEnd

/-! ## Lockout times and held telegrams (R258, R280, R281) -/

/-- A failure window whose time has passed closes, and its failures are discharged (R280). -/
theorem lockoutWindowClose_stages (s : State) (w : Nat) (hwin : s.tether.window = some w) (hw : s.working = true)
    (hpast : w + s.secStrokes (s.num 0x340002) ≤ s.sys.stroke) :
    Stages .lockoutWindowClose s fun u => u.effs = [.lockWindow none] ∧ u.cells = [.tally 2 (s.tally 1)] := by
  refine ⟨{ plainUnit 0x0E000000 [.lockWindow none] [] with cells := [.tally 2 (s.tally 1)] }, ?_, rfl, rfl⟩
  simp [exec, execLockoutWindowClose, hwin, hw, hpast]

/-- The stroke that ends a second under lockout counts it by a cell word (R281). -/
theorem lockoutSecondServed_stages (s : State) (hw : s.working = true) (hl : s.lockedOut = true)
    (hsec : (s.sys.stroke + 1) % s.secStrokes 1 = 0) :
    Stages .lockoutSecondServed s fun u => u.effs = [] ∧ u.cells = [.tally 6 (s.tally 6 + 1)] := by
  refine ⟨{ plainUnit 0x0E000000 [] [] with cells := [.tally 6 (s.tally 6 + 1)] }, ?_, rfl, rfl⟩
  simp [exec, execLockoutSecondServed, hw, hl, hsec]

/-- A telegram held for 30 s is held no longer (R258). -/
theorem exec_heldTelegramExpiry_of_expired (s : State) (slot : Nat) (w : Wake) (hh : alookup slot s.tether.held = some w)
    (hpast : w.stroke + s.secStrokes 30 ≤ s.sys.stroke) :
    exec (.heldTelegramExpiry slot) s = .next { s with tether := { s.tether with held := aerase slot s.tether.held } } := by
  simp [exec, execHeldTelegramExpiry, hh, hpast]

/-- Settles O39, command by command: each clause is what the command's first branch that applies answers. -/
theorem exchangeSteps : Obligations.ExchangeSteps := by
  unfold Obligations.ExchangeSteps
  refine ⟨⟨fun s i hw hi => ⟨?touchIdle, ?touchPoll, ?touchOther⟩, fun s x i hw hr hph hg => ⟨?listenEmpty, ?listenWake⟩⟩,
    lockoutWindowClose_stages, lockoutSecondServed_stages, exec_heldTelegramExpiry_of_expired⟩
  case touchIdle => exact fun p hr hwait hp hn => exec_pollStart_of_idle hw hi hwait p hr hp hn
  case touchPoll => exact fun x hr hwait hk => exec_pollStart_of_poll hw hi hwait x hr hk
  case touchOther => exact fun x hr hwait hk => exec_pollStart_of_other hw hi hwait x hr hk
  case listenEmpty => exact fun hn hk => exec_wakeListenEnd_of_no_wake hw hr hph hg hn hk
  case listenWake =>
    intro slot w hn he
    obtain ⟨y, effs, hx, hy⟩ := exec_wakeListenEnd_of_wake hw hr hph hg slot w hn he
    exact ⟨_, hx, rfl, _, y, rfl, List.mem_cons_self, hy⟩

end Sys2Proof.Machine
end

section
/-!
PROOFS. StrokeBasics: the front of the command queue, the reset state, deposited items, and requests that overran (R34, R35, R41, R42).
-/

namespace Sys2Proof.Machine

/-! ## The queue and the reset state -/

/-- A step on a queue with a command in front runs it on the state with the queue's rest (log entry 11). -/
theorem step_cons (s : State) (c : Instr) (rest : List Instr) (h : s.pending = c :: rest) :
    step s = exec c { s with pending := rest } := by
  simp [step, h]

/-- Settles O1: the two shapes of the queue. -/
theorem stepRunsFrontCommand : Obligations.StepRunsFrontCommand := by
  unfold Obligations.StepRunsFrontCommand
  exact ⟨step_cons, step_nil⟩

/-- Settles O2, field by field. -/
theorem resetState : Obligations.ResetState := by
  unfold Obligations.ResetState
  exact ⟨rfl, rfl, rfl, rfl, rfl, rfl, rfl, rfl, rfl, rfl, rfl, rfl, rfl, rfl, rfl⟩

/-! ## Deposited items (R34, R35) -/

/-- A deposited item waits under the next number of its source (R34, R35). -/
theorem offered_offer (s : State) (cls idx : Nat) (v : Bytes) (aux : List Nat) : Offered s (s.offer cls idx v aux) cls idx v :=
  ⟨aux, offer_gq s cls idx v aux, by rw [offer_seqs, alookup_ainsert]⟩

/-- Of the Pole link a deposit changes only the frames to be sent and the kept items (R434, R440). -/
theorem offer_pole_parts (s : State) (cls idx : Nat) (v : Bytes) (aux : List Nat) :
    { (s.offer cls idx v aux).pole with out := s.pole.out, kept := s.pole.kept } = s.pole := by
  unfold State.offer
  exact sendItem_pole_parts _ cls idx _ v

/-- A deposit changes nothing but what a deposit may change. -/
theorem onlyOffers_offer (s : State) (cls idx : Nat) (v : Bytes) (aux : List Nat) : OnlyOffers s (s.offer cls idx v aux) := by
  have hp := offer_pole_parts s cls idx v aux
  unfold OnlyOffers
  rw [hp, offer_eq]

/-- A deposit on a master sends nothing (R434). -/
theorem offer_pole_of_master (s : State) (cls idx : Nat) (v : Bytes) (aux : List Nat) (h : s.sys.cascId = 0) :
    (s.offer cls idx v aux).pole = s.pole := by
  unfold State.offer
  simp [h]

/-- Settles O8. -/
theorem offerDeposits : Obligations.OfferDeposits := by
  unfold Obligations.OfferDeposits
  intro s cls idx v aux
  refine ⟨offered_offer s cls idx v aux, onlyOffers_offer s cls idx v aux, fun k hk => ?_, offer_pole_of_master s cls idx v aux⟩
  rw [offer_seqs, alookup_ainsert_ne _ _ _ _ hk]

/-! ## UNIT_RE_RUN of a request (R41, R42) -/

/-- UNIT_RE_RUN of the one request left over, with no re-run entry open and nothing staged: its unit staged ahead, or, where it
overruns again, what a second overrun stages. -/
theorem exec_unitReRun_of_request {s : State} {i : Item} (hw : s.working = true) (hr : s.rerun = [i]) (hi : i.isRequest = true)
    (hc : i.cls ≠ 8) (hs : s.staged = []) (he : State.rerunEntry { s with rerun := [] } i.requester = none) :
    exec .unitReRun s =
      if (State.ledgerUnit { s with rerun := [] } 0 i []).cancelled.length = s.cancelled.length then
        .next { State.ledgerUnit { s with rerun := [] } 0 i [] with
          staged := (State.ledgerUnit { s with rerun := [] } 0 i []).staged.map fun u => { u with key := 0 } }
      else .next (State.secondOverrun { s with rerun := [] } i) := by
  have hlen : s.staged.length = 0 := by rw [hs]; rfl
  simp only [exec, execUnitReRun, hr, hw, hi, hc, he, hlen, Bool.not_true, Bool.false_eq_true, if_false, if_true, List.take_zero,
    List.drop_zero, List.nil_append]

/-- A request that overran a second time and is no security request is answered BUSY by the last unit staged (R42). -/
theorem secondOverrun_answers_busy (s : State) (i : Item) (hi : i.isRequest = true) (hp : i.isProtected = false) (ha : i.asks ≠ none) :
    ∃ u, u ∈ (s.secondOverrun i).staged ∧ u.answers i.requester stBUSY := by
  obtain ⟨x, hx⟩ := Option.ne_none_iff_exists'.1 ha
  unfold State.secondOverrun
  simp only [hi, hp, hx, if_true, Bool.false_eq_true, if_false, State.stage_staged]
  exact ⟨_, List.mem_append_right _ (List.mem_singleton.2 rfl), _, List.mem_append_right _ (List.mem_singleton.2 rfl)⟩

/-- Settles O29: the two outcomes of the one re-run. -/
theorem cancelledUnitRunsAgain : Obligations.CancelledUnitRunsAgain := by
  unfold Obligations.CancelledUnitRunsAgain
  intro s i hw hr hi hc hs he
  have hx := exec_unitReRun_of_request hw hr hi hc hs he
  refine ⟨fun hn => by rw [hx, if_pos hn], fun hn hp ha => ?_⟩
  rw [if_neg hn] at hx
  exact ⟨_, hx, secondOverrun_answers_busy _ i hi hp ha⟩

end Sys2Proof.Machine
end

section
/-!
PROOFS. StrokeFrame: what a stroke keeps while its units run, as relations between two states, and the laws that carry them through
loops and branches (R28, R39, R44).
-/

namespace Sys2Proof.Machine

/-! ## What stays while a stroke runs -/

/-- Two states with the same waiting commands, the same latch and the same place in the same stroke (R28, R30). -/
@[simp] abbrev InPlace (s t : State) : Prop :=
  t.pending = s.pending ∧ t.guy = s.guy ∧ t.sys.power = s.sys.power ∧ t.sys.phase = s.sys.phase ∧ t.sys.stroke = s.sys.stroke

/-- What a unit of Work leaves alone: the stroke's place and latch, its service word and VHOLD measurement, and the units that wait to run
again (R41). -/
@[simp] abbrev Steady (s t : State) : Prop :=
  InPlace s t ∧ t.sys.service = s.sys.service ∧ t.sys.vholdMv = s.sys.vholdMv ∧ t.rerun = s.rerun

/-- What an operation of a block leaves alone: besides that, whatever is gathered, cancelled or staged (R39, R40). -/
@[simp] abbrev StagesNothing (s t : State) : Prop :=
  Steady s t ∧ t.gathered = s.gathered ∧ t.cancelled = s.cancelled ∧ t.staged = s.staged

theorem Steady.trans {s t u : State} (h : Steady s t) (h' : Steady t u) : Steady s u := by
  simp [h, h']

theorem StagesNothing.trans {s t u : State} (h : StagesNothing s t) (h' : StagesNothing t u) : StagesNothing s u := by
  simp [h, h']

/-! ## Loops -/

theorem foldl_pending {α : Type} (f : State → α → State) (l : List α) (s : State) (h : ∀ s a, (f s a).pending = s.pending) :
    (l.foldl f s).pending = s.pending := by
  induction l generalizing s with
  | nil => rfl
  | cons a l ih => exact (ih _).trans (h s a)

theorem inPlace_foldl {α : Type} (f : State → α → State) (l : List α) (s : State) (h : ∀ s a, InPlace s (f s a)) :
    InPlace s (l.foldl f s) := by
  induction l generalizing s with
  | nil => simp
  | cons a l ih =>
    have h1 := h s a
    have h2 := ih (f s a)
    simp_all

@[simp] theorem steady_foldl {α : Type} (f : State → α → State) (l : List α) (s : State) (h : ∀ s a, Steady s (f s a)) :
    Steady s (l.foldl f s) := by
  induction l generalizing s with
  | nil => simp
  | cons a l ih => exact Steady.trans (h s a) (ih _)

@[simp] theorem stagesNothing_foldl {α : Type} (f : State → α → State) (l : List α) (s : State)
    (h : ∀ s a, StagesNothing s (f s a)) : StagesNothing s (l.foldl f s) := by
  induction l generalizing s with
  | nil => simp
  | cons a l ih => exact StagesNothing.trans (h s a) (ih _)

/-- A loop that carries a value beside the state. -/
@[simp] theorem steady_foldl_fst {α β : Type} (f : State × β → α → State × β) (l : List α) (acc : State × β)
    (h : ∀ acc a, Steady acc.1 (f acc a).1) : Steady acc.1 (l.foldl f acc).1 := by
  induction l generalizing acc with
  | nil => simp
  | cons a l ih => exact Steady.trans (h acc a) (ih _)

@[simp] theorem stagesNothing_foldl_fst {α β : Type} (f : State × β → α → State × β) (l : List α) (acc : State × β)
    (h : ∀ acc a, StagesNothing acc.1 (f acc a).1) : StagesNothing acc.1 (l.foldl f acc).1 := by
  induction l generalizing acc with
  | nil => simp
  | cons a l ih => exact StagesNothing.trans (h acc a) (ih _)

/-! ## Branches -/

/-- The fields of a state that a condition chooses. -/
theorem ite_fields (p : Prop) [Decidable p] (a b : State) :
    (if p then a else b).pending = (if p then a.pending else b.pending) ∧ (if p then a else b).guy = (if p then a.guy else b.guy) ∧
      (if p then a else b).sys = (if p then a.sys else b.sys) ∧ (if p then a else b).rerun = (if p then a.rerun else b.rerun) ∧
      (if p then a else b).gathered = (if p then a.gathered else b.gathered) ∧
      (if p then a else b).cancelled = (if p then a.cancelled else b.cancelled) ∧
      (if p then a else b).staged = (if p then a.staged else b.staged) :=
  ⟨apply_ite _ _ _ _, apply_ite _ _ _ _, apply_ite _ _ _ _, apply_ite _ _ _ _, apply_ite _ _ _ _, apply_ite _ _ _ _,
    apply_ite _ _ _ _⟩

/-- The fields of the device's own registers that a condition chooses. -/
theorem ite_sys_fields (p : Prop) [Decidable p] (a b : Sys) :
    (if p then a else b).power = (if p then a.power else b.power) ∧ (if p then a else b).phase = (if p then a.phase else b.phase) ∧
      (if p then a else b).stroke = (if p then a.stroke else b.stroke) ∧
      (if p then a else b).service = (if p then a.service else b.service) ∧
      (if p then a else b).vholdMv = (if p then a.vholdMv else b.vholdMv) :=
  ⟨apply_ite _ _ _ _, apply_ite _ _ _ _, apply_ite _ _ _ _, apply_ite _ _ _ _, apply_ite _ _ _ _⟩

/-! ## Outcomes -/

@[simp] theorem Out.state_next (s t : State) : Out.state (.next t) s = t := rfl

/-- The state of an outcome that a condition chooses. -/
theorem ite_state (p : Prop) [Decidable p] (a b : Out) (s : State) :
    (if p then a else b).state s = (if p then a.state s else b.state s) :=
  apply_ite (fun o : Out => o.state s) _ _ _

end Sys2Proof.Machine
end

section
/-!
PROOFS. StoreFrames: what the operations of these parts of the model leave alone, operation by operation in the
order of the model: stores, Folio and Inkwell.
-/

namespace Sys2Proof.Machine

/-! ## Stores, faults and pages (R103, R483, R133) -/

@[simp] theorem stagesNothing_memWrite (s : State) (a : Nat) (b : Bytes) : StagesNothing s (s.memWrite a b) := by
  simp [State.memWrite]

@[simp] theorem stagesNothing_look (s : State) : StagesNothing s s.look := by
  simp [State.look]

@[simp] theorem stagesNothing_recordFault (s : State) (code detail : Nat) : StagesNothing s (s.recordFault code detail) := by
  unfold State.recordFault
  split <;> simp

@[simp] theorem stagesNothing_irq (s : State) (p bit : Nat) : StagesNothing s (s.irq p bit) := by
  simp [State.irq]

@[simp] theorem stagesNothing_offerEvent (s : State) (cls idx : Nat) (val : Bytes) (stream code detail : Nat) :
    StagesNothing s (s.offerEvent cls idx val stream code detail) := by
  simp [State.offerEvent]

@[simp] theorem stagesNothing_freeNat (s : State) : StagesNothing s (s.freeNat).2 := by
  simp [State.freeNat]

@[simp] theorem stagesNothing_divOpen (s : State) (a : Int) (b : Nat) : StagesNothing s (s.divOpen a b).2 := by
  unfold State.divOpen
  split <;> simp

/-- Bytes taken from the entropy block only move its count on (R38). -/
theorem stagesNothing_of_takeEntropy {s t : State} {n : Nat} {b : Bytes} (h : s.takeEntropy n = some (b, t)) : StagesNothing s t := by
  unfold State.takeEntropy at h
  split at h
  · cases h; simp
  · cases h

@[simp] theorem steady_cancelItem (s : State) (i : Item) : Steady s (s.cancelItem i) := by
  simp [State.cancelItem]

/-! ## Folio (R443-R463) -/

@[simp] theorem stagesNothing_holdRec (s : State) (r : NewRec) : StagesNothing s (s.holdRec r) := by
  simp [State.holdRec, ite_fields]

@[simp] theorem stagesNothing_addVoid (s : State) (boot group : Nat) : StagesNothing s (s.addVoid boot group) := by
  simp [State.addVoid]

@[simp] theorem stagesNothing_ackStream (s : State) (n last : Nat) : StagesNothing s (s.ackStream n last).1 := by
  simp [State.ackStream]

@[simp] theorem stagesNothing_emptyMoved (s : State) (old : List Nat) : StagesNothing s (s.emptyMoved old) := by
  simp [State.emptyMoved, ite_fields]

/-! ## Inkwell (R154-R182) -/

@[simp] theorem stagesNothing_applyStore (s : State) (e : Effect) : StagesNothing s (s.applyStore e) := by
  unfold State.applyStore
  split <;> simp

/-! ### A commit group being formed (R165-R168) -/

@[simp] theorem stagesNothing_keepF (b : Build) (stream page : Nat) (old : Option FPage) :
    StagesNothing b.s (b.keepF stream page old).s := by
  unfold Build.keepF
  split <;> simp

@[simp] theorem stagesNothing_drop (b : Build) (n : Nat) : StagesNothing b.s (b.drop n).s := by
  simp [Build.drop]

/-- A record that finds its place touches Folio and Inkwell alone (R445, R453). -/
theorem stagesNothing_of_place {b c : Build} {r : NewRec} (h : b.place r = some c) : StagesNothing b.s c.s := by
  unfold Build.place at h
  dsimp only at h
  (repeat' split at h) <;> cases h <;> simp

@[simp] theorem stagesNothing_foldl_build {α : Type} (f : Build → α → Build) (l : List α) (b : Build)
    (h : ∀ b a, StagesNothing b.s (f b a).s) : StagesNothing b.s (l.foldl f b).s := by
  induction l generalizing b with
  | nil => simp
  | cons a l ih => exact StagesNothing.trans (h b a) (ih _)

@[simp] theorem stagesNothing_placeAll (b : Build) (rs : List NewRec) : StagesNothing b.s (b.placeAll rs).1.s := by
  have fold (f : Build × List NewRec → NewRec → Build × List NewRec) (hf : ∀ acc r, StagesNothing acc.1.s (f acc r).1.s)
      (acc : Build × List NewRec) : StagesNothing acc.1.s (rs.foldl f acc).1.s := by
    induction rs generalizing acc with
    | nil => simp
    | cons r rs ih => exact StagesNothing.trans (hf acc r) (ih _)
  unfold Build.placeAll
  refine fold _ (fun acc r => ?_) (b, [])
  split
  · simp
  · split
    next c hc => exact stagesNothing_of_place hc
    · simp

@[simp] theorem stagesNothing_refreshFolio (b : Build) (p : Nat) : StagesNothing b.s (b.refreshFolio p).s := by
  unfold Build.refreshFolio
  split
  · simp
  · split <;> simp

/-- The state threaded through the group under formation changes Folio and Inkwell alone; besides those the group rewrites the staged and
the deferred units (R43, R109). -/
@[simp] theorem steady_formGroup (s : State) (vhold : Nat) : Steady s (s.formGroup vhold) := by
  simp [State.formGroup, ite_fields, ite_sys_fields, apply_ite Prod.fst, apply_ite Build.s]

@[simp] theorem stagesNothing_closeGroup (s : State) : StagesNothing s s.closeGroup := by
  unfold State.closeGroup
  split <;> simp

/-- A torn group is undone stream by stream, then page by page (R161). -/
@[simp] theorem stagesNothing_tearGroup (s : State) (k : Nat) : StagesNothing s (s.tearGroup k) := by
  unfold State.tearGroup
  split
  · simp
  · have pages (f : State → (Nat × Option JPage) × Nat → State) (hf : ∀ a x, StagesNothing a (f a x))
        (l : List ((Nat × Option JPage) × Nat)) (addr w : Nat) (a : State) :
        StagesNothing a { l.foldl f a with ink := (l.foldl f a).ink.putCell addr w } := by
      simp [hf]
    refine StagesNothing.trans (stagesNothing_foldl _ _ _ fun a x => ?_) (pages _ (fun a x => ?_) _ _ _ _)
    · dsimp only
      (repeat' split) <;> simp
    · simp [ite_fields]

@[simp] theorem stagesNothing_sealVoid (s : State) (g : Nat) : StagesNothing s (s.sealVoid g) := by
  simp [State.sealVoid]

@[simp] theorem stagesNothing_showBreak (s : State) (cause first last : Nat) : StagesNothing s (s.showBreak cause first last) := by
  simp [State.showBreak]

@[simp] theorem stagesNothing_breakNow (s : State) (cause first last : Nat) : StagesNothing s (s.breakNow cause first last) := by
  simp [State.breakNow]

@[simp] theorem stagesNothing_voidGroup (s : State) (g : Nat) (t : Stamp) : StagesNothing s (s.voidGroup g t) := by
  simp [State.voidGroup]

@[simp] theorem stagesNothing_settle (s : State) (cold : Bool) : StagesNothing s (s.settle cold) := by
  simp [State.settle, ite_fields, ite_sys_fields]

@[simp] theorem stagesNothing_restore (s : State) (keep : Nat → Bool) : StagesNothing s (s.restore keep) := by
  simp [State.restore, ite_fields]

@[simp] theorem stagesNothing_saveShadow (s : State) : StagesNothing s s.saveShadow := by
  simp [State.saveShadow]

@[simp] theorem stagesNothing_restoreShadow (s : State) : StagesNothing s s.restoreShadow := by
  unfold State.restoreShadow
  split <;> simp [ite_fields]

@[simp] theorem stagesNothing_writeMarker (s : State) (cause : Nat) : StagesNothing s (s.writeMarker cause) := by
  simp [State.writeMarker]

end Sys2Proof.Machine
end

section
/-!
PROOFS. CabinFrames: what the operations of these parts of the model leave alone, operation by operation in the
order of the model: Lantern, radios, token exchange, Learn, Feed and Feedline.
-/

namespace Sys2Proof.Machine

/-! ## Lantern and handle sense (R210-R230) -/

@[simp] theorem stagesNothing_lfFaultItem (s : State) (c flags : Nat) : StagesNothing s (s.lfFaultItem c flags) := by
  simp [State.lfFaultItem]

@[simp] theorem stagesNothing_lfEnd (s : State) : StagesNothing s s.lfEnd := by
  simp [State.lfEnd]

@[simp] theorem stagesNothing_lfCountNew (s : State) (c flags : Nat) : StagesNothing s (s.lfCountNew c flags) := by
  simp [State.lfCountNew, ite_fields]

@[simp] theorem stagesNothing_lfReport (s : State) (run : LfRun) (b : Burst) (current : Nat) (phase : Int) (extra us ustat : Nat) (uplink : Bytes) :
    StagesNothing s (s.lfReport run b current phase extra us ustat uplink) := by
  simp [State.lfReport]

@[simp] theorem stagesNothing_lfCut (s : State) (run : LfRun) (b : Burst) (begun : Bool) : StagesNothing s (s.lfCut run b begun) := by
  simp [State.lfCut, ite_fields, ite_sys_fields]

@[simp] theorem stagesNothing_lfAbortNow (s : State) : StagesNothing s s.lfAbortNow := by
  unfold State.lfAbortNow
  split <;> simp

@[simp] theorem stagesNothing_uplinkUs (s : State) (status len : Nat) : StagesNothing s (s.uplinkUs status len).2 := by
  unfold State.uplinkUs
  split <;> simp

@[simp] theorem stagesNothing_cradleItem (s : State) (x : LfRun × Burst × List Burst) (status len current : Nat) (phase : Int) (payload : Bytes) :
    StagesNothing s (s.cradleItem x status len current phase payload) := by
  simp [State.cradleItem, ite_fields, ite_sys_fields]

@[simp] theorem stagesNothing_hsEvent (s : State) (c kind : Nat) (h : HsChan) : StagesNothing s (s.hsEvent c kind h) := by
  unfold State.hsEvent
  split <;> simp

@[simp] theorem stagesNothing_hsScan (s : State) (c m : Nat) : StagesNothing s (s.hsScan c m) := by
  unfold State.hsScan
  dsimp only
  split <;> simp [ite_fields, ite_sys_fields, apply_ite Prod.snd]

@[simp] theorem stagesNothing_hsShow (s : State) (c : Nat) : StagesNothing s (s.hsShow c) := by
  simp [State.hsShow]

@[simp] theorem stagesNothing_hsEnable (s : State) (old : Nat) : StagesNothing s (s.hsEnable old) := by
  simp [State.hsEnable, ite_fields, ite_sys_fields]

@[simp] theorem stagesNothing_hsBegin (s : State) : StagesNothing s s.hsBegin := by
  simp [State.hsBegin]

/-! ## Radios (R231-R255) -/

@[simp] theorem stagesNothing_regLoad (s : State) : StagesNothing s s.regLoad := by
  simp [State.regLoad]

@[simp] theorem stagesNothing_regRead (s : State) : StagesNothing s s.regRead := by
  simp [State.regRead]

@[simp] theorem stagesNothing_uhfDone (s : State) (kind entry flags : Nat) (power rssi off : Int) (payload : Bytes) :
    StagesNothing s (s.uhfDone kind entry flags power rssi off payload) := by
  unfold State.uhfDone
  split <;> simp

@[simp] theorem stagesNothing_listApply (s : State) (l : RadioList) : StagesNothing s (s.listApply l) := by
  unfold State.listApply
  split <;> simp

@[simp] theorem stagesNothing_chargeTx (s : State) (band us : Nat) : StagesNothing s (s.chargeTx band us) := by
  simp [State.chargeTx]

@[simp] theorem stagesNothing_radioTo (s : State) (r st : Nat) : StagesNothing s (s.radioTo r st) := by
  unfold State.radioTo
  split <;> simp

@[simp] theorem stagesNothing_listEnd (s : State) : StagesNothing s s.listEnd := by
  unfold State.listEnd
  split <;> simp [ite_fields]

@[simp] theorem stagesNothing_actClose (s : State) (r : Nat) : StagesNothing s (s.actClose r) := by
  simp [State.actClose]

@[simp] theorem stagesNothing_radioAbortNow (s : State) : StagesNothing s s.radioAbortNow := by
  simp [State.radioAbortNow, ite_fields, ite_sys_fields]

/-! ## Token banks and key records (R284-R288) -/

@[simp] theorem stagesNothing_keysRead (s : State) : StagesNothing s s.keysRead := by
  simp [State.keysRead]

/-! ## Token exchange (R256-R283) -/

@[simp] theorem stagesNothing_holdWake (s : State) (i : Item) : StagesNothing s (s.holdWake i) := by
  unfold State.holdWake
  dsimp only
  split
  · split <;> simp
  · simp

theorem stagesNothing_of_startWith {s t : State} {x : Exchange} {slot : Nat} {w : Wake} {effs : List Effect}
    (h : s.startWith x slot w = some (t, effs)) : StagesNothing s t := by
  unfold State.startWith at h
  split at h
  · cases h
  next b s' hb =>
    cases h
    exact stagesNothing_of_takeEntropy hb

theorem stagesNothing_of_startCradle {s t : State} {x : Exchange} {c : Option Bytes} {effs : List Effect}
    (h : s.startCradle x c = some (t, effs)) : StagesNothing s t := by
  unfold State.startCradle at h
  split at h
  · cases h
  next b s' hb =>
    cases h
    exact stagesNothing_of_takeEntropy hb

/-- An exchange that begins draws entropy at most (R259, R277). -/
theorem stagesNothing_of_begin {s t : State} {x : Exchange} {effs : List Effect} (h : s.begin x = some (t, effs)) :
    StagesNothing s t := by
  unfold State.begin at h
  split at h
  · split at h
    · exact stagesNothing_of_startCradle h
    · cases h; simp
  · split at h
    · exact stagesNothing_of_startWith h
    · cases h; simp

@[simp] theorem stagesNothing_tetherGather (s : State) : StagesNothing s s.tetherGather := by
  unfold State.tetherGather
  dsimp only
  split <;> simp

/-! ## Learn (R300-R305) -/

@[simp] theorem steady_execLearnStage (s : State) : Steady s ((execLearnStage s).state s) := by
  unfold execLearnStage
  dsimp only
  (repeat' split) <;> simp

/-! ## Feed (R310-R329) -/

@[simp] theorem stagesNothing_feedItem (s : State) (v : Bytes) : StagesNothing s (s.feedItem v) := by
  simp [State.feedItem, ite_fields]

@[simp] theorem stagesNothing_feedFlush (s : State) : StagesNothing s s.feedFlush := by
  simp [State.feedFlush]

@[simp] theorem stagesNothing_feedBoundary (s : State) (ref : Nat) (ilim : Bool) : StagesNothing s (s.feedBoundary ref ilim) := by
  simp [State.feedBoundary, ite_fields, ite_sys_fields]

@[simp] theorem stagesNothing_feedApply (s : State) : StagesNothing s s.feedApply := by
  simp [State.feedApply]

@[simp] theorem stagesNothing_feedPowerUp (s : State) : StagesNothing s s.feedPowerUp := by
  simp [State.feedPowerUp]

@[simp] theorem stagesNothing_feedPowerDown (s : State) : StagesNothing s s.feedPowerDown := by
  simp [State.feedPowerDown]

@[simp] theorem stagesNothing_feedReset (s : State) : StagesNothing s s.feedReset := by
  unfold State.feedReset
  split <;> simp

@[simp] theorem stagesNothing_feedStart (s : State) : StagesNothing s s.feedStart := by
  simp [State.feedStart]

@[simp] theorem stagesNothing_feedFails (s : State) (cause : Nat) : StagesNothing s (s.feedFails cause) := by
  simp [State.feedFails, ite_fields]

@[simp] theorem stagesNothing_feedClearNow (s : State) : StagesNothing s s.feedClearNow := by
  unfold State.feedClearNow
  split <;> simp

/-! ## Feedline and start lock (R330-R349) -/

@[simp] theorem stagesNothing_linkItem (s : State) (kind seq slew ref reason : Nat) :
    StagesNothing s (s.linkItem kind seq slew ref reason) := by
  simp [State.linkItem]

@[simp] theorem stagesNothing_linkValid (s : State) (ref : Nat) : StagesNothing s (s.linkValid ref) := by
  simp [State.linkValid, ite_fields, ite_sys_fields]

@[simp] theorem stagesNothing_linkReply (s : State) (cmd seq : Nat) (accepted refused : Bool) :
    StagesNothing s (s.linkReply cmd seq accepted refused) := by
  simp [State.linkReply]

@[simp] theorem stagesNothing_linkRefuse (s : State) (cmd seq slew ref reason : Nat) :
    StagesNothing s (s.linkRefuse cmd seq slew ref reason) := by
  simp [State.linkRefuse]

/-- A change of the latch writes the three copies of its bits and its cause, never the gate (R88, R89). -/
@[simp] theorem stagesNothing_setLatch (s : State) (r f : Bool) (c : Nat) :
    StagesNothing { s with guy := { s.guy with released := Tri.all r, feedEn := Tri.all f } } (s.setLatch r f c) := by
  simp [State.setLatch]

@[simp] theorem steady_feedGather (s : State) : Steady s s.feedGather := by
  unfold State.feedGather
  dsimp only
  split <;> simp [ite_fields]

end Sys2Proof.Machine
end

section
/-!
PROOFS. HostFrames: what the operations of these parts of the model leave alone, operation by operation in the
order of the model: host port, Quill and segments.
-/

namespace Sys2Proof.Machine

/-! ## Host port, tenants and rings (R126-R153) -/

@[simp] theorem stagesNothing_bufWrite (s : State) (p addr : Nat) (b : Bytes) : StagesNothing s (s.bufWrite p addr b) := by
  unfold State.bufWrite
  split <;> simp

@[simp] theorem stagesNothing_countObj (s : State) (key k : Nat) : StagesNothing s (s.countObj key k) := by
  unfold State.countObj
  split <;> simp

@[simp] theorem stagesNothing_ringError (s : State) (r : Ring) (e : Nat) : StagesNothing s (s.ringError r e) := by
  unfold State.ringError
  split <;> simp

@[simp] theorem stagesNothing_takeHead (s : State) (r : Ring) : StagesNothing s (s.takeHead r) := by
  simp [State.takeHead]

@[simp] theorem stagesNothing_completeDesc (s : State) (page n pos gen : Nat) (interim : Bool) (status len : Nat) (t : Stamp) :
    StagesNothing s (s.completeDesc page n pos gen interim status len t) := by
  simp [State.completeDesc, ite_fields, ite_sys_fields]

@[simp] theorem stagesNothing_hostEvent (s : State) (msg : Bytes) (t : Stamp) : StagesNothing s (s.hostEvent msg t) := by
  unfold State.hostEvent
  split <;> simp [ite_fields, ite_sys_fields]

@[simp] theorem stagesNothing_violate (s : State) (p off : Nat) (write : Bool) : StagesNothing s (s.violate p off write) := by
  unfold State.violate
  split <;> simp

@[simp] theorem steady_takeLedger (s : State) (r : Ring) : Steady s (s.takeLedger r) := by
  unfold State.takeLedger
  split <;> simp [ite_fields, ite_sys_fields]

@[simp] theorem steady_takeAllLedger (s : State) : Steady s s.takeAllLedger := by
  simp [State.takeAllLedger, ite_fields, ite_sys_fields]

@[simp] theorem stagesNothing_opRingEnable (s : State) (p v : Nat) : StagesNothing s (s.opRingEnable p v) := by
  simp [State.opRingEnable, ite_fields, ite_sys_fields]

@[simp] theorem stagesNothing_opRingDisable (s : State) (p v : Nat) : StagesNothing s (s.opRingDisable p v) := by
  simp [State.opRingDisable, ite_fields]

@[simp] theorem stagesNothing_opHostIdx (s : State) (p n v : Nat) : StagesNothing s (s.opHostIdx p n v) := by
  simp [State.opHostIdx, ite_fields, ite_sys_fields]

@[simp] theorem stagesNothing_opIrqClear (s : State) (p v : Nat) : StagesNothing s (s.opIrqClear p v) := by
  simp [State.opIrqClear]

@[simp] theorem stagesNothing_opRingIrqClear (s : State) (p w v : Nat) : StagesNothing s (s.opRingIrqClear p w v) := by
  simp [State.opRingIrqClear]

@[simp] theorem stagesNothing_opViolatedClear (s : State) (w v : Nat) : StagesNothing s (s.opViolatedClear w v) := by
  simp [State.opViolatedClear]

@[simp] theorem stagesNothing_opTenantResetReq (s : State) (v : Nat) : StagesNothing s (s.opTenantResetReq v) := by
  unfold State.opTenantResetReq
  split <;> simp

@[simp] theorem stagesNothing_opCoreReset (s : State) (v : Nat) : StagesNothing s (s.opCoreReset v) := by
  simp [State.opCoreReset, ite_fields]

@[simp] theorem stagesNothing_pageComplete (s : State) (p : Nat) (completion : Bytes) : StagesNothing s (s.pageComplete p completion) := by
  simp [State.pageComplete]

@[simp] theorem stagesNothing_opQpGo (s : State) (p v : Nat) : StagesNothing s (s.opQpGo p v) := by
  simp [State.opQpGo, ite_fields, ite_sys_fields]

@[simp] theorem stagesNothing_writeCtrl (s : State) (p off v : Nat) : StagesNothing s (s.writeCtrl p off v) := by
  simp [State.writeCtrl, ite_fields, ite_sys_fields]

@[simp] theorem stagesNothing_hostWriteWord (s : State) (p off v : Nat) : StagesNothing s (s.hostWriteWord p off v).1 := by
  unfold State.hostWriteWord
  (repeat' split) <;> simp

@[simp] theorem stagesNothing_bwWrite (s : State) (off v : Nat) : StagesNothing s (s.bwWrite off v) := by
  unfold State.bwWrite
  split <;> simp

@[simp] theorem stagesNothing_answer (s : State) (st : Nat) (rest : Bytes) : StagesNothing s (s.answer st rest) := by
  unfold State.answer
  split <;> simp

@[simp] theorem stagesNothing_silent (s : State) (n : Nat) : StagesNothing s (s.silent n) := by
  simp [State.silent]

@[simp] theorem stagesNothing_hostRead (s : State) (op : Nat) (c : Bytes) : StagesNothing s (s.hostRead op c) := by
  unfold State.hostRead
  dsimp only
  split
  · simp
  · split
    · split <;> simp
    · simp

@[simp] theorem stagesNothing_hostWrite (s : State) (op : Nat) (c data : Bytes) : StagesNothing s (s.hostWrite op c data) := by
  unfold State.hostWrite
  dsimp only
  (repeat' split) <;> simp

@[simp] theorem stagesNothing_regWrite (s : State) (p off v : Nat) : StagesNothing s (s.regWrite p off v) := by
  simp [State.regWrite, ite_fields, ite_sys_fields]

@[simp] theorem stagesNothing_tenantResetNow (s : State) (t : Nat) : StagesNothing s (s.tenantResetNow t) := by
  simp [State.tenantResetNow]

@[simp] theorem stagesNothing_tenantReadyNow (s : State) (t : Nat) : StagesNothing s (s.tenantReadyNow t) := by
  simp [State.tenantReadyNow, ite_fields, ite_sys_fields]

@[simp] theorem stagesNothing_regrantCloseNow (s : State) (pos : Nat) (counts : List (Nat × Nat)) :
    StagesNothing s (s.regrantCloseNow pos counts) := by
  simp [State.regrantCloseNow]

@[simp] theorem stagesNothing_regrantMoveNow (s : State) : StagesNothing s s.regrantMoveNow := by
  simp [State.regrantMoveNow]

/-! ## Quill (R183-R209) -/

@[simp] theorem stagesNothing_violateWork (s : State) (w : Work) : StagesNothing s (s.violateWork w) := by
  unfold State.violateWork
  split <;> simp [ite_fields, ite_sys_fields]

/-- An operation that a lane takes comes off its queue or ring (R183, R200). -/
theorem stagesNothing_of_nextOp {s t : State} {lane : Nat} {op : QOp} (h : s.nextOp lane = some (op, t)) : StagesNothing s t := by
  unfold State.nextOp at h
  split at h
  · cases h; simp
  · obtain ⟨w, -, hw⟩ := Option.map_eq_some_iff.1 h
    cases hw
    dsimp only
    split <;> simp

@[simp] theorem stagesNothing_laneStart (s : State) (mode lane : Nat) : StagesNothing s (s.laneStart mode lane) := by
  unfold State.laneStart
  split
  · split
    next op t h =>
      have h := stagesNothing_of_nextOp h
      split <;> simp [h]
    · simp
  · simp

@[simp] theorem stagesNothing_putCompletion (s : State) (p ring : Nat) (b : Bytes) : StagesNothing s (s.putCompletion p ring b) := by
  simp [State.putCompletion, ite_fields, ite_sys_fields]

@[simp] theorem stagesNothing_drainHeld (s : State) : StagesNothing s s.drainHeld := by
  simp [State.drainHeld]

@[simp] theorem stagesNothing_ridgeCmac (s : State) (fid cycle : Nat) (out : Bytes) : StagesNothing s (s.ridgeCmac fid cycle out) := by
  simp [State.ridgeCmac]

@[simp] theorem stagesNothing_intComplete (s : State) (r : IntReq) (status tag gen : Nat) (out : Bytes) :
    StagesNothing s (s.intComplete r status tag gen out) := by
  simp [State.intComplete, ite_fields, ite_sys_fields]

@[simp] theorem stagesNothing_finish (s : State) (op : QOp) (status : Nat) : StagesNothing s (s.finish op status) := by
  unfold State.finish
  split <;> simp

@[simp] theorem stagesNothing_freeLane (s : State) (lane : Nat) : StagesNothing s (s.freeLane lane) := by
  simp [State.freeLane]

@[simp] theorem stagesNothing_countTag (s : State) (op : QOp) : StagesNothing s (s.countTag op) := by
  unfold State.countTag
  split <;> simp

@[simp] theorem stagesNothing_abortLanes (s : State) (which : QOp → Bool) (status : Nat) :
    StagesNothing s (s.abortLanes which status) := by
  simp [State.abortLanes]

@[simp] theorem stagesNothing_quarantine (s : State) (cause : Nat) : StagesNothing s (s.quarantine cause) := by
  unfold State.quarantine
  split <;> simp

@[simp] theorem stagesNothing_quillStart (s : State) (pass : Bool) : StagesNothing s (s.quillStart pass) := by
  simp [State.quillStart, ite_fields, ite_sys_fields]

@[simp] theorem steady_execKeyInstall (s : State) : Steady s ((execKeyInstall s).state s) := by
  unfold execKeyInstall
  dsimp only
  (repeat' split) <;> simp

@[simp] theorem stagesNothing_keyStoreNow (s : State) (pos : Nat) (key : Bytes) : StagesNothing s (s.keyStoreNow pos key) := by
  unfold State.keyStoreNow
  split <;> simp

@[simp] theorem stagesNothing_keyEraseNow (s : State) (slot : Nat) (revoke : Bool) : StagesNothing s (s.keyEraseNow slot revoke) := by
  unfold State.keyEraseNow
  split <;> simp

@[simp] theorem stagesNothing_quillRegrant (s : State) : StagesNothing s s.quillRegrant := by
  simp [State.quillRegrant, ite_fields, ite_sys_fields]

@[simp] theorem stagesNothing_quillTenantReset (s : State) (t : Nat) : StagesNothing s (s.quillTenantReset t) := by
  simp [State.quillTenantReset]

/-! ## Segments (R116, R121, R122) -/

@[simp] theorem stagesNothing_dropReasm (s : State) (src : Nat) : StagesNothing s (s.dropReasm src) := by
  unfold State.dropReasm
  split <;> simp

@[simp] theorem stagesNothing_takeSegment (s : State) (src fmt ctrl : Nat) (data : Bytes) :
    StagesNothing s (s.takeSegment src fmt ctrl data).2 := by
  unfold State.takeSegment
  dsimp only
  split
  · simp [ite_fields, ite_sys_fields]
  · simp [apply_ite Prod.snd, ite_fields, ite_sys_fields]

@[simp] theorem steady_gatherRequest (s : State) (i : Item) (msg : Bytes) (aux : List Nat) : Steady s (s.gatherRequest i msg aux) := by
  simp [State.gatherRequest]

end Sys2Proof.Machine
end

section
/-!
PROOFS. PortFrames: what the operations of these parts of the model leave alone, operation by operation in the
order of the model: Ridgeline, CAN FD, images, Pole link and outgoing records.
-/

namespace Sys2Proof.Machine

/-! ## Ridgeline (R350-R407) -/

@[simp] theorem stagesNothing_ridgeItem (s : State) (kind : Nat) (val : Bytes) (code detail : Nat) :
    StagesNothing s (s.ridgeItem kind val code detail) := by
  simp [State.ridgeItem]

@[simp] theorem stagesNothing_ridgeEnter (s : State) (st fault : Nat) : StagesNothing s (s.ridgeEnter st fault) := by
  unfold State.ridgeEnter
  split <;> simp

@[simp] theorem stagesNothing_ridgeTo (s : State) (st : Nat) : StagesNothing s (s.ridgeTo st) := by
  simp [State.ridgeTo]

@[simp] theorem stagesNothing_nodeChanged (s : State) : StagesNothing s s.nodeChanged := by
  unfold State.nodeChanged
  split <;> simp

@[simp] theorem stagesNothing_ridgePowerDown (s : State) : StagesNothing s s.ridgePowerDown := by
  simp [State.ridgePowerDown]

@[simp] theorem stagesNothing_ridgePowerUp (s : State) : StagesNothing s s.ridgePowerUp := by
  simp [State.ridgePowerUp]

@[simp] theorem stagesNothing_queueCmac (s : State) (f : RidgeOut) : StagesNothing s (s.queueCmac f) := by
  simp [State.queueCmac, ite_fields]

@[simp] theorem stagesNothing_ridgeComplete (s : State) (t : Stamp) : StagesNothing s (s.ridgeComplete t) := by
  unfold State.ridgeComplete
  refine stagesNothing_foldl _ _ _ fun a f => ?_
  split <;> simp

@[simp] theorem stagesNothing_ridgeBoundary (s : State) (t : Stamp) : StagesNothing s (s.ridgeBoundary t) := by
  unfold State.ridgeBoundary
  split
  · simp
  · dsimp only
    split <;> simp

@[simp] theorem stagesNothing_exportFrame (s : State) (c : Nat) : StagesNothing s (s.exportFrame c).1 := by
  unfold State.exportFrame
  split
  · simp [apply_ite Prod.fst, ite_fields]
  · simp

@[simp] theorem steady_ridgeRefuse (s : State) : Steady s s.ridgeRefuse := by
  unfold State.ridgeRefuse
  refine steady_foldl _ _ _ fun a q => ?_
  dsimp only
  split <;> simp

/-- Each descriptor taken for the next cycle is queued as a frame or answered by a unit (R390, R459). -/
@[simp] theorem steady_ridgeTake (s : State) : Steady s s.ridgeTake := by
  unfold State.ridgeTake
  split
  · simp
  · split
    · simp
    · refine Steady.trans (stagesNothing_exportFrame s _).1 (steady_foldl_fst _ _ _ fun acc q => ?_)
      dsimp only
      split
      · simp
      · split
        · simp
        · split
          · simp
          · split <;> simp

@[simp] theorem stagesNothing_drive (s : State) (f : RidgeOut) : StagesNothing s (s.drive f) := by
  simp [State.drive, ite_fields]

@[simp] theorem stagesNothing_countCopy (s : State) (repeated : Bool) (x : RidgeRx) : StagesNothing s (s.countCopy repeated x) := by
  simp [State.countCopy, ite_fields, ite_sys_fields]

@[simp] theorem stagesNothing_frameItem (s : State) (f : Bytes) (chan : Nat) : StagesNothing s (s.frameItem f chan) := by
  unfold State.frameItem
  split <;> simp

@[simp] theorem stagesNothing_integrate (s : State) (f : Bytes) : StagesNothing s (s.integrate f) := by
  simp [State.integrate]

@[simp] theorem stagesNothing_withdraw (s : State) (slot : Nat) : StagesNothing s (s.withdraw slot) := by
  unfold State.withdraw
  split <;> simp

@[simp] theorem stagesNothing_ringCorrect (s : State) (offset : Int) : StagesNothing s (s.ringCorrect offset) := by
  unfold State.ringCorrect
  split <;> simp

@[simp] theorem stagesNothing_integrating (s : State) : StagesNothing s s.integrating := by
  simp [State.integrating, ite_fields, ite_sys_fields]

@[simp] theorem stagesNothing_converging (s : State) : StagesNothing s s.converging := by
  simp [State.converging, ite_fields, ite_sys_fields]

@[simp] theorem steady_ridgeDeliver (s : State) (key : Nat) (f : Bytes) : Steady s (s.ridgeDeliver key f) := by
  unfold State.ridgeDeliver
  dsimp only
  (repeat' split) <;> simp

@[simp] theorem steady_ridgeAct (s : State) (i : Item) (f : Bytes) : Steady s (s.ridgeAct i f) := by
  unfold State.ridgeAct
  dsimp only
  (repeat' split) <;> simp

@[simp] theorem steady_ridgeUnit (s : State) (i : Item) : Steady s (s.ridgeUnit i) := by
  unfold State.ridgeUnit
  split <;> simp

@[simp] theorem steady_execFrameVerified (s : State) : Steady s ((execFrameVerified s).state s) := by
  unfold execFrameVerified
  dsimp only
  (repeat' split) <;> simp

@[simp] theorem stagesNothing_ridgeActivate (s : State) (k : Nat) (adopted : Bool) : StagesNothing s (s.ridgeActivate k adopted) := by
  simp [State.ridgeActivate]

@[simp] theorem stagesNothing_sideLost (s : State) (side : Nat) : StagesNothing s (s.sideLost side) := by
  unfold State.sideLost
  split <;> simp

@[simp] theorem stagesNothing_isolateNow (s : State) (old : Nat) : StagesNothing s (s.isolateNow old) := by
  simp [State.isolateNow]

@[simp] theorem stagesNothing_guardClearNow (s : State) : StagesNothing s s.guardClearNow := by
  simp [State.guardClearNow]

@[simp] theorem stagesNothing_ridgeSend (s : State) (target : Nat) (msg : Bytes) : StagesNothing s (s.ridgeSend target msg) := by
  unfold State.ridgeSend
  split <;> simp [ite_fields]

/-! ## CAN FD (R408-R419) -/

@[simp] theorem stagesNothing_setCan (s : State) (k : Nat) (c : CanCtl) : StagesNothing s (s.setCan k c) := by
  unfold State.setCan
  split <;> simp

@[simp] theorem stagesNothing_canItem (s : State) (k kind flags : Nat) (id data : Bytes) (aux : List Nat) :
    StagesNothing s (s.canItem k kind flags id data aux) := by
  simp [State.canItem]

@[simp] theorem stagesNothing_canTo (s : State) (k st : Nat) : StagesNothing s (s.canTo k st) := by
  simp [State.canTo, ite_fields, ite_sys_fields]

@[simp] theorem stagesNothing_canPowerUp (s : State) : StagesNothing s s.canPowerUp := by
  simp [State.canPowerUp, ite_fields, ite_sys_fields]

@[simp] theorem stagesNothing_canPowerDown (s : State) : StagesNothing s s.canPowerDown := by
  simp [State.canPowerDown]

@[simp] theorem stagesNothing_canReinit (s : State) (k : Nat) : StagesNothing s (s.canReinit k) := by
  simp [State.canReinit, ite_fields, ite_sys_fields]

@[simp] theorem stagesNothing_canChanged (s : State) (k : Nat) : StagesNothing s (s.canChanged k) := by
  simp [State.canChanged, ite_fields, ite_sys_fields]

@[simp] theorem stagesNothing_canErrors (s : State) (k tec rxc : Nat) : StagesNothing s (s.canErrors k tec rxc) := by
  simp [State.canErrors]

@[simp] theorem stagesNothing_canRecoverNow (s : State) (k : Nat) : StagesNothing s (s.canRecoverNow k) := by
  unfold State.canRecoverNow
  split <;> simp

@[simp] theorem stagesNothing_recAfter (s : State) (k : Nat) : StagesNothing s (s.recAfter k).2 := by
  simp [State.recAfter, apply_ite Prod.snd, ite_fields, ite_sys_fields]

@[simp] theorem steady_canUnit (s : State) (i : Item) : Steady s (s.canUnit i) := by
  unfold State.canUnit
  dsimp only
  split
  · split <;> simp
  · simp [ite_fields, ite_sys_fields]

@[simp] theorem stagesNothing_canQueue (s : State) (k : Nat) (isExport : Bool) (fmt : Nat) (msg : Bytes) :
    StagesNothing s (s.canQueue k isExport fmt msg) := by
  simp [State.canQueue, ite_fields, ite_sys_fields]

@[simp] theorem stagesNothing_canBoundary (s : State) : StagesNothing s s.canBoundary := by
  simp [State.canBoundary]

/-! ## Images (R464-R482) -/

@[simp] theorem stagesNothing_setSlot (s : State) (b : Bool) (x : Slot) : StagesNothing s (s.setSlot b x) := by
  simp [State.setSlot]

@[simp] theorem bootSelect_pending (s : State) : s.bootSelect.pending = s.pending := by
  unfold State.bootSelect
  split <;> simp

@[simp] theorem stagesNothing_enterBivouac (s : State) : StagesNothing s s.enterBivouac := by
  simp [State.enterBivouac]

@[simp] theorem stagesNothing_slotPagesNow (s : State) (first : Nat) (data : List Bytes) :
    StagesNothing s (s.slotPagesNow first data) := by
  simp [State.slotPagesNow, ite_fields, ite_sys_fields]

@[simp] theorem stagesNothing_slotSealNow (s : State) (p : Option SealPage) : StagesNothing s (s.slotSealNow p) := by
  simp [State.slotSealNow, ite_fields, ite_sys_fields]

/-! ## Pole link (R420-R442) -/

@[simp] theorem stagesNothing_sendOwn (s : State) (f : PoleFrame) : StagesNothing s (s.sendOwn f) := by
  unfold State.sendOwn
  split <;> simp

@[simp] theorem stagesNothing_sendUp (s : State) (type : Nat) (payload : Bytes) : StagesNothing s (s.sendUp type payload) := by
  simp [State.sendUp]

@[simp] theorem stagesNothing_repeated (s : State) (f : PoleFrame) : StagesNothing s (s.repeated f) := by
  unfold State.repeated
  split <;> simp

@[simp] theorem stagesNothing_badFrame (s : State) : StagesNothing s s.badFrame := by
  simp [State.badFrame]

@[simp] theorem stagesNothing_refusedNow (s : State) (reason : Nat) : StagesNothing s (s.refusedNow reason) := by
  simp [State.refusedNow, ite_fields, ite_sys_fields]

@[simp] theorem stagesNothing_poleDue (s : State) : StagesNothing s s.poleDue := by
  simp [State.poleDue]

@[simp] theorem stagesNothing_poleDeadline (s : State) : StagesNothing s s.poleDeadline := by
  unfold State.poleDeadline
  split <;> simp

@[simp] theorem stagesNothing_poleCheckNow (s : State) : StagesNothing s s.poleCheckNow := by
  simp [State.poleCheckNow]

@[simp] theorem stagesNothing_applyPole (s : State) (e : Effect) : StagesNothing s (s.applyPole e) := by
  unfold State.applyPole
  split <;> simp [ite_fields, ite_sys_fields]

@[simp] theorem stagesNothing_poleBoundary (s : State) (first : Bool) : StagesNothing s (s.poleBoundary first) := by
  unfold State.poleBoundary
  split
  · simp
  · split
    · dsimp only
      -- the frames of the kept items name stroke numbers, which `simp` would compute with
      generalize List.map _ _ = frames
      split <;> simp
    · simp [ite_fields]

@[simp] theorem stagesNothing_polePowerDown (s : State) : StagesNothing s s.polePowerDown := by
  simp [State.polePowerDown]

/-! ## Export (R457-R463) -/

@[simp] theorem steady_execExportDelivery (s : State) : Steady s ((execExportDelivery s).state s) := by
  unfold execExportDelivery
  dsimp only
  (repeat' split) <;> simp

@[simp] theorem stagesNothing_exportHost (s : State) (stream : Nat) (block : Bytes) (t : Stamp) (fuel : Nat) :
    StagesNothing s (s.exportHost stream block t fuel) := by
  induction fuel generalizing s with
  | zero => simp [State.exportHost]
  | succ fuel ih =>
    unfold State.exportHost
    (repeat' split) <;> simp [ih]

@[simp] theorem stagesNothing_exportEndNow (s : State) (ok : Bool) (block : Bytes) (t : Stamp) :
    StagesNothing s (s.exportEndNow ok block t) := by
  unfold State.exportEndNow
  split <;> simp [ite_fields, ite_sys_fields]

@[simp] theorem stagesNothing_folioAckNow (s : State) (n last : Nat) : StagesNothing s (s.folioAckNow n last).1 := by
  simp [State.folioAckNow, apply_ite Prod.fst, ite_fields]

end Sys2Proof.Machine
end

section
/-!
PROOFS. UnitFrames: what the operations of these parts of the model leave alone, operation by operation in the
order of the model: transactions, approvals, domains, the boundary and Work.
-/

namespace Sys2Proof.Machine

/-! ## Ledger transactions (R99-R124) -/

@[simp] theorem stagesNothing_drawn (s : State) (t : TxnRun) : StagesNothing s (s.drawn t) := by
  simp [State.drawn]

@[simp] theorem steady_refuseWhole (s : State) (key : Nat) (r : Requester) (echo : Bool) (rs : List EntryResult) (status : Nat) (more : List Effect) (recs : List NewRec) :
    Steady s (s.refuseWhole key r echo rs status more recs) := by
  simp [State.refuseWhole]

@[simp] theorem steady_applyProtected (s : State) (key : Nat) (r : Requester) (echo : Bool) (es : List LEntry) (pos : Nat) (e : Inflight) (inst : Nat) (free : List Effect) :
    Steady s (s.applyProtected key r echo es pos e inst free) := by
  simp [State.applyProtected, ite_fields, ite_sys_fields]

/-- A countersigned change that is submitted is refused whole, applied, or held as a proposal: one unit is staged (R109, R110). -/
theorem steady_of_submit {s t : State} {key : Nat} {r : Requester} {echo : Bool} {body : Bytes} {es : List LEntry}
    (h : s.submit key r echo body es = some t) : Steady s t := by
  unfold State.submit at h
  dsimp only at h
  split at h
  · cases h
  split at h
  · cases h; simp
  split at h
  · split at h
    · split at h <;> cases h <;> simp
    · cases h; simp
  split at h
  · split at h
    · cases h; simp
    split at h
    · cases h; simp
    obtain ⟨x, hx, rfl⟩ := Option.map_eq_some_iff.1 h
    simp [stagesNothing_of_takeEntropy hx]
  · cases h; simp

/-- A transaction stages one unit, on the state with what it has drawn (R107). -/
theorem steady_of_transact {s t : State} {key : Nat} {r : Requester} {echo : Bool} {body : Bytes} {es : List LEntry}
    (h : s.transact key r echo body es = some t) : Steady s t := by
  have ordinary {v : TxnRun} {u : Staged} {c : Prop} [Decidable c]
      (h : (if c then none else some ((s.drawn v).stage u)) = some t) : Steady s t := by
    split at h
    · cases h
    · cases h; simp
  unfold State.transact at h
  dsimp only at h
  split at h
  · split at h
    · exact ordinary h
    · split at h <;> cases h <;> simp
    · exact steady_of_submit h
  · exact ordinary h

@[simp] theorem steady_ledgerUnit (s : State) (key : Nat) (i : Item) (more : List Effect) : Steady s (s.ledgerUnit key i more) := by
  unfold State.ledgerUnit
  extract_lets r s1
  have h1 : Steady s s1 := by simp [s1, ite_fields]
  split
  · simp [h1]
  · exact h1
  · simp [h1]
  · dsimp only
    split
    · simp [h1]
    · split
      next ht => exact Steady.trans h1 (steady_of_transact ht)
      · simp [h1]

@[simp] theorem steady_writeNow (s : State) (r : Requester) (key : Nat) (v : Bytes) : Steady s (s.writeNow r key v) := by
  simp [State.writeNow]

/-! ## Approvals and decisions (R274, R293-R296) -/

@[simp] theorem steady_applyProposal (s : State) (key : Nat) (p : Proposal) : Steady s (s.applyProposal key p) := by
  simp [State.applyProposal]

@[simp] theorem steady_failAuth (s : State) (key : Nat) (p : Proposal) (recs : List NewRec) : Steady s (s.failAuth key p recs) := by
  simp [State.failAuth]

@[simp] theorem steady_countAuth (s : State) (key : Nat) (p : Proposal) (principal : Nat) : Steady s (s.countAuth key p principal) := by
  simp [State.countAuth, ite_fields, ite_sys_fields]

@[simp] theorem steady_authenticate (s : State) (i : Item) (num principal : Nat) : Steady s (s.authenticate i num principal) := by
  unfold State.authenticate
  split <;> simp [ite_fields, ite_sys_fields]

@[simp] theorem steady_execAuthentication (s : State) : Steady s ((execAuthentication s).state s) := by
  unfold execAuthentication
  (repeat' split) <;> simp

@[simp] theorem steady_decideCountersign (s : State) (x : Exchange) : Steady s (s.decideCountersign x) := by
  unfold State.decideCountersign
  dsimp only
  (repeat' split) <;> simp

@[simp] theorem steady_decideLost (s : State) (x : Exchange) : Steady s (s.decideLost x) := by
  simp [State.decideLost]

@[simp] theorem steady_decideNow (s : State) (x : Exchange) : Steady s (s.decideNow x) := by
  simp [State.decideNow, ite_fields, ite_sys_fields]

/-! ## Domains (R73-R75, R86) -/

@[simp] theorem stagesNothing_poolDown (s : State) : StagesNothing s s.poolDown := by
  simp [State.poolDown]

@[simp] theorem stagesNothing_quillDown (s : State) (status : Nat) : StagesNothing s (s.quillDown status) := by
  simp [State.quillDown]

@[simp] theorem stagesNothing_lfBankDown (s : State) (bank : Nat) : StagesNothing s (s.lfBankDown bank) := by
  unfold State.lfBankDown
  split <;> simp [ite_fields, ite_sys_fields]

@[simp] theorem stagesNothing_uhfDown (s : State) : StagesNothing s s.uhfDown := by
  simp [State.uhfDown]

@[simp] theorem stagesNothing_uwbDown (s : State) : StagesNothing s s.uwbDown := by
  unfold State.uwbDown
  split <;> simp

@[simp] theorem stagesNothing_ridgeDown (s : State) : StagesNothing s s.ridgeDown := by
  have busy (f : State → RidgeOut → State) (hf : ∀ a x, StagesNothing a (f a x)) (a : State) : StagesNothing a
      { (a.ridge.next.foldl f a).ridgePowerDown with
        reasm := (a.ridge.next.foldl f a).reasm.filter (fun r => decide (256 ≤ r.src))
        folio := { (a.ridge.next.foldl f a).folio with sending := none } } := by
    simp [hf]
  exact StagesNothing.trans (stagesNothing_ridgeComplete s s.stamp) (busy _ (fun a x => by split <;> simp) _)

@[simp] theorem stagesNothing_domainDown (s : State) (n : Nat) (off : Bool) : StagesNothing s (s.domainDown n off) := by
  unfold State.domainDown
  split <;> simp [ite_fields, ite_sys_fields]

@[simp] theorem stagesNothing_rise (s : State) (n : Nat) : StagesNothing s (s.rise n) := by
  simp [State.rise]

@[simp] theorem stagesNothing_subsystemNow (s : State) (code : Nat) : StagesNothing s (s.subsystemNow code) := by
  simp [State.subsystemNow, ite_fields, ite_sys_fields]

@[simp] theorem stagesNothing_domainOff (s : State) (n : Nat) : StagesNothing s (s.domainOff n) := by
  simp [State.domainOff]

@[simp] theorem stagesNothing_domainsNow (s : State) (v : Nat) : StagesNothing s (s.domainsNow v) := by
  simp [State.domainsNow, ite_fields, ite_sys_fields]

@[simp] theorem stagesNothing_powerUpStep (s : State) : StagesNothing s s.powerUpStep := by
  unfold State.powerUpStep
  split <;> simp

@[simp] theorem stagesNothing_domainUp (s : State) (n : Nat) (pass : Bool) : StagesNothing s (s.domainUp n pass) := by
  unfold State.domainUp
  split <;> simp

/-! ## The boundary (R29-R32, R44) -/

@[simp] theorem stagesNothing_respondNow (s : State) (t : Stamp) (r : Requester) (interim : Bool) (status : Nat) (msg : Bytes) :
    StagesNothing s (s.respondNow t r interim status msg) := by
  unfold State.respondNow
  split <;> simp [ite_fields, ite_sys_fields]

@[simp] theorem stagesNothing_publish (s : State) (t : Stamp) (keys : List Nat) (ports : Nat) :
    StagesNothing s (s.publish t keys ports) := by
  simp [State.publish, ite_fields, ite_sys_fields]

@[simp] theorem stagesNothing_putProposal (s : State) (p : Proposal) : StagesNothing s (s.putProposal p) := by
  simp [State.putProposal]

@[simp] theorem stagesNothing_checkSetNow (s : State) : StagesNothing s s.checkSetNow := by
  simp [State.checkSetNow, ite_fields, ite_sys_fields]

@[simp] theorem stagesNothing_putInflight (s : State) (t : Stamp) (p : Nat) (e : Inflight) : StagesNothing s (s.putInflight t p e) := by
  simp [State.putInflight, ite_fields]

@[simp] theorem stagesNothing_putExchange (s : State) (x : Option Exchange) : StagesNothing s (s.putExchange x) := by
  simp [State.putExchange, ite_fields, ite_sys_fields]

@[simp] theorem stagesNothing_putSchedule (s : State) (x : LfSched) : StagesNothing s (s.putSchedule x) := by
  simp [State.putSchedule]

@[simp] theorem stagesNothing_applyEffect (t : Stamp) (s : State) (e : Effect) : StagesNothing s (State.applyEffect t s e) := by
  unfold State.applyEffect
  split <;> simp [ite_fields, ite_sys_fields]

/-- The latch operations of a stroke change the latch's two bits alone (R26, R88). -/
theorem latchNow_frame (s : State) (ops : List LatchOp) :
    ∃ g : Guy, g.gateOpen = s.guy.gateOpen ∧ StagesNothing { s with guy := g } (s.latchNow ops) := by
  unfold State.latchNow
  extract_lets r f want s1
  have set (r f : Bool) (c : Nat) : ∃ g : Guy, g.gateOpen = s.guy.gateOpen ∧ StagesNothing { s with guy := g } (s.setLatch r f c) :=
    ⟨{ s.guy with released := Tri.all r, feedEn := Tri.all f }, rfl, stagesNothing_setLatch s r f c⟩
  split
  · exact ⟨s.guy, rfl, by simp⟩
  split
  · obtain ⟨g, hg, hs⟩ := set false false 4
    exact ⟨g, hg, StagesNothing.trans hs (by simp [s1])⟩
  split <;> exact set _ _ _

@[simp] theorem stagesNothing_recordFaults (s : State) (fs : List (Nat × Nat)) : StagesNothing s (s.recordFaults fs) := by
  simp [State.recordFaults]

@[simp] theorem stagesNothing_clearFaults (s : State) : StagesNothing s s.clearFaults := by
  simp [State.clearFaults]

@[simp] theorem stagesNothing_recomputeFaults (s : State) : StagesNothing s s.recomputeFaults := by
  simp [State.recomputeFaults]

@[simp] theorem stagesNothing_reconfigure (s old : State) (effs : List Effect) : StagesNothing s (s.reconfigure old effs) := by
  simp [State.reconfigure, ite_fields, ite_sys_fields]

@[simp] theorem stagesNothing_regFault (s old : State) : StagesNothing s (s.regFault old) := by
  unfold State.regFault
  split <;> simp

/-- Besides the latch a Commit leaves the stroke's frame alone: every effect it applies belongs to some other block (R44). -/
theorem commitNow_frame (s : State) :
    ∃ g : Guy, g.gateOpen = s.guy.gateOpen ∧ StagesNothing { s with guy := g } s.commitNow := by
  obtain ⟨g, hg, hs⟩ := latchNow_frame s (latchOps s.standing)
  refine ⟨g, hg, StagesNothing.trans hs ?_⟩
  unfold State.commitNow
  extract_lets t effs0 ops wrong effs s1 s2 s3 s4 s5 s6 s7
  have h3 : StagesNothing s1 s3 := by simp [s3, s2]
  have h4 : StagesNothing s3 s4 := by simp [s4]
  have h5 : StagesNothing s4 s5 := by
    simp only [s5]
    split <;> simp
  have h6 : StagesNothing s5 s6 := by
    simp only [s6]
    split <;> simp
  have h7 : StagesNothing s6 { s7 with ink := { s7.ink with gates := 0 } } := by simp [s7]
  exact StagesNothing.trans h3 (StagesNothing.trans h4 (StagesNothing.trans h5 (StagesNothing.trans h6 h7)))

@[simp] theorem commitNow_pending (s : State) : s.commitNow.pending = s.pending := by
  obtain ⟨g, -, h⟩ := commitNow_frame s
  simp [h]

@[simp] theorem stagesNothing_correct (s : State) : StagesNothing s s.correct := by
  unfold State.correct
  split <;> simp

/-! ## Gather and Work (R34-R43) -/

@[simp] theorem steady_disposeQuill (s : State) : Steady s s.disposeQuill := by
  unfold State.disposeQuill
  split <;> simp

@[simp] theorem inPlace_disposeTenant (s : State) (t : Nat) : InPlace s (s.disposeTenant t) := by
  unfold State.disposeTenant
  dsimp only
  split <;> simp

@[simp] theorem steady_firstStrokeUnits (s : State) (cls : Nat) : Steady s (s.firstStrokeUnits cls) := by
  unfold State.firstStrokeUnits
  dsimp only
  split <;> simp [ite_fields]

@[simp] theorem steady_eccErrors (s : State) (corrected : Nat) (bad : List Nat) (sram : Bool) :
    Steady s (s.eccErrors corrected bad sram) := by
  simp [State.eccErrors, ite_fields]

@[simp] theorem steady_readPads (s : State) (a b : Bool) : Steady s (s.readPads a b) := by
  simp [State.readPads, ite_fields]

@[simp] theorem stagesNothing_vlfItems (s : State) : StagesNothing s s.vlfItems := by
  simp [State.vlfItems, ite_fields, ite_sys_fields]

@[simp] theorem steady_fixGathered (s : State) : Steady s s.fixGathered := by
  simp [State.fixGathered, ite_fields]

@[simp] theorem stagesNothing_drawEntropy (s : State) : StagesNothing s s.drawEntropy := by
  simp [State.drawEntropy]

/-- The unit of a gathered item stages, draws, or asks for a reset; only a tenant reset takes a re-run away (R486). -/
@[simp] theorem inPlace_gatherUnit (s : State) (i : Item) : InPlace s (s.gatherUnit i) := by
  unfold State.gatherUnit
  split
  · simp [ite_fields, ite_sys_fields]
  · simp
  · simp
  · simp
  · simp
  · simp
  · simp
  · split
    · simp
    · split
      · simp
      · split
        · simp
        · split <;> split <;> simp

/-- A held exchange that begins stages its unit, on the state with the entropy it drew (R25). -/
@[simp] theorem steady_beginHeld (s : State) : Steady s s.beginHeld := by
  unfold State.beginHeld
  split
  · split
    · split
      · split
        next x hx => simp [stagesNothing_of_begin hx]
        · simp
      · simp
    · split
      · simp
      · split
        next x hx => simp [stagesNothing_of_startCradle hx]
        · simp
  · simp

@[simp] theorem steady_ownSteps (s : State) : Steady s s.ownSteps := by
  unfold State.ownSteps
  cases s.eraseStep <;> dsimp only <;> split <;> simp

@[simp] theorem steady_overrun (s : State) (counted : Bool) : Steady s (s.overrun counted) := by
  simp [State.overrun]

@[simp] theorem steady_overrunAnswer (s : State) (i : Item) : Steady s (s.overrunAnswer i) := by
  unfold State.overrunAnswer
  split <;> simp

@[simp] theorem steady_cancelLeft (s : State) : Steady s s.cancelLeft := by
  simp [State.cancelLeft]

/-- The command of a completion's purpose runs on the state with its item put back (R42). -/
@[simp] theorem steady_completionUnit (s : State) (i : Item) : Steady s (s.completionUnit i) := by
  have back : Steady s { s with gathered := i :: s.gathered } := by simp
  unfold State.completionUnit
  dsimp only
  split
  · exact Steady.trans back (steady_execAuthentication _)
  · exact Steady.trans back (steady_execLearnStage _)
  · exact Steady.trans back (steady_execKeyInstall _)
  · exact Steady.trans back (steady_execExportDelivery _)
  · exact Steady.trans back (steady_execFrameVerified _)
  · simp

@[simp] theorem steady_secondOverrun (s : State) (i : Item) : Steady s (s.secondOverrun i) := by
  unfold State.secondOverrun
  (repeat' split) <;> simp

@[simp] theorem steady_missDecision (s : State) : Steady s s.missDecision := by
  unfold State.missDecision
  split <;> simp [ite_fields, ite_sys_fields]

@[simp] theorem steady_markDecisions (s : State) : Steady s s.markDecisions := by
  simp [State.markDecisions, ite_fields]

@[simp] theorem steady_sendCommits (s : State) : Steady s s.sendCommits := by
  have fold (f : State → Effect → State) (hf : ∀ a e, Steady a (f a e)) (l : List Effect) (us : List Staged) :
      Steady s (l.foldl f { s with staged := us }) :=
    Steady.trans (by simp) (steady_foldl f l _ hf)
  refine fold _ (fun a e => ?_) _ _
  split <;> simp

end Sys2Proof.Machine
end

section
/-!
PROOFS. StrokeBoundaries: GATHER_CLOSE, WORK_DEADLINE and STROKE_BOUNDARY in parts, and what each leaves of the stroke (R29-R44, R80, R92).
-/

namespace Sys2Proof.Machine

/-! ## GATHER_CLOSE in three parts (R34-R39) -/

/-- The stroke's inputs fixed, with its entropy block (R34, R37, R38). -/
def State.fixInputs (s : State) : State :=
  let t := if s.sys.firstFull.isSome then s.feedFlush else s
  t.takeAllLedger.ridgeTake.poleDue.vlfItems.fixGathered.drawEntropy

/-- Work open, with the count of idle strokes (R91). -/
def State.openWork (s : State) : State :=
  { s with sys := { s.sys with
    phase := .work
    idleStrokes := if s.tether.run.isSome || s.gathered.any Item.isActivity then 0 else s.sys.idleStrokes + 1 } }

/-- The units that no command of its own runs (R39, R113). -/
def State.runGathered (s : State) (padA padB : Bool) (corrected : Nat) (bad : List Nat) (sram : Bool) : State :=
  let t : State := match s.sys.firstFull with
    | some c => s.firstStrokeUnits c
    | none => s
  let u := ((t.eccErrors corrected bad sram).readPads padA padB).feedGather.tetherGather
  let v := (u.gathered.foldl State.gatherUnit u).beginHeld.ownSteps
  { v with gathered := sortItems v.gathered }

theorem execGatherClose_of_gather {s : State} (padA padB : Bool) (corrected : Nat) (bad : List Nat) (sram : Bool)
    (hp : s.sys.power = .running) (hg : s.sys.phase = .gather) :
    execGatherClose padA padB corrected bad sram s = .next (s.fixInputs.openWork.runGathered padA padB corrected bad sram) := by
  have h : ¬(s.sys.power ≠ .running ∨ s.sys.phase ≠ .gather) := by simp [hp, hg]
  unfold execGatherClose
  rw [if_neg h]
  rfl

@[simp] theorem steady_fixInputs (s : State) : Steady s s.fixInputs := by
  simp [State.fixInputs, ite_fields, ite_sys_fields]

@[simp] theorem inPlace_openWork (s : State) : InPlace { s with sys := { s.sys with phase := .work } } s.openWork := by
  simp [State.openWork]

@[simp] theorem inPlace_gatherUnits (s : State) (l : List Item) : InPlace s (l.foldl State.gatherUnit s) :=
  inPlace_foldl _ l s inPlace_gatherUnit

@[simp] theorem inPlace_runGathered (s : State) (padA padB : Bool) (corrected : Nat) (bad : List Nat) (sram : Bool) :
    InPlace s (s.runGathered padA padB corrected bad sram) := by
  unfold State.runGathered
  dsimp only
  split <;> simp

@[simp] theorem execGatherClose_pending (padA padB : Bool) (corrected : Nat) (bad : List Nat) (sram : Bool) (s : State) :
    ((execGatherClose padA padB corrected bad sram s).state s).pending = s.pending := by
  by_cases h : s.sys.power = .running ∧ s.sys.phase = .gather
  · rw [execGatherClose_of_gather padA padB corrected bad sram h.1 h.2]
    simp
  · have h' : s.sys.power ≠ .running ∨ s.sys.phase ≠ .gather := by tauto
    simp [execGatherClose, h']

/-! ## WORK_DEADLINE in three parts (R41-R43) -/

/-- Work closed: the re-runs that did not run, a decision missed, the units cancelled, the breaks marked, a shut gate and the finish time
recorded (R41, R42, R49, R51, R158). -/
def State.closeWork (s : State) (finish : Nat) (gate : Bool) : State :=
  let t := (s.rerun.foldl State.secondOverrun { s with rerun := [] }).missDecision.cancelLeft.markDecisions
  let u := if gate then t.stage (plainUnit 0x0E000000 [.fault 0x15 0] [t.recEvent 5 0x15 0]) else t
  u.setNum 0x11000B (max (u.num 0x11000B) (min 1800 finish))

/-- The Commit window open, with VHOLD as measured and the core's service word (R81, R96). -/
def State.openCommit (s : State) (vhold : Nat) (service : Bool) : State :=
  let t := s.readVhold vhold
  { t with staged := sortUnits t.staged, sys := { t.sys with phase := .commit, service := service } }

/-- The stroke's group formed and what leaves in its Commit window (R43, R158, R439). -/
def State.formCommit (s : State) (vhold : Nat) : State :=
  let t := s.formGroup vhold
  let u : State := { t with ink := { t.ink with gates := t.gatesFor } }
  let v := (if 4500 ≤ vhold then u.sendCommits else u).poleDeadline
  v.offerEvent 4 0 (beBytes 1 (b2n v.ink.refusing)) 99 0 0

theorem execWorkDeadline_of_work {s : State} (vhold : Nat) (service : Bool) (finish : Nat) (gate : Bool)
    (hp : s.sys.power = .running) (hw : s.sys.phase = .work) :
    execWorkDeadline vhold service finish gate s =
      .next (((s.closeWork finish gate).openCommit vhold service).formCommit vhold) := by
  have h : ¬(s.sys.power ≠ .running ∨ s.sys.phase ≠ .work) := by simp [hp, hw]
  unfold execWorkDeadline
  rw [if_neg h]
  rfl

@[simp] theorem steady_closeWork (s : State) (finish : Nat) (gate : Bool) : Steady { s with rerun := [] } (s.closeWork finish gate) := by
  simp [State.closeWork, ite_fields]

@[simp] theorem steady_openCommit (s : State) (vhold : Nat) (service : Bool) :
    Steady { s with sys := { s.sys with phase := .commit, service := service, vholdMv := min vhold 6000 } }
      (s.openCommit vhold service) := by
  simp [State.openCommit, State.readVhold]

@[simp] theorem steady_formCommit (s : State) (vhold : Nat) : Steady s (s.formCommit vhold) := by
  simp [State.formCommit, ite_fields, ite_sys_fields]

@[simp] theorem execWorkDeadline_pending (vhold : Nat) (service : Bool) (finish : Nat) (gate : Bool) (s : State) :
    ((execWorkDeadline vhold service finish gate s).state s).pending = s.pending := by
  by_cases h : s.sys.power = .running ∧ s.sys.phase = .work
  · rw [execWorkDeadline_of_work vhold service finish gate h.1 h.2]
    simp
  · have h' : s.sys.power ≠ .running ∨ s.sys.phase ≠ .work := by tauto
    simp [execWorkDeadline, h']

/-- Settles O28: the parts of each command, put together. -/
theorem strokePhases : Obligations.StrokePhases := by
  unfold Obligations.StrokePhases
  refine ⟨fun s padA padB corrected bad sram hp hg => ⟨_, execGatherClose_of_gather padA padB corrected bad sram hp hg, ?_⟩,
    fun s vhold service finish gate hp hw => ⟨_, execWorkDeadline_of_work vhold service finish gate hp hw, ?_⟩⟩
  · simp [hp]
  · simp [hp]

/-! ## The boundary of a running stroke (R30, R44, R80, R92) -/

@[simp] theorem look_sys (s : State) : s.look.sys = s.sys := rfl

/-- The watchdog's count touches its own registers alone (R81). -/
@[simp] theorem watch_frame (s : State) : s.watch.guy = s.guy ∧ s.watch.sys.power = s.sys.power ∧ s.watch.sys.stroke = s.sys.stroke ∧
    s.watch.pending = s.pending ∧ s.watch.cancelled = s.cancelled :=
  ⟨rfl, rfl, rfl, rfl, rfl⟩

/-- The boundary's number moves on by one, and nothing but the window of R33 with it (R30). -/
@[simp] theorem nextNumber_frame (s : State) (full : Bool) : (s.nextNumber full).sys.stroke = nextStroke s.sys.stroke ∧
    (s.nextNumber full).sys.power = s.sys.power ∧ (s.nextNumber full).sys.domains = s.sys.domains ∧
    (s.nextNumber full).sys.wdArmed = s.sys.wdArmed ∧ (s.nextNumber full).guy = s.guy ∧ (s.nextNumber full).pending = s.pending ∧
    (s.nextNumber full).gathered = s.gathered ∧ (s.nextNumber full).staged = s.staged ∧ (s.nextNumber full).rerun = s.rerun ∧
    (s.nextNumber full).cancelled = s.cancelled :=
  ⟨rfl, rfl, rfl, rfl, rfl, rfl, rfl, rfl, rfl, rfl⟩

/-- A full stroke opens in Gather with the watchdog armed (R83, R92). -/
@[simp] theorem openStroke_frame (s : State) : s.openStroke.sys.power = .running ∧ s.openStroke.sys.phase = .gather ∧
    s.openStroke.sys.wdArmed = true ∧ s.openStroke.sys.stroke = s.sys.stroke ∧ s.openStroke.guy = s.guy ∧
    s.openStroke.pending = s.pending ∧ s.openStroke.gathered = s.gathered ∧ s.openStroke.staged = s.staged ∧
    s.openStroke.rerun = s.rerun ∧ s.openStroke.cancelled = s.cancelled :=
  ⟨rfl, rfl, rfl, rfl, rfl, rfl, rfl, rfl, rfl, rfl⟩

/-- The end of a running stroke: its Commit applied where the core reached it, its lists emptied, the cancelled units handed on (R41,
R44). -/
def State.endStroke (s : State) (ref : Nat) (ilim : Bool) : State :=
  let w := (s.feedBoundary ref ilim).watch
  let c := if w.sys.phase = .commit then w.commitNow else w
  { c with gathered := [], staged := [], rerun := c.cancelled, cancelled := [] }

/-- The stroke after, before it opens or goes dark (R30, R32). -/
def State.nextOf (s : State) (ref : Nat) (ilim full : Bool) : State :=
  ((((s.endStroke ref ilim).nextNumber full).correct.ridgeBoundary s.stamp).canBoundary).poleBoundary false

theorem runBoundary_of_standby {s : State} (ref : Nat) (ilim : Bool) (hc : s.sys.phase = .commit) (he : Effect.standby ∈ s.effects) :
    s.runBoundary ref ilim = ((s.endStroke ref ilim).enterStandby.nextNumber false).look := by
  have hs : (s.sys.phase == .commit && s.effects.contains .standby) = true := by simp [hc, he]
  unfold State.runBoundary
  simp only [hs, if_true, Bool.not_true, Bool.false_and, State.endStroke]

theorem runBoundary_of_full {s : State} (ref : Nat) (ilim : Bool) (he : s.sys.phase = .commit → Effect.standby ∉ s.effects)
    (hr : s.sys.resetReq ≠ some 5) : s.runBoundary ref ilim = (s.nextOf ref ilim true).openStroke.look := by
  have hs : (s.sys.phase == .commit && s.effects.contains .standby) = false := by simpa using he
  have hd : (s.sys.resetReq == some 5) = false := by simpa using hr
  unfold State.runBoundary
  simp only [hs, hd, Bool.false_eq_true, if_false, Bool.not_false, Bool.and_true, State.nextOf, State.endStroke]

theorem runBoundary_of_reset {s : State} (ref : Nat) (ilim : Bool) (he : s.sys.phase = .commit → Effect.standby ∉ s.effects)
    (hr : s.sys.resetReq = some 5) : s.runBoundary ref ilim =
      State.look { s.nextOf ref ilim false with
        guy := { (s.nextOf ref ilim false).guy with gateOpen := false }
        sys := { (s.nextOf ref ilim false).sys with
          power := .dark, resetPend := some (5, s.stamp), darkSpan := 1, darkLeft := 0, wdArmed := false } } := by
  have hs : (s.sys.phase == .commit && s.effects.contains .standby) = false := by simpa using he
  have hd : (s.sys.resetReq == some 5) = true := by simpa using hr
  unfold State.runBoundary
  simp only [hs, hd, Bool.false_eq_true, if_false, if_true, Bool.not_false, Bool.not_true, Bool.and_false, State.nextOf,
    State.endStroke]

/-- The Commit may change the latch's bits; the gate, the power state and the number stand, and the lists are handed on (R41, R44). -/
@[simp] theorem endStroke_frame (s : State) (ref : Nat) (ilim : Bool) : (s.endStroke ref ilim).guy.gateOpen = s.guy.gateOpen ∧
    (s.endStroke ref ilim).pending = s.pending ∧ (s.endStroke ref ilim).sys.power = s.sys.power ∧
    (s.endStroke ref ilim).sys.stroke = s.sys.stroke ∧ (s.endStroke ref ilim).gathered = [] ∧ (s.endStroke ref ilim).staged = [] ∧
    (s.endStroke ref ilim).rerun = s.cancelled ∧ (s.endStroke ref ilim).cancelled = [] := by
  unfold State.endStroke
  dsimp only
  split
  · obtain ⟨g, hg, hs⟩ := commitNow_frame (s.feedBoundary ref ilim).watch
    simp [hs, hg]
  · simp

@[simp] theorem nextOf_frame (s : State) (ref : Nat) (ilim full : Bool) : (s.nextOf ref ilim full).guy.gateOpen = s.guy.gateOpen ∧
    (s.nextOf ref ilim full).pending = s.pending ∧ (s.nextOf ref ilim full).sys.stroke = nextStroke s.sys.stroke ∧
    (s.nextOf ref ilim full).gathered = [] ∧ (s.nextOf ref ilim full).staged = [] ∧ (s.nextOf ref ilim full).rerun = s.cancelled ∧
    (s.nextOf ref ilim full).cancelled = [] := by
  simp [State.nextOf]

/-- Standby keeps the number and leaves PD0 and SRAM0 on, the watchdog off (R92). -/
@[simp] theorem enterStandby_frame (s : State) : s.enterStandby.sys.power = .standby ∧ s.enterStandby.sys.domains = 5 ∧
    s.enterStandby.sys.wdArmed = false ∧ s.enterStandby.sys.stroke = s.sys.stroke ∧ s.enterStandby.pending = s.pending ∧
    s.enterStandby.staged = s.staged := by
  simp [State.enterStandby, ite_fields, ite_sys_fields]

/-! ## The boundary of a dark stroke (R83, R84) -/

/-- With the core held and Feed off, only the number moves. -/
theorem darkBoundary_of_coreHeld {s : State} (ref : Nat) (ilim : Bool) (hp : s.sys.power = .coreHeld) (hf : s.feed.state = 0) :
    s.darkBoundary ref ilim =
      { s.nextNumber false with sys := { (s.nextNumber false).sys with darkSpan := s.sys.darkSpan + 1, corrApplied := 0 } } := by
  have hb : s.feedBoundary ref ilim = s := by simp [State.feedBoundary, hf]
  unfold State.darkBoundary
  simp [hb, hp]
  rfl

@[simp] theorem runBoundary_pending (s : State) (ref : Nat) (ilim : Bool) : (s.runBoundary ref ilim).pending = s.pending := by
  by_cases h : s.sys.phase = .commit ∧ Effect.standby ∈ s.effects
  · rw [runBoundary_of_standby ref ilim h.1 h.2]
    simp
  · have he : s.sys.phase = .commit → Effect.standby ∉ s.effects := not_and.1 h
    by_cases hr : s.sys.resetReq = some 5
    · rw [runBoundary_of_reset ref ilim he hr]
      simp
    · rw [runBoundary_of_full ref ilim he hr]
      simp

@[simp] theorem darkBoundary_pending (s : State) (ref : Nat) (ilim : Bool) : (s.darkBoundary ref ilim).pending = s.pending := by
  unfold State.darkBoundary
  dsimp only
  split <;> simp

/-- STROKE_BOUNDARY of a running stroke. -/
theorem exec_strokeBoundary_of_running {s : State} (ref : Nat) (ilim : Bool) (hp : s.sys.power = .running) :
    exec (.strokeBoundary ref ilim) s = .next (s.runBoundary ref ilim) := by
  simp [exec, execStrokeBoundary, hp]

/-- STROKE_BOUNDARY of a dark stroke with the core held. -/
theorem exec_strokeBoundary_of_coreHeld {s : State} (ref : Nat) (ilim : Bool) (hp : s.sys.power = .coreHeld) :
    exec (.strokeBoundary ref ilim) s = .next (s.darkBoundary ref ilim) := by
  simp [exec, execStrokeBoundary, hp]

/-- Settles O27: the stroke that opens, the core reset, standby, and the dark stroke. -/
theorem strokeBoundary : Obligations.StrokeBoundary := by
  unfold Obligations.StrokeBoundary
  intro s ref ilim
  refine ⟨fun hp hr he => ⟨_, exec_strokeBoundary_of_running ref ilim hp, ?full⟩,
    fun hp hr he => ⟨_, exec_strokeBoundary_of_running ref ilim hp, ?reset⟩,
    fun hp hc he => ⟨_, exec_strokeBoundary_of_running ref ilim hp, ?standby⟩,
    fun hp hf => ⟨_, exec_strokeBoundary_of_coreHeld ref ilim hp, ?held⟩⟩
  case full =>
    rw [runBoundary_of_full ref ilim he hr]
    simp
  case reset =>
    rw [runBoundary_of_reset ref ilim he hr]
    simp
  case standby =>
    rw [runBoundary_of_standby ref ilim hc he]
    simp
  case held =>
    rw [darkBoundary_of_coreHeld ref ilim hp hf]
    exact ⟨rfl, rfl, rfl⟩

end Sys2Proof.Machine
end

section
/-!
PROOFS. PowerFrames: the waiting commands through resets, boot and the loss of power (R78-R93).
-/

namespace Sys2Proof.Machine

/-! ## Power and reset (R71-R98) -/

@[simp] theorem aoAsserted_pending (s : State) : s.aoAsserted.pending = s.pending := by
  simp [State.aoAsserted]

@[simp] theorem stagesNothing_cutGroup (s : State) (k : Nat) : StagesNothing s (s.cutGroup k) := by
  unfold State.cutGroup
  split <;> simp

@[simp] theorem stagesNothing_saveAndMark (s : State) (byte : Nat) (left : Option Nat) : StagesNothing s (s.saveAndMark byte left) := by
  unfold State.saveAndMark
  split <;> simp [ite_fields, ite_sys_fields]

@[simp] theorem powerDown_pending (s : State) (cause : Nat) (cut : Option Nat) : (s.powerDown cause cut).pending = s.pending := by
  unfold State.powerDown
  (repeat' split) <;> simp [ite_fields]

@[simp] theorem repairTallies_pending (s : State) : s.repairTallies.pending = s.pending := by
  simp [State.repairTallies]

@[simp] theorem bootOn_pending (s : State) : s.bootOn.pending = s.pending := by
  simp [State.bootOn, ite_fields]

@[simp] theorem settleRestore_pending (s : State) (cold : Bool) (keep : Nat → Bool) : (s.settleRestore cold keep).pending = s.pending := by
  simp [State.settleRestore, ite_fields]

@[simp] theorem readRegions_pending (s : State) : s.readRegions.pending = s.pending := by
  simp [State.readRegions]

@[simp] theorem bootSettle_pending (s : State) (vhold state : Nat) : (s.bootSettle vhold state).pending = s.pending := by
  simp [State.bootSettle]

@[simp] theorem bootStroke_pending (s : State) : s.bootStroke.pending = s.pending := by
  simp [State.bootStroke]

@[simp] theorem bootFinish_pending (s : State) (vhold state : Nat) : (s.bootFinish vhold state).pending = s.pending := by
  simp [State.bootFinish, ite_fields]

@[simp] theorem stagesNothing_vlfFault (s : State) (bank bit : Nat) : StagesNothing s (s.vlfFault bank bit) := by
  unfold State.vlfFault
  split <;> simp

@[simp] theorem strike_pending (s : State) (cause : Nat) (t : Stamp) : (s.strike cause t).pending = s.pending := by
  unfold State.strike
  split <;> simp

@[simp] theorem coreCleared_pending (s : State) : s.coreCleared.pending = s.pending := by
  simp [State.coreCleared]

@[simp] theorem holdCore_pending (s : State) : s.holdCore.pending = s.pending := by
  simp [State.holdCore]

@[simp] theorem riseAgain_pending (s : State) : s.riseAgain.pending = s.pending := by
  simp [State.riseAgain, ite_fields, ite_sys_fields]

@[simp] theorem adopt_pending (s : State) : s.adopt.pending = s.pending := by
  simp [State.adopt]

@[simp] theorem steady_standbyOff (s : State) (r : Requester) : Steady s (s.standbyOff r) := by
  simp [State.standbyOff]

/-! ## Straps and TAP (R63-R65) -/

@[simp] theorem stagesNothing_select (s : State) (code : Nat) : StagesNothing s (s.select code) := by
  simp [State.select]

end Sys2Proof.Machine
end

section
/-!
PROOFS. CabinCommandQueue: no command of Inkwell, Lantern, radios, token exchange, Learn, Feed or Feedline changes the queue of waiting
commands (log entry 11).
-/

namespace Sys2Proof.Machine

/-! ## Inkwell (R154-R182) -/

@[simp] theorem execScrubVisit_pending (weak : List Nat) (s : State) : ((execScrubVisit weak s).state s).pending = s.pending := by
  simp [execScrubVisit, ite_state, ite_fields]

@[simp] theorem execScrubRewrite_pending (still : List Nat) (s : State) : ((execScrubRewrite still s).state s).pending = s.pending := by
  unfold execScrubRewrite
  split <;> simp [ite_state, ite_fields]

@[simp] theorem execPageRetirement_pending (bad : Nat) (s : State) : ((execPageRetirement bad s).state s).pending = s.pending := by
  unfold execPageRetirement
  split <;> simp [ite_state, ite_fields]

/-! ## Lantern and handle sense (R210-R230) -/

@[simp] theorem execLfActivityStart_pending (s : State) : ((execLfActivityStart s).state s).pending = s.pending := by
  unfold execLfActivityStart
  split <;> simp [ite_state, ite_fields]

@[simp] theorem execLfBurstEnd_pending (current : Nat) (phase : Int) (under detuned : Bool) (s : State) :
    ((execLfBurstEnd current phase under detuned s).state s).pending = s.pending := by
  unfold execLfBurstEnd
  (repeat' split) <;> simp

@[simp] theorem execLfDriverFault_pending (ch kind : Nat) (s : State) : ((execLfDriverFault ch kind s).state s).pending = s.pending := by
  unfold execLfDriverFault
  dsimp only
  (repeat' split) <;> simp

@[simp] theorem execThermalRelease_pending (ch : Nat) (s : State) : ((execThermalRelease ch s).state s).pending = s.pending := by
  simp [execThermalRelease, ite_state, ite_fields]

@[simp] theorem execRegulatoryWindow_pending (s : State) : ((execRegulatoryWindow s).state s).pending = s.pending := by
  simp [execRegulatoryWindow, ite_state, ite_fields]

@[simp] theorem execLfCarrierChange_pending (s : State) : ((execLfCarrierChange s).state s).pending = s.pending := by
  simp [execLfCarrierChange, ite_state, ite_fields]

@[simp] theorem execCradleUplink_pending (rx : Bytes) (current : Nat) (phase : Int) (s : State) :
    ((execCradleUplink rx current phase s).state s).pending = s.pending := by
  unfold execCradleUplink
  split <;> simp

@[simp] theorem execCradleUplinkTimeout_pending (current : Nat) (phase : Int) (s : State) :
    ((execCradleUplinkTimeout current phase s).state s).pending = s.pending := by
  unfold execCradleUplinkTimeout
  split <;> simp

@[simp] theorem execHandleScan_pending (m0 m1 m2 m3 : Nat) (s : State) :
    ((execHandleScan m0 m1 m2 m3 s).state s).pending = s.pending := by
  unfold execHandleScan
  split
  · refine foldl_pending _ _ s fun a c => ?_
    split
    · simp
    · split <;> simp
  · simp

@[simp] theorem execHsStuck_pending (ch : Nat) (s : State) : ((execHsStuck ch s).state s).pending = s.pending := by
  simp [execHsStuck, ite_state, ite_fields]

/-! ## Radios (R231-R255) -/

@[simp] theorem execRadioWake_pending (radio : Nat) (s : State) : ((execRadioWake radio s).state s).pending = s.pending := by
  unfold execRadioWake
  (repeat' split) <;> simp

@[simp] theorem execRadioActivityStart_pending (gnt : Bool) (s : State) :
    ((execRadioActivityStart gnt s).state s).pending = s.pending := by
  unfold execRadioActivityStart
  (repeat' split) <;> simp [ite_fields]

@[simp] theorem execRadioActivityEnd_pending (radio kind quality : Nat) (stamps : Bytes) (fp rx : Int) (s : State) :
    ((execRadioActivityEnd radio kind quality stamps fp rx s).state s).pending = s.pending := by
  unfold execRadioActivityEnd
  split <;> simp [ite_state, ite_fields]

@[simp] theorem execPacketReceived_pending (rx : Bytes) (rssi off : Int) (s : State) :
    ((execPacketReceived rx rssi off s).state s).pending = s.pending := by
  unfold execPacketReceived
  dsimp only
  (repeat' split) <;> simp

@[simp] theorem execRadioSleep_pending (radio : Nat) (s : State) : ((execRadioSleep radio s).state s).pending = s.pending := by
  simp [execRadioSleep, ite_state, ite_fields]

@[simp] theorem execCalibration_pending (n : Nat) (temp : Int) (s : State) : ((execCalibration n temp s).state s).pending = s.pending := by
  simp [execCalibration, ite_state, ite_fields]

@[simp] theorem execCalStale_pending (n : Nat) (s : State) : ((execCalStale n s).state s).pending = s.pending := by
  simp [execCalStale, ite_state, ite_fields]

@[simp] theorem execSniffWindow_pending (gnt : Bool) (s : State) : ((execSniffWindow gnt s).state s).pending = s.pending := by
  simp [execSniffWindow, ite_state, ite_fields]

@[simp] theorem execCoexGntLost_pending (s : State) : ((execCoexGntLost s).state s).pending = s.pending := by
  refine foldl_pending _ _ s fun a x => ?_
  dsimp only
  split
  · split <;> simp
  · simp

/-! ## Token exchange (R256-R283) -/

@[simp] theorem execLockoutWindowClose_pending (s : State) : ((execLockoutWindowClose s).state s).pending = s.pending := by
  unfold execLockoutWindowClose
  split <;> simp [ite_state, ite_fields]

@[simp] theorem execLockoutSecondServed_pending (s : State) : ((execLockoutSecondServed s).state s).pending = s.pending := by
  simp [execLockoutSecondServed, ite_state, ite_fields]

@[simp] theorem execHeldTelegramExpiry_pending (slot : Nat) (s : State) :
    ((execHeldTelegramExpiry slot s).state s).pending = s.pending := by
  unfold execHeldTelegramExpiry
  split <;> simp [ite_state, ite_fields]

@[simp] theorem execPollStart_pending (s : State) : ((execPollStart s).state s).pending = s.pending := by
  unfold execPollStart
  split
  · simp
  · split
    · simp
    · dsimp only
      split
      · split
        next hb => simp [stagesNothing_of_begin hb]
        · simp
      · split <;> simp
      · simp

@[simp] theorem execWakeListenEnd_pending (s : State) : ((execWakeListenEnd s).state s).pending = s.pending := by
  unfold execWakeListenEnd
  split
  · dsimp only
    split
    · simp
    · split
      · split
        · split
          next h => simp [stagesNothing_of_startWith h]
          · simp
        · split
          · split
            next h => simp [stagesNothing_of_startCradle h]
            · simp
          · simp
      · simp
  · simp

@[simp] theorem execResponseGathered_pending (s : State) : ((execResponseGathered s).state s).pending = s.pending := by
  unfold execResponseGathered
  split <;> simp [ite_state, ite_fields]

/-! ## Learn (R300-R305) -/

@[simp] theorem execLearnVerify_pending (s : State) : ((execLearnVerify s).state s).pending = s.pending := by
  unfold execLearnVerify
  split <;> simp [ite_state, ite_fields]

@[simp] theorem execLearnSlaveTimeout_pending (n : Nat) (s : State) : ((execLearnSlaveTimeout n s).state s).pending = s.pending := by
  unfold execLearnSlaveTimeout
  (repeat' split) <;> simp

@[simp] theorem execLearnPhaseCommit_pending (s : State) : ((execLearnPhaseCommit s).state s).pending = s.pending := by
  unfold execLearnPhaseCommit
  split <;> simp [ite_state, ite_fields]

@[simp] theorem execLearnScrub_pending (s : State) : ((execLearnScrub s).state s).pending = s.pending := by
  unfold execLearnScrub
  split <;> simp [ite_state, ite_fields]

@[simp] theorem execLearnDone_pending (s : State) : ((execLearnDone s).state s).pending = s.pending := by
  unfold execLearnDone
  split <;> simp [ite_state, ite_fields]

@[simp] theorem execLearnHoldTimeout_pending (s : State) : ((execLearnHoldTimeout s).state s).pending = s.pending := by
  unfold execLearnHoldTimeout
  split <;> simp [ite_state, ite_fields]

/-! ## Feed (R310-R329) -/

@[simp] theorem execFeedConfigApply_pending (s : State) : ((execFeedConfigApply s).state s).pending = s.pending := by
  simp [execFeedConfigApply, ite_state, ite_fields]

@[simp] theorem execFeedEnable_pending (s : State) : ((execFeedEnable s).state s).pending = s.pending := by
  simp [execFeedEnable, ite_state, ite_fields]

@[simp] theorem execFeedStartDelay_pending (s : State) : ((execFeedStartDelay s).state s).pending = s.pending := by
  simp [execFeedStartDelay, ite_state, ite_fields]

@[simp] theorem execSwitchingBegins_pending (track : Nat) (s : State) : ((execSwitchingBegins track s).state s).pending = s.pending := by
  simp [execSwitchingBegins, ite_state, ite_fields]

@[simp] theorem execRampComplete_pending (s : State) : ((execRampComplete s).state s).pending = s.pending := by
  simp [execRampComplete, ite_state, ite_fields]

@[simp] theorem execPgDelay_pending (s : State) : ((execPgDelay s).state s).pending = s.pending := by
  simp [execPgDelay, ite_state, ite_fields]

@[simp] theorem execPgDrop_pending (s : State) : ((execPgDrop s).state s).pending = s.pending := by
  simp [execPgDrop, ite_state, ite_fields]

@[simp] theorem execFeedDisable_pending (s : State) : ((execFeedDisable s).state s).pending = s.pending := by
  simp [execFeedDisable, ite_state, ite_fields]

@[simp] theorem execStopComplete_pending (s : State) : ((execStopComplete s).state s).pending = s.pending := by
  simp [execStopComplete, ite_state, ite_fields]

@[simp] theorem execUndervoltageEvent_pending (s : State) : ((execUndervoltageEvent s).state s).pending = s.pending := by
  simp [execUndervoltageEvent, ite_state, ite_fields]

@[simp] theorem execStartTimeout_pending (s : State) : ((execStartTimeout s).state s).pending = s.pending := by
  simp [execStartTimeout, ite_state, ite_fields]

@[simp] theorem execHiccupOffEnd_pending (s : State) : ((execHiccupOffEnd s).state s).pending = s.pending := by
  simp [execHiccupOffEnd, ite_state, ite_fields]

@[simp] theorem execHiccupCountReset_pending (s : State) : ((execHiccupCountReset s).state s).pending = s.pending := by
  simp [execHiccupCountReset, ite_state, ite_fields]

@[simp] theorem execFeedLock_pending (f : Nat) (s : State) : ((execFeedLock f s).state s).pending = s.pending := by
  simp [execFeedLock, ite_state, ite_fields]

@[simp] theorem execSyncInLoss_pending (s : State) : ((execSyncInLoss s).state s).pending = s.pending := by
  simp [execSyncInLoss, ite_state, ite_fields]

@[simp] theorem execRelock_pending (f : Nat) (s : State) : ((execRelock f s).state s).pending = s.pending := by
  simp [execRelock, ite_state, ite_fields]

@[simp] theorem execLoadStep_pending (ready : Nat) (s : State) : ((execLoadStep ready s).state s).pending = s.pending := by
  unfold execLoadStep
  dsimp only
  (repeat' split) <;> simp

@[simp] theorem execLoadStepRearm_pending (s : State) : ((execLoadStepRearm s).state s).pending = s.pending := by
  simp [execLoadStepRearm]

/-! ## Feedline and start lock (R330-R349) -/

@[simp] theorem execStatus_pending (seq ref : Nat) (s : State) : ((execStatus seq ref s).state s).pending = s.pending := by
  simp [execStatus, ite_state, ite_fields]

@[simp] theorem execSetVid_pending (seq vid slew ref : Nat) (s : State) :
    ((execSetVid seq vid slew ref s).state s).pending = s.pending := by
  simp [execSetVid, ite_state, ite_fields]

@[simp] theorem execFeedlineUnknownCmd_pending (cmd seq slew ref : Nat) (s : State) :
    ((execFeedlineUnknownCmd cmd seq slew ref s).state s).pending = s.pending := by
  simp [execFeedlineUnknownCmd, ite_state, ite_fields]

@[simp] theorem execFeedlineCrcError_pending (s : State) : ((execFeedlineCrcError s).state s).pending = s.pending := by
  simp [execFeedlineCrcError, ite_state, ite_fields]

@[simp] theorem execExchangeCut_pending (clocks : Nat) (s : State) : ((execExchangeCut clocks s).state s).pending = s.pending := by
  simp [execExchangeCut, ite_state, ite_fields]

@[simp] theorem execTransitionEnd_pending (s : State) : ((execTransitionEnd s).state s).pending = s.pending := by
  simp [execTransitionEnd, ite_state, ite_fields]

@[simp] theorem execAckSet_pending (ref : Nat) (s : State) : ((execAckSet ref s).state s).pending = s.pending := by
  simp [execAckSet, ite_state, ite_fields]

@[simp] theorem execFeedlineLost_pending (ref : Nat) (s : State) : ((execFeedlineLost ref s).state s).pending = s.pending := by
  simp [execFeedlineLost, ite_state, ite_fields]

@[simp] theorem execReleaseFeedEnable_pending (s : State) : ((execReleaseFeedEnable s).state s).pending = s.pending := by
  unfold execReleaseFeedEnable
  split <;> simp [ite_state, ite_fields]

@[simp] theorem execReleaseOutputs_pending (s : State) : ((execReleaseOutputs s).state s).pending = s.pending := by
  unfold execReleaseOutputs
  split <;> simp [ite_state, ite_fields]

@[simp] theorem execReleaseTimeout_pending (s : State) : ((execReleaseTimeout s).state s).pending = s.pending := by
  unfold execReleaseTimeout
  split <;> simp [ite_state, ite_fields]

@[simp] theorem execFeedLatchOffClear_pending (s : State) : ((execFeedLatchOffClear s).state s).pending = s.pending := by
  simp [execFeedLatchOffClear, ite_state, ite_fields]

end Sys2Proof.Machine
end

section
/-!
PROOFS. PortCommandQueue: no command of the host port, Quill, Ridgeline, CAN FD, images, Pole link or outgoing records changes the queue of waiting
commands (log entry 11).
-/

namespace Sys2Proof.Machine

/-! ## Host port, tenants and rings (R126-R153) -/

@[simp] theorem execReadSingleLane_pending (cmd : Bytes) (s : State) : ((execReadSingleLane cmd s).state s).pending = s.pending := by
  simp [execReadSingleLane]

@[simp] theorem execReadQuad_pending (cmd : Bytes) (s : State) : ((execReadQuad cmd s).state s).pending = s.pending := by
  simp [execReadQuad]

@[simp] theorem execWriteSingleLane_pending (cmd data : Bytes) (s : State) :
    ((execWriteSingleLane cmd data s).state s).pending = s.pending := by
  simp [execWriteSingleLane]

@[simp] theorem execWriteQuad_pending (cmd data : Bytes) (s : State) : ((execWriteQuad cmd data s).state s).pending = s.pending := by
  simp [execWriteQuad]

@[simp] theorem execProbe_pending (cmd : Bytes) (s : State) : ((execProbe cmd s).state s).pending = s.pending := by
  simp [execProbe, ite_state, ite_fields]

@[simp] theorem execRegisterWrite_pending (page off v : Nat) (s : State) :
    ((execRegisterWrite page off v s).state s).pending = s.pending := by
  simp [execRegisterWrite]

@[simp] theorem execIrqCauseClear_pending (page v : Nat) (s : State) : ((execIrqCauseClear page v s).state s).pending = s.pending := by
  simp [execIrqCauseClear]

@[simp] theorem execRingIrqStatusClear_pending (page w v : Nat) (s : State) :
    ((execRingIrqStatusClear page w v s).state s).pending = s.pending := by
  simp [execRingIrqStatusClear]

@[simp] theorem execTenantViolatedClear_pending (w v : Nat) (s : State) :
    ((execTenantViolatedClear w v s).state s).pending = s.pending := by
  simp [execTenantViolatedClear]

@[simp] theorem execTenantReset_pending (v : Nat) (s : State) : ((execTenantReset v s).state s).pending = s.pending := by
  simp [execTenantReset]

@[simp] theorem execCoreResetRequest_pending (v : Nat) (s : State) : ((execCoreResetRequest v s).state s).pending = s.pending := by
  simp [execCoreResetRequest]

@[simp] theorem execRingEnable_pending (page v : Nat) (s : State) : ((execRingEnable page v s).state s).pending = s.pending := by
  simp [execRingEnable]

@[simp] theorem execRingDisable_pending (page v : Nat) (s : State) : ((execRingDisable page v s).state s).pending = s.pending := by
  simp [execRingDisable]

@[simp] theorem execHostIdxWrite_pending (page ring v : Nat) (s : State) :
    ((execHostIdxWrite page ring v s).state s).pending = s.pending := by
  simp [execHostIdxWrite]

@[simp] theorem execQpGo_pending (page v : Nat) (s : State) : ((execQpGo page v s).state s).pending = s.pending := by
  simp [execQpGo]

@[simp] theorem execRingDrained_pending (page ring : Nat) (s : State) : ((execRingDrained page ring s).state s).pending = s.pending := by
  simp [execRingDrained, ite_state, ite_fields]

@[simp] theorem execTenantResetComplete_pending (t : Nat) (s : State) : ((execTenantResetComplete t s).state s).pending = s.pending := by
  unfold execTenantResetComplete
  split <;> simp [ite_state, ite_fields]

@[simp] theorem execRegrantMoved_pending (s : State) : ((execRegrantMoved s).state s).pending = s.pending := by
  unfold execRegrantMoved
  split <;> simp [ite_state, ite_fields]

/-! ## Quill (R183-R209) -/

@[simp] theorem execCbcEncrypt_pending (lane : Nat) (s : State) : ((execCbcEncrypt lane s).state s).pending = s.pending := by
  simp [execCbcEncrypt]

@[simp] theorem execCbcDecrypt_pending (lane : Nat) (s : State) : ((execCbcDecrypt lane s).state s).pending = s.pending := by
  simp [execCbcDecrypt]

@[simp] theorem execCtr_pending (lane : Nat) (s : State) : ((execCtr lane s).state s).pending = s.pending := by
  simp [execCtr]

@[simp] theorem execGcmEncrypt_pending (lane : Nat) (s : State) : ((execGcmEncrypt lane s).state s).pending = s.pending := by
  simp [execGcmEncrypt]

@[simp] theorem execGcmDecryptAndVerify_pending (lane : Nat) (s : State) :
    ((execGcmDecryptAndVerify lane s).state s).pending = s.pending := by
  simp [execGcmDecryptAndVerify]

@[simp] theorem execCcmEncrypt_pending (lane : Nat) (s : State) : ((execCcmEncrypt lane s).state s).pending = s.pending := by
  simp [execCcmEncrypt]

@[simp] theorem execCcmDecryptAndVerify_pending (lane : Nat) (s : State) :
    ((execCcmDecryptAndVerify lane s).state s).pending = s.pending := by
  simp [execCcmDecryptAndVerify]

@[simp] theorem execCmacGenerate_pending (lane : Nat) (s : State) : ((execCmacGenerate lane s).state s).pending = s.pending := by
  simp [execCmacGenerate]

@[simp] theorem execCmacVerify_pending (lane : Nat) (s : State) : ((execCmacVerify lane s).state s).pending = s.pending := by
  simp [execCmacVerify]

@[simp] theorem execKeyDerivation_pending (lane : Nat) (s : State) : ((execKeyDerivation lane s).state s).pending = s.pending := by
  simp [execKeyDerivation]

@[simp] theorem execQuillCompletion_pending (lane : Nat) (s : State) : ((execQuillCompletion lane s).state s).pending = s.pending := by
  unfold execQuillCompletion
  dsimp only
  split
  · simp
  · split
    · split
      next h =>
        have h := stagesNothing_of_nextOp h
        split <;> simp [h]
      · simp
    · simp

@[simp] theorem execParityFault_pending (lane : Nat) (s : State) : ((execParityFault lane s).state s).pending = s.pending := by
  unfold execParityFault
  split <;> simp [ite_fields]

@[simp] theorem execEntropyFault_pending (s : State) : ((execEntropyFault s).state s).pending = s.pending := by
  simp [execEntropyFault, ite_state, ite_fields]

@[simp] theorem execDrbgReseed_pending (s : State) : ((execDrbgReseed s).state s).pending = s.pending := by
  simp [execDrbgReseed, ite_state, ite_fields]

@[simp] theorem execKeySettled_pending (pos : Nat) (s : State) : ((execKeySettled pos s).state s).pending = s.pending := by
  simp [execKeySettled, ite_state, ite_fields]

/-! ## Segments (R116, R121, R122) -/

@[simp] theorem execSegmentReassemblyTimeout_pending (src : Nat) (s : State) :
    ((execSegmentReassemblyTimeout src s).state s).pending = s.pending := by
  simp [execSegmentReassemblyTimeout, ite_state, ite_fields]

/-! ## Ridgeline (R350-R407) -/

@[simp] theorem execFrameSend_pending (fid overlaps : Nat) (s : State) : ((execFrameSend fid overlaps s).state s).pending = s.pending := by
  unfold execFrameSend
  split <;> simp [ite_state, ite_fields]

@[simp] theorem execVoteFrame_pending (s : State) : ((execVoteFrame s).state s).pending = s.pending := by
  unfold execVoteFrame
  split <;> simp [ite_state, ite_fields]

@[simp] theorem execMinislot_pending (win : Nat) (heard : Option (Nat × Bool)) (blind : Bool) (s : State) :
    ((execMinislot win heard blind s).state s).pending = s.pending := by
  unfold execMinislot
  dsimp only
  (repeat' split) <;> simp

/-- Every copy counted, every fault and the frame's own item leave the queue: the frame's way through the branches is followed state by
state (R364, R367, R379-R385). -/
@[simp] theorem execFrameReceived_pending (slot : Nat) (a b : Option RidgeRx) (s : State) :
    ((execFrameReceived slot a b s).state s).pending = s.pending := by
  unfold execFrameReceived
  split
  · simp
  · extract_lets a b both s1 s2 whole foreign s3 wa wb r4 s4 c k ok va vb wrong r5 zero differ s5 headers s6 r6
    have h2 : StagesNothing s s2 :=
      StagesNothing.trans (stagesNothing_foldl _ _ _ fun s x => by simp) (stagesNothing_foldl _ _ _ fun s x => by simp)
    have h3 : s3.pending = s.pending := by simp [s3, ite_fields, h2]
    have h4 : s4.pending = s.pending := h3
    have h5 : s5.pending = s.pending := by simp [s5, ite_fields, h4]
    have h6 : s6.pending = s.pending := by simp [s6, ite_fields, h5]
    split
    · simp [ite_fields, h3]
    · split
      · simp [ite_state, ite_fields, h4]
      · split
        · simp [ite_state, ite_fields, h4]
        · simp [ite_fields, h6]

@[simp] theorem execClockCorrection_pending (offset : Int) (s : State) : ((execClockCorrection offset s).state s).pending = s.pending := by
  simp [execClockCorrection, ite_state, ite_fields]

@[simp] theorem execListenTimeout_pending (s : State) : ((execListenTimeout s).state s).pending = s.pending := by
  simp [execListenTimeout, ite_state, ite_fields]

@[simp] theorem execColdstartFrame_pending (s : State) : ((execColdstartFrame s).state s).pending = s.pending := by
  unfold execColdstartFrame
  split <;> simp [ite_state, ite_fields]

@[simp] theorem execColdstartComplete_pending (s : State) : ((execColdstartComplete s).state s).pending = s.pending := by
  simp [execColdstartComplete, ite_state, ite_fields]

@[simp] theorem execLossOfSynchronisation_pending (s : State) : ((execLossOfSynchronisation s).state s).pending = s.pending := by
  simp [execLossOfSynchronisation, ite_state, ite_fields]

@[simp] theorem execScheduleDecision_pending (s : State) : ((execScheduleDecision s).state s).pending = s.pending := by
  simp [execScheduleDecision, ite_state, ite_fields]

@[simp] theorem execScheduleSwitch_pending (s : State) : ((execScheduleSwitch s).state s).pending = s.pending := by
  unfold execScheduleSwitch
  split <;> simp [ite_state, ite_fields]

@[simp] theorem execScheduleAdoption_pending (s : State) : ((execScheduleAdoption s).state s).pending = s.pending := by
  unfold execScheduleAdoption
  dsimp only
  (repeat' split) <;> simp

@[simp] theorem execLineBreak_pending (input : Nat) (s : State) : ((execLineBreak input s).state s).pending = s.pending := by
  simp [execLineBreak, ite_state, ite_fields]

@[simp] theorem execSupervisionLoss_pending (side : Nat) (s : State) : ((execSupervisionLoss side s).state s).pending = s.pending := by
  simp [execSupervisionLoss, ite_state, ite_fields]

@[simp] theorem execSymbolSyncLoss_pending (input : Nat) (s : State) : ((execSymbolSyncLoss input s).state s).pending = s.pending := by
  simp [execSymbolSyncLoss, ite_state, ite_fields]

@[simp] theorem execSymbolSyncRegain_pending (input : Nat) (s : State) : ((execSymbolSyncRegain input s).state s).pending = s.pending := by
  simp [execSymbolSyncRegain]

@[simp] theorem execWrap_pending (s : State) : ((execWrap s).state s).pending = s.pending := by
  simp [execWrap, ite_state, ite_fields]

@[simp] theorem execSideRestore_pending (side : Nat) (s : State) : ((execSideRestore side s).state s).pending = s.pending := by
  simp [execSideRestore, ite_state, ite_fields]

@[simp] theorem execGuardianTrip_pending (s : State) : ((execGuardianTrip s).state s).pending = s.pending := by
  simp [execGuardianTrip, ite_state, ite_fields]

@[simp] theorem execBabble_pending (side kind source hops : Nat) (s : State) :
    ((execBabble side kind source hops s).state s).pending = s.pending := by
  simp [execBabble, ite_state, ite_fields]

/-! ## CAN FD (R408-R419) -/

@[simp] theorem execCanIntegrationComplete_pending (k : Nat) (s : State) :
    ((execCanIntegrationComplete k s).state s).pending = s.pending := by
  simp [execCanIntegrationComplete, ite_state, ite_fields]

@[simp] theorem execErrorStateChange_pending (k tec rec : Nat) (s : State) :
    ((execErrorStateChange k tec rec s).state s).pending = s.pending := by
  simp [execErrorStateChange, ite_state, ite_fields]

@[simp] theorem execBusOff_pending (k : Nat) (s : State) : ((execBusOff k s).state s).pending = s.pending := by
  simp [execBusOff, ite_state, ite_fields]

@[simp] theorem execBusOffHoldExpiry_pending (k : Nat) (s : State) : ((execBusOffHoldExpiry k s).state s).pending = s.pending := by
  unfold execBusOffHoldExpiry
  split <;> simp [ite_state, ite_fields]

@[simp] theorem execRecoveryComplete_pending (k : Nat) (s : State) : ((execRecoveryComplete k s).state s).pending = s.pending := by
  simp [execRecoveryComplete, ite_state, ite_fields]

@[simp] theorem execProtocolException_pending (k : Nat) (s : State) : ((execProtocolException k s).state s).pending = s.pending := by
  simp [execProtocolException, ite_state, ite_fields]

@[simp] theorem execCanFrameReceived_pending (k flags id : Nat) (data : Bytes) (s : State) :
    ((execCanFrameReceived k flags id data s).state s).pending = s.pending := by
  simp [execCanFrameReceived, ite_state, ite_fields]

@[simp] theorem execCanFrameSent_pending (k : Nat) (s : State) : ((execCanFrameSent k s).state s).pending = s.pending := by
  unfold execCanFrameSent
  dsimp only
  (repeat' split) <;> simp

@[simp] theorem execTxLifetimeExpiry_pending (k : Nat) (s : State) : ((execTxLifetimeExpiry k s).state s).pending = s.pending := by
  simp [execTxLifetimeExpiry]

/-! ## Images (R464-R482) -/

@[simp] theorem execActivationCopy_pending (s : State) : ((execActivationCopy s).state s).pending = s.pending := by
  unfold execActivationCopy
  split <;> simp

@[simp] theorem execActivationVerified_pending (s : State) : ((execActivationVerified s).state s).pending = s.pending := by
  unfold execActivationVerified
  split <;> simp [ite_state, ite_fields]

@[simp] theorem execActivationSealed_pending (s : State) : ((execActivationSealed s).state s).pending = s.pending := by
  unfold execActivationSealed
  split <;> simp

@[simp] theorem execActivationCommitted_pending (s : State) : ((execActivationCommitted s).state s).pending = s.pending := by
  unfold execActivationCommitted
  split <;> simp

@[simp] theorem execActivationHoldTimeout_pending (s : State) : ((execActivationHoldTimeout s).state s).pending = s.pending := by
  unfold execActivationHoldTimeout
  split <;> simp [ite_state, ite_fields]

/-! ## Pole link (R420-R442) -/

@[simp] theorem execMarkerReceived_pending (marker : Bytes) (arrival : Int) (s : State) :
    ((execMarkerReceived marker arrival s).state s).pending = s.pending := by
  unfold execMarkerReceived
  dsimp only
  (repeat' split) <;> simp

@[simp] theorem execEcho_pending (s : State) : ((execEcho s).state s).pending = s.pending := by
  simp [execEcho, ite_state, ite_fields]

@[simp] theorem execEchoReply_pending (s : State) : ((execEchoReply s).state s).pending = s.pending := by
  simp [execEchoReply, ite_state, ite_fields]

@[simp] theorem execEchoReplyReceived_pending (rtt : Nat) (s : State) :
    ((execEchoReplyReceived rtt s).state s).pending = s.pending := by
  unfold execEchoReplyReceived
  split
  · simp only [Out.state_next, State.setNum_pending, stagesNothing_divOpen, State.setSelf_pending]
  · simp

@[simp] theorem execDiscover_pending (s : State) : ((execDiscover s).state s).pending = s.pending := by
  simp [execDiscover, ite_state, ite_fields]

@[simp] theorem execHello_pending (source : Nat) (payload : Bytes) (ok : Bool) (s : State) :
    ((execHello source payload ok s).state s).pending = s.pending := by
  simp [execHello, ite_state, ite_fields]

@[simp] theorem execPoleAdmit_pending (payload : Bytes) (ok : Bool) (s : State) :
    ((execPoleAdmit payload ok s).state s).pending = s.pending := by
  simp [execPoleAdmit, ite_state, ite_fields]

@[simp] theorem execAdmissionEffective_pending (s : State) : ((execAdmissionEffective s).state s).pending = s.pending := by
  unfold execAdmissionEffective
  (repeat' split) <;> simp [ite_fields]

@[simp] theorem execRefuse_pending (reason : Nat) (s : State) : ((execRefuse reason s).state s).pending = s.pending := by
  simp [execRefuse, ite_state, ite_fields]

@[simp] theorem execRefuseRetry_pending (s : State) : ((execRefuseRetry s).state s).pending = s.pending := by
  simp [execRefuseRetry, ite_state, ite_fields]

@[simp] theorem execSecondMaster_pending (s : State) : ((execSecondMaster s).state s).pending = s.pending := by
  simp [execSecondMaster, ite_state, ite_fields]

@[simp] theorem execLfSchedule_pending (payload : Bytes) (late : Bool) (s : State) :
    ((execLfSchedule payload late s).state s).pending = s.pending := by
  simp [execLfSchedule, ite_state, ite_fields]

@[simp] theorem execRadioList_pending (payload : Bytes) (late : Bool) (s : State) :
    ((execRadioList payload late s).state s).pending = s.pending := by
  simp [execRadioList, ite_state, ite_fields]

@[simp] theorem execAbortActivity_pending (which : Nat) (s : State) : ((execAbortActivity which s).state s).pending = s.pending := by
  simp [execAbortActivity, ite_state, ite_fields]

@[simp] theorem execKeyContext_pending (payload : Bytes) (s : State) : ((execKeyContext payload s).state s).pending = s.pending := by
  simp [execKeyContext, ite_state, ite_fields]

@[simp] theorem execPoleItem_pending (source cls idx seq : Nat) (val : Bytes) (due : Nat) (ok : Bool) (s : State) :
    ((execPoleItem source cls idx seq val due ok s).state s).pending = s.pending := by
  simp [execPoleItem, ite_state, ite_fields]

@[simp] theorem execPoleStatus_pending (source : Nat) (payload : Bytes) (s : State) :
    ((execPoleStatus source payload s).state s).pending = s.pending := by
  simp [execPoleStatus, ite_state, ite_fields]

@[simp] theorem execSlaveLost_pending (n : Nat) (s : State) : ((execSlaveLost n s).state s).pending = s.pending := by
  simp [execSlaveLost, ite_state, ite_fields]

@[simp] theorem execSlaveStranded_pending (s : State) : ((execSlaveStranded s).state s).pending = s.pending := by
  simp [execSlaveStranded, ite_state, ite_fields]

@[simp] theorem execLearnPage_pending (payload : Bytes) (s : State) : ((execLearnPage payload s).state s).pending = s.pending := by
  simp [execLearnPage, ite_state, ite_fields]

@[simp] theorem execLearnCommit_pending (digest : Bytes) (s : State) : ((execLearnCommit digest s).state s).pending = s.pending := by
  simp [execLearnCommit, ite_state, ite_fields]

@[simp] theorem execLearnReport_pending (source v : Nat) (s : State) : ((execLearnReport source v s).state s).pending = s.pending := by
  simp [execLearnReport, ite_state, ite_fields]

@[simp] theorem execRelay_pending (prot : Nat) (msg : Bytes) (s : State) : ((execRelay prot msg s).state s).pending = s.pending := by
  simp [execRelay, ite_state, ite_fields]

@[simp] theorem execRelayResponse_pending (source : Nat) (msg : Bytes) (s : State) :
    ((execRelayResponse source msg s).state s).pending = s.pending := by
  simp [execRelayResponse, ite_state, ite_fields]

@[simp] theorem execRelayTimeout_pending (n : Nat) (s : State) : ((execRelayTimeout n s).state s).pending = s.pending := by
  unfold execRelayTimeout
  split <;> simp [ite_state, ite_fields]

/-! ## Export (R457-R463) -/

@[simp] theorem execExportSelection_pending (s : State) : ((execExportSelection s).state s).pending = s.pending := by
  unfold execExportSelection
  (repeat' split) <;> simp

@[simp] theorem execAckTimeout_pending (stream : Nat) (s : State) : ((execAckTimeout stream s).state s).pending = s.pending := by
  unfold execAckTimeout
  dsimp only
  (repeat' split) <;> simp

end Sys2Proof.Machine
end

section
/-!
PROOFS. CommandQueue: no command of the Ledger, the strokes, power or the pins changes the queue of waiting commands, and so none does
(log entry 11).
-/

namespace Sys2Proof.Machine

/-! ## Countersign (R289-R299) -/

@[simp] theorem execDebugUnlockExpiry_pending (s : State) : ((execDebugUnlockExpiry s).state s).pending = s.pending := by
  unfold execDebugUnlockExpiry
  split <;> simp [ite_state, ite_fields]

/-! ## Ledger transactions (R99-R124) -/

@[simp] theorem execLedgerTransaction_pending (s : State) : ((execLedgerTransaction s).state s).pending = s.pending := by
  unfold execLedgerTransaction
  split <;> simp [ite_state, ite_fields]

@[simp] theorem execTransactionDeferred_pending (s : State) : ((execTransactionDeferred s).state s).pending = s.pending := by
  unfold execTransactionDeferred
  split <;> simp [ite_state, ite_fields]

@[simp] theorem execWrite_pending (r : Requester) (key : Nat) (v : Bytes) (s : State) :
    ((execWrite r key v s).state s).pending = s.pending := by
  simp [execWrite, ite_state, ite_fields]

@[simp] theorem execCountersigned_pending (r : Requester) (writes : List (Nat × Bytes)) (s : State) :
    ((execCountersigned r writes s).state s).pending = s.pending := by
  unfold execCountersigned
  (repeat' split) <;> simp

/-! ## Approvals and decisions (R274, R293-R296) -/

@[simp] theorem execProposalExpiry_pending (num : Nat) (s : State) : ((execProposalExpiry num s).state s).pending = s.pending := by
  unfold execProposalExpiry
  split <;> simp [ite_state, ite_fields]

@[simp] theorem execDecision_pending (s : State) : ((execDecision s).state s).pending = s.pending := by
  unfold execDecision
  (repeat' split) <;> simp

/-! ## Writes as commands of their own -/

@[simp] theorem execDomainEnable_pending (r : Requester) (v : Bytes) (s : State) :
    ((execDomainEnable r v s).state s).pending = s.pending := by
  simp [execDomainEnable]

@[simp] theorem execSubsystemReset_pending (r : Requester) (v : Bytes) (s : State) :
    ((execSubsystemReset r v s).state s).pending = s.pending := by
  simp [execSubsystemReset]

@[simp] theorem execStandbyRequest_pending (r : Requester) (v : Bytes) (s : State) :
    ((execStandbyRequest r v s).state s).pending = s.pending := by
  simp [execStandbyRequest]

@[simp] theorem execTenantEnable_pending (r : Requester) (v : Bytes) (s : State) :
    ((execTenantEnable r v s).state s).pending = s.pending := by
  simp [execTenantEnable]

@[simp] theorem execGranuleOwnerChange_pending (r : Requester) (n : Nat) (v : Bytes) (s : State) :
    ((execGranuleOwnerChange r n v s).state s).pending = s.pending := by
  simp [execGranuleOwnerChange]

@[simp] theorem execKeyLoad_pending (r : Requester) (v : Bytes) (s : State) : ((execKeyLoad r v s).state s).pending = s.pending := by
  simp [execKeyLoad]

@[simp] theorem execKeyLoadProtected_pending (r : Requester) (v : Bytes) (s : State) :
    ((execKeyLoadProtected r v s).state s).pending = s.pending := by
  simp [execKeyLoadProtected]

@[simp] theorem execKeyErase_pending (r : Requester) (v : Bytes) (s : State) : ((execKeyErase r v s).state s).pending = s.pending := by
  simp [execKeyErase]

@[simp] theorem execLfChannelClear_pending (r : Requester) (n : Nat) (v : Bytes) (s : State) :
    ((execLfChannelClear r n v s).state s).pending = s.pending := by
  simp [execLfChannelClear]

@[simp] theorem execStartRequest_pending (r : Requester) (v : Bytes) (s : State) :
    ((execStartRequest r v s).state s).pending = s.pending := by
  simp [execStartRequest]

@[simp] theorem execLockoutClear_pending (r : Requester) (v : Bytes) (s : State) :
    ((execLockoutClear r v s).state s).pending = s.pending := by
  simp [execLockoutClear]

@[simp] theorem execLearnRecord_pending (r : Requester) (n : Nat) (v : Bytes) (s : State) :
    ((execLearnRecord r n v s).state s).pending = s.pending := by
  simp [execLearnRecord]

@[simp] theorem execLearnRecordClear_pending (r : Requester) (v : Bytes) (s : State) :
    ((execLearnRecordClear r v s).state s).pending = s.pending := by
  simp [execLearnRecordClear]

@[simp] theorem execLearnStart_pending (r : Requester) (v : Bytes) (s : State) : ((execLearnStart r v s).state s).pending = s.pending := by
  simp [execLearnStart]

@[simp] theorem execCsAuth_pending (r : Requester) (v : Bytes) (s : State) : ((execCsAuth r v s).state s).pending = s.pending := by
  simp [execCsAuth]

@[simp] theorem execCsTokenAuth_pending (r : Requester) (v : Bytes) (s : State) :
    ((execCsTokenAuth r v s).state s).pending = s.pending := by
  simp [execCsTokenAuth]

@[simp] theorem execProtectionSeal_pending (r : Requester) (v : Bytes) (s : State) :
    ((execProtectionSeal r v s).state s).pending = s.pending := by
  simp [execProtectionSeal]

@[simp] theorem execDebugUnlock_pending (r : Requester) (v : Bytes) (s : State) :
    ((execDebugUnlock r v s).state s).pending = s.pending := by
  simp [execDebugUnlock]

@[simp] theorem execCommissionStart_pending (r : Requester) (v : Bytes) (s : State) :
    ((execCommissionStart r v s).state s).pending = s.pending := by
  simp [execCommissionStart]

@[simp] theorem execFeedFaultClear_pending (r : Requester) (v : Bytes) (s : State) :
    ((execFeedFaultClear r v s).state s).pending = s.pending := by
  simp [execFeedFaultClear]

@[simp] theorem execIgnitionOff_pending (r : Requester) (v : Bytes) (s : State) :
    ((execIgnitionOff r v s).state s).pending = s.pending := by
  simp [execIgnitionOff]

@[simp] theorem execRidgeIsolate_pending (r : Requester) (v : Bytes) (s : State) :
    ((execRidgeIsolate r v s).state s).pending = s.pending := by
  simp [execRidgeIsolate]

@[simp] theorem execRidgeRequest_pending (r : Requester) (v : Bytes) (s : State) :
    ((execRidgeRequest r v s).state s).pending = s.pending := by
  simp [execRidgeRequest]

@[simp] theorem execRidgeGuardClear_pending (r : Requester) (v : Bytes) (s : State) :
    ((execRidgeGuardClear r v s).state s).pending = s.pending := by
  simp [execRidgeGuardClear]

@[simp] theorem execCanRecover_pending (r : Requester) (n : Nat) (v : Bytes) (s : State) :
    ((execCanRecover r n v s).state s).pending = s.pending := by
  simp [execCanRecover]

@[simp] theorem execPoleRelay_pending (r : Requester) (n : Nat) (v : Bytes) (s : State) :
    ((execPoleRelay r n v s).state s).pending = s.pending := by
  simp [execPoleRelay]

@[simp] theorem execPoleRelayProtected_pending (r : Requester) (n : Nat) (v : Bytes) (s : State) :
    ((execPoleRelayProtected r n v s).state s).pending = s.pending := by
  simp [execPoleRelayProtected]

@[simp] theorem execFolioAck_pending (r : Requester) (v : Bytes) (s : State) : ((execFolioAck r v s).state s).pending = s.pending := by
  simp [execFolioAck]

@[simp] theorem execFolioNote_pending (r : Requester) (n : Nat) (v : Bytes) (s : State) :
    ((execFolioNote r n v s).state s).pending = s.pending := by
  simp [execFolioNote]

@[simp] theorem execImageActivate_pending (r : Requester) (v : Bytes) (s : State) :
    ((execImageActivate r v s).state s).pending = s.pending := by
  simp [execImageActivate]

@[simp] theorem execRingQuota_pending (r : Requester) (quotas : List (Nat × Nat)) (s : State) :
    ((execRingQuota r quotas s).state s).pending = s.pending := by
  simp [execRingQuota]

/-! ## Domains (R73-R75, R86) -/

@[simp] theorem execDomainReady_pending (n : Nat) (pass : Bool) (s : State) :
    ((execDomainReady n pass s).state s).pending = s.pending := by
  simp [execDomainReady, ite_state, ite_fields]

/-! ## The boundary (R29-R32, R44) -/

@[simp] theorem execStrokeBoundary_pending (ref : Nat) (ilim : Bool) (s : State) :
    ((execStrokeBoundary ref ilim s).state s).pending = s.pending := by
  unfold execStrokeBoundary
  split <;> simp

/-! ## Gather and Work (R34-R43) -/

@[simp] theorem execUnitReRun_pending (s : State) : ((execUnitReRun s).state s).pending = s.pending := by
  unfold execUnitReRun
  split <;> simp [ite_state, ite_fields]

@[simp] theorem execClockCheckWindow_pending (count : Nat) (s : State) : ((execClockCheckWindow count s).state s).pending = s.pending := by
  simp [execClockCheckWindow, ite_state, ite_fields]

@[simp] theorem execPllLossOfLock_pending (s : State) : ((execPllLossOfLock s).state s).pending = s.pending := by
  simp [execPllLossOfLock, ite_state, ite_fields]

@[simp] theorem execPllRelock_pending (s : State) : ((execPllRelock s).state s).pending = s.pending := by
  unfold execPllRelock
  split <;> simp

/-! ## Power and reset (R71-R98) -/

@[simp] theorem execPowerOnReset_pending (pages : Nat) (s : State) : ((execPowerOnReset pages s).state s).pending = s.pending := by
  simp [execPowerOnReset]

@[simp] theorem execVdd3BrownOut_pending (cut : Option Nat) (s : State) : ((execVdd3BrownOut cut s).state s).pending = s.pending := by
  simp [execVdd3BrownOut]

@[simp] theorem execRegulatorFailure_pending (cut : Option Nat) (s : State) :
    ((execRegulatorFailure cut s).state s).pending = s.pending := by
  simp [execRegulatorFailure]

@[simp] theorem execAoBrownOut_pending (s : State) : ((execAoBrownOut s).state s).pending = s.pending := by
  simp [execAoBrownOut]

@[simp] theorem execResetN_pending (s : State) : ((execResetN s).state s).pending = s.pending := by
  simp [execResetN]

@[simp] theorem execAoRelease_pending (cascId bootOpt : Nat) (factory : Bool) (s : State) :
    ((execAoRelease cascId bootOpt factory s).state s).pending = s.pending := by
  simp [execAoRelease, ite_state, ite_fields]

@[simp] theorem execBootLoadWindowClose_pending (s : State) : ((execBootLoadWindowClose s).state s).pending = s.pending := by
  simp [execBootLoadWindowClose, ite_state, ite_fields]

@[simp] theorem execFirstStroke_pending (vhold : Nat) (s : State) : ((execFirstStroke vhold s).state s).pending = s.pending := by
  simp [execFirstStroke, ite_state, ite_fields]

@[simp] theorem execVholdTimeout_pending (vhold : Nat) (s : State) : ((execVholdTimeout vhold s).state s).pending = s.pending := by
  simp [execVholdTimeout, ite_state, ite_fields]

@[simp] theorem execSlaveFirstStroke_pending (marker : Option Nat) (s : State) :
    ((execSlaveFirstStroke marker s).state s).pending = s.pending := by
  simp [execSlaveFirstStroke, ite_state, ite_fields]

@[simp] theorem execCkAoCrystalStable_pending (s : State) : ((execCkAoCrystalStable s).state s).pending = s.pending := by
  simp [execCkAoCrystalStable, ite_state, ite_fields]

@[simp] theorem execBlotterEstimate_pending (uf : Nat) (s : State) : ((execBlotterEstimate uf s).state s).pending = s.pending := by
  simp [execBlotterEstimate, ite_state, ite_fields]

@[simp] theorem execBrownOutWarning_pending (s : State) : ((execBrownOutWarning s).state s).pending = s.pending := by
  simp [execBrownOutWarning, ite_state, ite_fields]

@[simp] theorem execBrownOutWarningEnd_pending (s : State) : ((execBrownOutWarningEnd s).state s).pending = s.pending := by
  unfold execBrownOutWarningEnd
  split <;> simp

@[simp] theorem execVlfUndervoltage_pending (bank : Nat) (s : State) : ((execVlfUndervoltage bank s).state s).pending = s.pending := by
  simp [execVlfUndervoltage]

@[simp] theorem execVlfOvervoltage_pending (bank : Nat) (s : State) : ((execVlfOvervoltage bank s).state s).pending = s.pending := by
  simp [execVlfOvervoltage]

@[simp] theorem execVlfRelease_pending (bank : Nat) (s : State) : ((execVlfRelease bank s).state s).pending = s.pending := by
  simp [execVlfRelease]

@[simp] theorem execWatchdog_pending (s : State) : ((execWatchdog s).state s).pending = s.pending := by
  simp [execWatchdog, ite_state, ite_fields]

@[simp] theorem execCoreFault_pending (tagged : Bool) (s : State) : ((execCoreFault tagged s).state s).pending = s.pending := by
  simp [execCoreFault, ite_state, ite_fields]

@[simp] theorem execCoreReset_pending (s : State) : ((execCoreReset s).state s).pending = s.pending := by
  simp [execCoreReset, ite_state, ite_fields]

@[simp] theorem execGuyLatchUpset_pending (fld copy : Nat) (s : State) : ((execGuyLatchUpset fld copy s).state s).pending = s.pending := by
  simp [execGuyLatchUpset, ite_state, ite_fields]

@[simp] theorem execStandbyIdle_pending (s : State) : ((execStandbyIdle s).state s).pending = s.pending := by
  simp [execStandbyIdle, ite_state, ite_fields]

@[simp] theorem execWake_pending (source : Nat) (s : State) : ((execWake source s).state s).pending = s.pending := by
  simp [execWake, ite_state, ite_fields]

@[simp] theorem execStandbyFrame_pending (s : State) : ((execStandbyFrame s).state s).pending = s.pending := by
  simp [execStandbyFrame, ite_state, ite_fields]

@[simp] theorem execStandbyReply_pending (source status : Nat) (s : State) :
    ((execStandbyReply source status s).state s).pending = s.pending := by
  unfold execStandbyReply
  (repeat' split) <;> simp [ite_state, ite_fields]

@[simp] theorem execStandbyReplyTimeout_pending (s : State) : ((execStandbyReplyTimeout s).state s).pending = s.pending := by
  unfold execStandbyReplyTimeout
  split <;> simp [ite_state, ite_fields]

/-! ## Straps and TAP (R63-R65) -/

@[simp] theorem execStrapChange_pending (levels : Nat) (s : State) : ((execStrapChange levels s).state s).pending = s.pending := by
  simp [execStrapChange, ite_state, ite_fields]

@[simp] theorem execExtest_pending (s : State) : ((execExtest s).state s).pending = s.pending := by
  simp [execExtest, ite_state, ite_fields]

@[simp] theorem execSamplePreload_pending (cells sampled : Nat) (s : State) :
    ((execSamplePreload cells sampled s).state s).pending = s.pending := by
  simp [execSamplePreload, ite_state, ite_fields]

@[simp] theorem execBypass_pending (s : State) : ((execBypass s).state s).pending = s.pending := by
  simp [execBypass, ite_state, ite_fields]

@[simp] theorem execSelfTestRun_pending (s : State) : ((execSelfTestRun s).state s).pending = s.pending := by
  simp [execSelfTestRun, ite_state, ite_fields]

@[simp] theorem execSelfTestDone_pending (results : Nat) (s : State) : ((execSelfTestDone results s).state s).pending = s.pending := by
  simp [execSelfTestDone, ite_state, ite_fields]

@[simp] theorem execSelfTestResult_pending (s : State) : ((execSelfTestResult s).state s).pending = s.pending := by
  simp [execSelfTestResult, ite_state, ite_fields]

/-! ## Every command -/

/-- No command changes the queue: each is its own meaning, and each meaning leaves the queue. -/
theorem exec_pending (c : Instr) (s : State) : (Out.state (exec c s) s).pending = s.pending := by
  cases c <;> simp [exec]

/-- Settles O6. -/
theorem queueUntouched : Obligations.QueueUntouched := by
  unfold Obligations.QueueUntouched
  intro c s t h
  have hq := exec_pending c s
  rwa [h, Out.state_next] at hq

end Sys2Proof.Machine
end

section
/-!
PROOFS. LatchFrames: the commands that leave the Guy latch as it is, block by block in the order of the model (R88). Each command is
split into its branches; a branch is made of operations whose frames say that they leave the latch, and those that draw or take something
first are followed by hand.
-/

namespace Sys2Proof.Machine

/-- The outcome leaves the latch and its gate as they were. -/
@[simp] abbrev KeepsGuy (s : State) (o : Out) : Prop := (o.state s).guy = s.guy

theorem foldl_guy {α : Type} (f : State → α → State) (l : List α) (s : State) (h : ∀ s a, (f s a).guy = s.guy) :
    (l.foldl f s).guy = s.guy := by
  induction l generalizing s with
  | nil => rfl
  | cons a l ih => exact (ih _).trans (h s a)

/-! ## Inkwell (R154-R182) -/

@[simp] theorem inkwellCommands_keep_guy (s : State) :
    (∀ weak, KeepsGuy s (execScrubVisit weak s)) ∧ (∀ still, KeepsGuy s (execScrubRewrite still s)) ∧
    (∀ bad, KeepsGuy s (execPageRetirement bad s)) := by
  unfold execScrubVisit execScrubRewrite execPageRetirement
  dsimp only
  and_intros <;> intros <;> (repeat' split) <;> simp

/-! ## Lantern and handle sense (R210-R230) -/

@[simp] theorem lanternCommands_keep_guy (s : State) :
    (∀ ch, KeepsGuy s (execThermalRelease ch s)) ∧ KeepsGuy s (execRegulatoryWindow s) ∧ KeepsGuy s (execLfCarrierChange s) ∧
    (∀ ch, KeepsGuy s (execHsStuck ch s)) ∧ KeepsGuy s (execLfActivityStart s) ∧
    (∀ current phase under detuned, KeepsGuy s (execLfBurstEnd current phase under detuned s)) ∧
    (∀ ch kind, KeepsGuy s (execLfDriverFault ch kind s)) ∧
    (∀ rx current phase, KeepsGuy s (execCradleUplink rx current phase s)) ∧
    (∀ current phase, KeepsGuy s (execCradleUplinkTimeout current phase s)) := by
  unfold execThermalRelease execRegulatoryWindow execLfCarrierChange execHsStuck execLfActivityStart execLfBurstEnd
    execLfDriverFault execCradleUplink execCradleUplinkTimeout
  dsimp only
  and_intros <;> intros <;> (repeat' split) <;> simp

@[simp] theorem execHandleScan_guy (m0 m1 m2 m3 : Nat) (s : State) : KeepsGuy s (execHandleScan m0 m1 m2 m3 s) := by
  unfold execHandleScan
  split
  · refine foldl_guy _ _ s fun a c => ?_
    split
    · simp
    · split <;> simp
  · simp

/-! ## Radios (R231-R255) -/

@[simp] theorem radioCommands_keep_guy (s : State) :
    (∀ radio, KeepsGuy s (execRadioSleep radio s)) ∧ (∀ n temp, KeepsGuy s (execCalibration n temp s)) ∧
    (∀ n, KeepsGuy s (execCalStale n s)) ∧ (∀ gnt, KeepsGuy s (execSniffWindow gnt s)) ∧
    (∀ radio, KeepsGuy s (execRadioWake radio s)) ∧ (∀ gnt, KeepsGuy s (execRadioActivityStart gnt s)) ∧
    (∀ radio kind quality stamps fp rx, KeepsGuy s (execRadioActivityEnd radio kind quality stamps fp rx s)) ∧
    (∀ rx rssi off, KeepsGuy s (execPacketReceived rx rssi off s)) := by
  unfold execRadioSleep execCalibration execCalStale execSniffWindow execRadioWake execRadioActivityStart execRadioActivityEnd
    execPacketReceived
  dsimp only
  and_intros <;> intros <;> (repeat' split) <;> simp [ite_state, ite_fields]

@[simp] theorem execCoexGntLost_guy (s : State) : KeepsGuy s (execCoexGntLost s) := by
  refine foldl_guy _ _ s fun a x => ?_
  dsimp only
  split
  · split <;> simp
  · simp

/-! ## Token exchange (R256-R283) -/

@[simp] theorem tetherCommands_keep_guy (s : State) :
    KeepsGuy s (execLockoutSecondServed s) ∧ KeepsGuy s (execLockoutWindowClose s) ∧
    (∀ slot, KeepsGuy s (execHeldTelegramExpiry slot s)) ∧ KeepsGuy s (execResponseGathered s) := by
  unfold execLockoutSecondServed execLockoutWindowClose execHeldTelegramExpiry execResponseGathered
  dsimp only
  and_intros <;> intros <;> (repeat' split) <;> simp

@[simp] theorem execPollStart_guy (s : State) : KeepsGuy s (execPollStart s) := by
  unfold execPollStart
  split
  · simp
  · split
    · simp
    · dsimp only
      split
      · split
        next hb => simp [stagesNothing_of_begin hb]
        · simp
      · split <;> simp
      · simp

@[simp] theorem execWakeListenEnd_guy (s : State) : KeepsGuy s (execWakeListenEnd s) := by
  unfold execWakeListenEnd
  split
  · dsimp only
    split
    · simp
    · split
      · split
        · split
          next h => simp [stagesNothing_of_startWith h]
          · simp
        · split
          · split
            next h => simp [stagesNothing_of_startCradle h]
            · simp
          · simp
      · simp
  · simp

/-! ## Learn (R300-R305) -/

@[simp] theorem learnCommands_keep_guy (s : State) :
    KeepsGuy s (execLearnVerify s) ∧ (∀ n, KeepsGuy s (execLearnSlaveTimeout n s)) ∧ KeepsGuy s (execLearnPhaseCommit s) ∧
    KeepsGuy s (execLearnScrub s) ∧ KeepsGuy s (execLearnDone s) ∧ KeepsGuy s (execLearnHoldTimeout s) := by
  unfold execLearnVerify execLearnSlaveTimeout execLearnPhaseCommit execLearnScrub execLearnDone execLearnHoldTimeout
  dsimp only
  and_intros <;> intros <;> (repeat' split) <;> simp

/-! ## Feed (R310-R329) -/

@[simp] theorem feedCommands_keep_guy (s : State) :
    KeepsGuy s (execFeedConfigApply s) ∧ KeepsGuy s (execFeedEnable s) ∧ KeepsGuy s (execFeedStartDelay s) ∧
    (∀ track, KeepsGuy s (execSwitchingBegins track s)) ∧ KeepsGuy s (execRampComplete s) ∧ KeepsGuy s (execPgDelay s) ∧
    KeepsGuy s (execPgDrop s) ∧ KeepsGuy s (execFeedDisable s) ∧ KeepsGuy s (execStopComplete s) ∧
    KeepsGuy s (execUndervoltageEvent s) ∧ KeepsGuy s (execStartTimeout s) ∧ KeepsGuy s (execHiccupOffEnd s) ∧
    KeepsGuy s (execHiccupCountReset s) ∧ (∀ f, KeepsGuy s (execFeedLock f s)) ∧ KeepsGuy s (execSyncInLoss s) ∧
    (∀ f, KeepsGuy s (execRelock f s)) ∧ KeepsGuy s (execLoadStepRearm s) ∧ (∀ ready, KeepsGuy s (execLoadStep ready s)) := by
  unfold execFeedConfigApply execFeedEnable execFeedStartDelay execSwitchingBegins execRampComplete execPgDelay execPgDrop
    execFeedDisable execStopComplete execUndervoltageEvent execStartTimeout execHiccupOffEnd execHiccupCountReset execFeedLock
    execSyncInLoss execRelock execLoadStepRearm execLoadStep
  dsimp only
  and_intros <;> intros <;> (repeat' split) <;> simp

/-! ## Feedline and start lock (R330-R349) -/

@[simp] theorem feedlineCommands_keep_guy (s : State) :
    (∀ seq ref, KeepsGuy s (execStatus seq ref s)) ∧ (∀ seq vid slew ref, KeepsGuy s (execSetVid seq vid slew ref s)) ∧
    (∀ cmd seq slew ref, KeepsGuy s (execFeedlineUnknownCmd cmd seq slew ref s)) ∧ KeepsGuy s (execFeedlineCrcError s) ∧
    (∀ clocks, KeepsGuy s (execExchangeCut clocks s)) ∧ KeepsGuy s (execTransitionEnd s) ∧
    (∀ ref, KeepsGuy s (execAckSet ref s)) ∧ (∀ ref, KeepsGuy s (execFeedlineLost ref s)) ∧ KeepsGuy s (execReleaseFeedEnable s) ∧
    KeepsGuy s (execReleaseOutputs s) ∧ KeepsGuy s (execReleaseTimeout s) := by
  unfold execStatus execSetVid execFeedlineUnknownCmd execFeedlineCrcError execExchangeCut execTransitionEnd execAckSet
    execFeedlineLost execReleaseFeedEnable execReleaseOutputs execReleaseTimeout
  dsimp only
  and_intros <;> intros <;> (repeat' split) <;> simp

/-! ## Host port, tenants and rings (R126-R153) -/

@[simp] theorem hostCommands_keep_guy (s : State) :
    (∀ cmd, KeepsGuy s (execReadSingleLane cmd s)) ∧ (∀ cmd, KeepsGuy s (execReadQuad cmd s)) ∧
    (∀ cmd data, KeepsGuy s (execWriteSingleLane cmd data s)) ∧ (∀ cmd data, KeepsGuy s (execWriteQuad cmd data s)) ∧
    (∀ cmd, KeepsGuy s (execProbe cmd s)) ∧ (∀ page off v, KeepsGuy s (execRegisterWrite page off v s)) ∧
    (∀ page v, KeepsGuy s (execIrqCauseClear page v s)) ∧ (∀ page w v, KeepsGuy s (execRingIrqStatusClear page w v s)) ∧
    (∀ w v, KeepsGuy s (execTenantViolatedClear w v s)) ∧ (∀ v, KeepsGuy s (execTenantReset v s)) ∧
    (∀ v, KeepsGuy s (execCoreResetRequest v s)) ∧ (∀ page v, KeepsGuy s (execRingEnable page v s)) ∧
    (∀ page v, KeepsGuy s (execRingDisable page v s)) ∧ (∀ page ring v, KeepsGuy s (execHostIdxWrite page ring v s)) ∧
    (∀ page v, KeepsGuy s (execQpGo page v s)) ∧ (∀ page ring, KeepsGuy s (execRingDrained page ring s)) ∧
    (∀ t, KeepsGuy s (execTenantResetComplete t s)) ∧ KeepsGuy s (execRegrantMoved s) := by
  unfold execReadSingleLane execReadQuad execWriteSingleLane execWriteQuad execProbe execRegisterWrite execIrqCauseClear
    execRingIrqStatusClear execTenantViolatedClear execTenantReset execCoreResetRequest execRingEnable execRingDisable
    execHostIdxWrite execQpGo execRingDrained execTenantResetComplete execRegrantMoved
  dsimp only
  and_intros <;> intros <;> (repeat' split) <;> simp

/-! ## Quill (R183-R209) -/

@[simp] theorem quillCommands_keep_guy (s : State) :
    (∀ lane, KeepsGuy s (execCbcEncrypt lane s)) ∧ (∀ lane, KeepsGuy s (execCbcDecrypt lane s)) ∧
    (∀ lane, KeepsGuy s (execCtr lane s)) ∧ (∀ lane, KeepsGuy s (execGcmEncrypt lane s)) ∧
    (∀ lane, KeepsGuy s (execGcmDecryptAndVerify lane s)) ∧ (∀ lane, KeepsGuy s (execCcmEncrypt lane s)) ∧
    (∀ lane, KeepsGuy s (execCcmDecryptAndVerify lane s)) ∧ (∀ lane, KeepsGuy s (execCmacGenerate lane s)) ∧
    (∀ lane, KeepsGuy s (execCmacVerify lane s)) ∧ (∀ lane, KeepsGuy s (execKeyDerivation lane s)) ∧
    KeepsGuy s (execEntropyFault s) ∧ KeepsGuy s (execDrbgReseed s) ∧ (∀ pos, KeepsGuy s (execKeySettled pos s)) ∧
    (∀ lane, KeepsGuy s (execParityFault lane s)) := by
  unfold execCbcEncrypt execCbcDecrypt execCtr execGcmEncrypt execGcmDecryptAndVerify execCcmEncrypt execCcmDecryptAndVerify
    execCmacGenerate execCmacVerify execKeyDerivation execEntropyFault execDrbgReseed execKeySettled execParityFault
  dsimp only
  and_intros <;> intros <;> (repeat' split) <;> simp

@[simp] theorem execQuillCompletion_guy (lane : Nat) (s : State) : KeepsGuy s (execQuillCompletion lane s) := by
  unfold execQuillCompletion
  dsimp only
  split
  · simp
  · split
    · split
      next h =>
        have h := stagesNothing_of_nextOp h
        split <;> simp [h]
      · simp
    · simp

/-! ## Ridgeline (R350-R407) -/

@[simp] theorem ridgeCommands_keep_guy (s : State) :
    (∀ offset, KeepsGuy s (execClockCorrection offset s)) ∧ KeepsGuy s (execListenTimeout s) ∧
    KeepsGuy s (execColdstartComplete s) ∧ KeepsGuy s (execLossOfSynchronisation s) ∧ KeepsGuy s (execScheduleDecision s) ∧
    (∀ input, KeepsGuy s (execLineBreak input s)) ∧ (∀ side, KeepsGuy s (execSupervisionLoss side s)) ∧
    (∀ input, KeepsGuy s (execSymbolSyncLoss input s)) ∧ (∀ input, KeepsGuy s (execSymbolSyncRegain input s)) ∧
    KeepsGuy s (execWrap s) ∧ (∀ side, KeepsGuy s (execSideRestore side s)) ∧ KeepsGuy s (execGuardianTrip s) ∧
    (∀ side kind source hops, KeepsGuy s (execBabble side kind source hops s)) ∧
    (∀ fid overlaps, KeepsGuy s (execFrameSend fid overlaps s)) ∧ KeepsGuy s (execVoteFrame s) ∧
    (∀ win heard blind, KeepsGuy s (execMinislot win heard blind s)) ∧ KeepsGuy s (execColdstartFrame s) ∧
    KeepsGuy s (execScheduleSwitch s) ∧ KeepsGuy s (execScheduleAdoption s) := by
  unfold execClockCorrection execListenTimeout execColdstartComplete execLossOfSynchronisation execScheduleDecision execLineBreak
    execSupervisionLoss execSymbolSyncLoss execSymbolSyncRegain execWrap execSideRestore execGuardianTrip execBabble execFrameSend
    execVoteFrame execMinislot execColdstartFrame execScheduleSwitch execScheduleAdoption
  dsimp only
  and_intros <;> intros <;> (repeat' split) <;> simp

@[simp] theorem execFrameReceived_guy (slot : Nat) (a b : Option RidgeRx) (s : State) : KeepsGuy s (execFrameReceived slot a b s) := by
  unfold execFrameReceived
  split
  · simp
  · extract_lets a b both s1 s2 whole foreign s3 wa wb r4 s4 c k ok va vb wrong r5 zero differ s5 headers s6 r6
    have h2 : StagesNothing s s2 :=
      StagesNothing.trans (stagesNothing_foldl _ _ _ fun s x => by simp) (stagesNothing_foldl _ _ _ fun s x => by simp)
    have h3 : s3.guy = s.guy := by simp [s3, ite_fields, h2]
    have h4 : s4.guy = s.guy := h3
    have h5 : s5.guy = s.guy := by simp [s5, ite_fields, h4]
    have h6 : s6.guy = s.guy := by simp [s6, ite_fields, h5]
    split
    · simp [ite_fields, h3]
    · split
      · simp [ite_state, ite_fields, h4]
      · split
        · simp [ite_state, ite_fields, h4]
        · simp [ite_fields, h6]

/-! ## CAN FD (R408-R419) -/

@[simp] theorem canCommands_keep_guy (s : State) :
    (∀ k, KeepsGuy s (execCanIntegrationComplete k s)) ∧ (∀ k tec rec, KeepsGuy s (execErrorStateChange k tec rec s)) ∧
    (∀ k, KeepsGuy s (execBusOff k s)) ∧ (∀ k, KeepsGuy s (execRecoveryComplete k s)) ∧
    (∀ k, KeepsGuy s (execProtocolException k s)) ∧ (∀ k flags id data, KeepsGuy s (execCanFrameReceived k flags id data s)) ∧
    (∀ k, KeepsGuy s (execTxLifetimeExpiry k s)) ∧ (∀ k, KeepsGuy s (execBusOffHoldExpiry k s)) ∧
    (∀ k, KeepsGuy s (execCanFrameSent k s)) := by
  unfold execCanIntegrationComplete execErrorStateChange execBusOff execRecoveryComplete execProtocolException
    execCanFrameReceived execTxLifetimeExpiry execBusOffHoldExpiry execCanFrameSent
  dsimp only
  and_intros <;> intros <;> (repeat' split) <;> simp

/-! ## Images (R464-R482) -/

@[simp] theorem imageCommands_keep_guy (s : State) :
    KeepsGuy s (execActivationCopy s) ∧ KeepsGuy s (execActivationVerified s) ∧ KeepsGuy s (execActivationSealed s) ∧
    KeepsGuy s (execActivationCommitted s) ∧ KeepsGuy s (execActivationHoldTimeout s) := by
  unfold execActivationCopy execActivationVerified execActivationSealed execActivationCommitted execActivationHoldTimeout
  dsimp only
  and_intros <;> (repeat' split) <;> simp

/-! ## Pole link (R420-R442) -/

@[simp] theorem poleCommands_keep_guy (s : State) :
    KeepsGuy s (execEcho s) ∧ KeepsGuy s (execEchoReply s) ∧ KeepsGuy s (execDiscover s) ∧
    (∀ source payload ok, KeepsGuy s (execHello source payload ok s)) ∧ (∀ payload ok, KeepsGuy s (execPoleAdmit payload ok s)) ∧
    (∀ reason, KeepsGuy s (execRefuse reason s)) ∧ KeepsGuy s (execRefuseRetry s) ∧ KeepsGuy s (execSecondMaster s) ∧
    (∀ payload late, KeepsGuy s (execLfSchedule payload late s)) ∧ (∀ payload late, KeepsGuy s (execRadioList payload late s)) ∧
    (∀ which, KeepsGuy s (execAbortActivity which s)) ∧ (∀ payload, KeepsGuy s (execKeyContext payload s)) ∧
    (∀ source cls idx seq val due ok, KeepsGuy s (execPoleItem source cls idx seq val due ok s)) ∧
    (∀ source payload, KeepsGuy s (execPoleStatus source payload s)) ∧ (∀ n, KeepsGuy s (execSlaveLost n s)) ∧
    KeepsGuy s (execSlaveStranded s) ∧ (∀ payload, KeepsGuy s (execLearnPage payload s)) ∧
    (∀ digest, KeepsGuy s (execLearnCommit digest s)) ∧ (∀ source v, KeepsGuy s (execLearnReport source v s)) ∧
    (∀ prot msg, KeepsGuy s (execRelay prot msg s)) ∧ (∀ source msg, KeepsGuy s (execRelayResponse source msg s)) ∧
    (∀ marker arrival, KeepsGuy s (execMarkerReceived marker arrival s)) ∧ KeepsGuy s (execAdmissionEffective s) ∧
    (∀ n, KeepsGuy s (execRelayTimeout n s)) := by
  unfold execEcho execEchoReply execDiscover execHello execPoleAdmit execRefuse execRefuseRetry execSecondMaster execLfSchedule
    execRadioList execAbortActivity execKeyContext execPoleItem execPoleStatus execSlaveLost execSlaveStranded execLearnPage
    execLearnCommit execLearnReport execRelay execRelayResponse execMarkerReceived execAdmissionEffective execRelayTimeout
  dsimp only
  and_intros <;> intros <;> (repeat' split) <;> simp [ite_fields]

@[simp] theorem execEchoReplyReceived_guy (rtt : Nat) (s : State) : KeepsGuy s (execEchoReplyReceived rtt s) := by
  unfold execEchoReplyReceived
  split
  · simp only [KeepsGuy, Out.state_next, State.setNum_guy, stagesNothing_divOpen, State.setSelf_guy]
  · simp

/-! ## Export (R457-R463) -/

@[simp] theorem exportCommands_keep_guy (s : State) :
    KeepsGuy s (execExportSelection s) ∧ (∀ stream, KeepsGuy s (execAckTimeout stream s)) := by
  unfold execExportSelection execAckTimeout
  dsimp only
  and_intros <;> intros <;> (repeat' split) <;> simp

/-! ## Ledger transactions and segments (R99-R124) -/

theorem execWrite_guy (r : Requester) (key : Nat) (v : Bytes) (s : State) : KeepsGuy s (execWrite r key v s) := by
  unfold execWrite
  split <;> simp

theorem execCountersigned_guy (r : Requester) (writes : List (Nat × Bytes)) (s : State) : KeepsGuy s (execCountersigned r writes s) := by
  unfold execCountersigned
  (repeat' split) <;> simp

@[simp] theorem ledgerCommands_keep_guy (s : State) :
    KeepsGuy s (execLedgerTransaction s) ∧ KeepsGuy s (execTransactionDeferred s) ∧
    (∀ src, KeepsGuy s (execSegmentReassemblyTimeout src s)) := by
  unfold execLedgerTransaction execTransactionDeferred execSegmentReassemblyTimeout
  and_intros <;> intros <;> (repeat' split) <;> simp

/-! ## Proposals, approvals and decisions (R274, R293-R299) -/

@[simp] theorem decisionCommands_keep_guy (s : State) :
    KeepsGuy s (execDebugUnlockExpiry s) ∧ (∀ num, KeepsGuy s (execProposalExpiry num s)) ∧ KeepsGuy s (execDecision s) := by
  unfold execDebugUnlockExpiry execProposalExpiry execDecision
  and_intros <;> intros <;> (repeat' split) <;> simp

/-! ## Gather and Work (R34-R43) -/

@[simp] theorem execGatherClose_guy (padA padB : Bool) (corrected : Nat) (bad : List Nat) (sram : Bool) (s : State) :
    KeepsGuy s (execGatherClose padA padB corrected bad sram s) := by
  by_cases h : s.sys.power = .running ∧ s.sys.phase = .gather
  · rw [execGatherClose_of_gather padA padB corrected bad sram h.1 h.2]
    simp
  · have h' : s.sys.power ≠ .running ∨ s.sys.phase ≠ .gather := by tauto
    simp [execGatherClose, h']

@[simp] theorem execWorkDeadline_guy (vhold : Nat) (service : Bool) (finish : Nat) (gate : Bool) (s : State) :
    KeepsGuy s (execWorkDeadline vhold service finish gate s) := by
  by_cases h : s.sys.power = .running ∧ s.sys.phase = .work
  · rw [execWorkDeadline_of_work vhold service finish gate h.1 h.2]
    simp
  · have h' : s.sys.power ≠ .running ∨ s.sys.phase ≠ .work := by tauto
    simp [execWorkDeadline, h']

@[simp] theorem strokeCommands_keep_guy (s : State) :
    (∀ count, KeepsGuy s (execClockCheckWindow count s)) ∧ KeepsGuy s (execPllLossOfLock s) ∧ KeepsGuy s (execUnitReRun s) ∧
    KeepsGuy s (execPllRelock s) := by
  unfold execClockCheckWindow execPllLossOfLock execUnitReRun execPllRelock
  dsimp only
  and_intros <;> intros <;> (repeat' split) <;> simp

/-! ## Supply, domains and standby (R71-R75, R91-R98) -/

@[simp] theorem supplyCommands_keep_guy (s : State) :
    KeepsGuy s (execCkAoCrystalStable s) ∧ (∀ uf, KeepsGuy s (execBlotterEstimate uf s)) ∧ KeepsGuy s (execBrownOutWarning s) ∧
    (∀ bank, KeepsGuy s (execVlfUndervoltage bank s)) ∧ (∀ bank, KeepsGuy s (execVlfOvervoltage bank s)) ∧
    (∀ bank, KeepsGuy s (execVlfRelease bank s)) ∧ KeepsGuy s (execStandbyIdle s) ∧ (∀ source, KeepsGuy s (execWake source s)) ∧
    KeepsGuy s (execStandbyFrame s) ∧ KeepsGuy s (execBrownOutWarningEnd s) ∧
    (∀ source status, KeepsGuy s (execStandbyReply source status s)) ∧ KeepsGuy s (execStandbyReplyTimeout s) ∧
    (∀ n pass, KeepsGuy s (execDomainReady n pass s)) := by
  unfold execCkAoCrystalStable execBlotterEstimate execBrownOutWarning execVlfUndervoltage execVlfOvervoltage execVlfRelease
    execStandbyIdle execWake execStandbyFrame execBrownOutWarningEnd execStandbyReply execStandbyReplyTimeout
    execDomainReady
  dsimp only
  and_intros <;> intros <;> (repeat' split) <;> simp

/-! ## Straps and TAP (R63-R65) -/

@[simp] theorem pinCommands_keep_guy (s : State) :
    (∀ levels, KeepsGuy s (execStrapChange levels s)) ∧ KeepsGuy s (execExtest s) ∧
    (∀ cells sampled, KeepsGuy s (execSamplePreload cells sampled s)) ∧ KeepsGuy s (execBypass s) ∧
    KeepsGuy s (execSelfTestRun s) ∧ (∀ results, KeepsGuy s (execSelfTestDone results s)) ∧
    KeepsGuy s (execSelfTestResult s) := by
  simp [execStrapChange, execExtest, execSamplePreload, execBypass, execSelfTestRun, execSelfTestDone, execSelfTestResult,
    ite_state, ite_fields]

end Sys2Proof.Machine
end

section
/-!
PROOFS. LatchBits: RELEASED and FEED_EN through resets, boot, the loss of power and the latch's own commands (R76-R90).
-/

namespace Sys2Proof.Machine

/-! ## The two bits as read (R88) -/

/-- RELEASED and FEED_EN read the same in both states, whatever the gate does (R88). -/
@[simp] abbrev SameLatch (s t : State) : Prop := t.released = s.released ∧ t.feedEn = s.feedEn

/-- Neither bit rises between the two states (R66). -/
@[simp] abbrev NoRise (s t : State) : Prop := (t.released = true → s.released = true) ∧ (t.feedEn = true → s.feedEn = true)

@[simp] theorem Tri.maj_all (b : Bool) : (Tri.all b).maj = b := by
  cases b <;> rfl

theorem sameLatch_of_guy {s t : State} (h : t.guy = s.guy) : SameLatch s t := by
  simp [State.released, State.feedEn, h]

theorem SameLatch.trans {s t u : State} (h : SameLatch s t) (h' : SameLatch t u) : SameLatch s u := by
  simp [h, h']

theorem SameLatch.noRise {s t : State} (h : SameLatch s t) : NoRise s t := by
  simp [h]

theorem noRise_of_locked {s t : State} (hr : t.released = false) (hf : t.feedEn = false) : NoRise s t := by
  simp [hr, hf]

/-! ## Loss of power (R78, R82) -/

/-- AO reset asserted locks the latch (R78). -/
theorem noRise_aoAsserted (s t : State) : NoRise s t.aoAsserted := noRise_of_locked rfl rfl

theorem noRise_powerDown (s : State) (cause : Nat) (cut : Option Nat) : NoRise s (s.powerDown cause cut) := by
  unfold State.powerDown
  dsimp only
  (repeat' split) <;> exact noRise_aoAsserted _ _

/-! ## Boot and core reset (R76, R80-R85, R90) -/

@[simp] theorem repairTallies_guy (s : State) : s.repairTallies.guy = s.guy := rfl

@[simp] theorem bootSelect_guy (s : State) : s.bootSelect.guy = s.guy := by
  unfold State.bootSelect
  split <;> rfl

@[simp] theorem bootOn_guy (s : State) : s.bootOn.guy = s.guy := by
  simp [State.bootOn, ite_fields]

@[simp] theorem settleRestore_guy (s : State) (cold : Bool) (keep : Nat → Bool) : (s.settleRestore cold keep).guy = s.guy := by
  simp [State.settleRestore, ite_fields]

@[simp] theorem readRegions_guy (s : State) : s.readRegions.guy = s.guy := by
  simp [State.readRegions]

@[simp] theorem bootStroke_guy (s : State) : s.bootStroke.guy = s.guy := by
  simp [State.bootStroke]

@[simp] theorem execAoRelease_guy (cascId bootOpt : Nat) (factory : Bool) (s : State) :
    KeepsGuy s (execAoRelease cascId bootOpt factory s) := by
  simp [execAoRelease, ite_state, ite_fields]

@[simp] theorem execBootLoadWindowClose_guy (s : State) : KeepsGuy s (execBootLoadWindowClose s) := by
  simp [execBootLoadWindowClose, ite_state, ite_fields]

@[simp] theorem execSlaveFirstStroke_guy (marker : Option Nat) (s : State) : KeepsGuy s (execSlaveFirstStroke marker s) := by
  simp [execSlaveFirstStroke, ite_state, ite_fields]

/-- Boot opens the gate and leaves the bits (R76). -/
theorem sameLatch_bootFinish (s : State) (vhold state : Nat) : SameLatch s (s.bootFinish vhold state) := by
  simp [State.bootFinish, State.bootSettle, State.released, State.feedEn, ite_fields]

/-- A core reset that strikes closes the gate and leaves the bits (R83, R88). -/
theorem sameLatch_strike (s : State) (cause : Nat) (t : Stamp) : SameLatch s (s.strike cause t) := ⟨rfl, rfl⟩

@[simp] theorem coreCleared_guy (s : State) : s.coreCleared.guy = s.guy := by
  simp [State.coreCleared]

@[simp] theorem riseAgain_guy (s : State) : s.riseAgain.guy = s.guy := by
  simp [State.riseAgain, ite_fields, ite_sys_fields]

/-- The latch stands through a core reset; adoption opens the gate alone (R90). -/
theorem sameLatch_adopt (s : State) : SameLatch s s.adopt := ⟨rfl, rfl⟩

/-! ## The commands that write the latch (R76-R90) -/

theorem execFirstStroke_noRise (vhold : Nat) (s : State) : NoRise s ((execFirstStroke vhold s).state s) := by
  unfold execFirstStroke
  split
  · exact (sameLatch_bootFinish s vhold 1).noRise
  · exact ⟨id, id⟩

theorem execVholdTimeout_noRise (vhold : Nat) (s : State) : NoRise s ((execVholdTimeout vhold s).state s) := by
  unfold execVholdTimeout
  split
  · exact ((sameLatch_bootFinish s vhold 2).trans (sameLatch_of_guy (offer_guy _ 1 0 [2] [24, 2]))).noRise
  · exact ⟨id, id⟩

theorem execWatchdog_noRise (s : State) : NoRise s ((execWatchdog s).state s) := by
  unfold execWatchdog
  split
  · exact (sameLatch_strike s 4 _).noRise
  · exact ⟨id, id⟩

theorem execCoreFault_noRise (tagged : Bool) (s : State) : NoRise s ((execCoreFault tagged s).state s) := by
  unfold execCoreFault
  split
  · have h : (if tagged then s else s.cutGroup s.openPages).guy = s.guy := by split <;> simp
    exact ((sameLatch_of_guy h).trans (sameLatch_strike _ 6 s.stamp)).noRise
  · exact ⟨id, id⟩

theorem execCoreReset_noRise (s : State) : NoRise s ((execCoreReset s).state s) := by
  unfold execCoreReset
  dsimp only
  (repeat' split)
  · exact ⟨id, id⟩
  · exact (sameLatch_of_guy (coreCleared_guy s)).noRise
  · have h : ((s.coreCleared.settleRestore false sparedObj).readRegions.riseAgain).guy = s.guy := by simp
    exact ((sameLatch_of_guy h).trans (sameLatch_adopt _)).noRise

/-- The majority written to the three copies reads as before (R88). -/
theorem execGuyLatchUpset_noRise (fld copy : Nat) (s : State) : NoRise s ((execGuyLatchUpset fld copy s).state s) := by
  unfold execGuyLatchUpset
  split
  · exact ⟨id, id⟩
  · have h : SameLatch s { s with guy := { s.guy with released := Tri.all s.released, feedEn := Tri.all s.feedEn } } :=
      ⟨Tri.maj_all _, Tri.maj_all _⟩
    exact (h.trans (sameLatch_of_guy (offer_guy _ 1 0 _ _))).noRise

theorem execFeedLatchOffClear_noRise (s : State) : NoRise s ((execFeedLatchOffClear s).state s) := by
  unfold execFeedLatchOffClear
  split
  · exact noRise_of_locked (by simp [State.released]) (by simp [State.feedEn])
  · exact ⟨id, id⟩

end Sys2Proof.Machine
end

section
/-!
PROOFS. LatchRise: the boundary that ends a Commit window is the one command that raises RELEASED or FEED_EN (R66, R88, R89).
-/

namespace Sys2Proof.Machine

/-! ## The latch at a boundary (R26, R66, R88-R90) -/

theorem mem_latchOps {op : LatchOp} {effs : List Effect} : op ∈ latchOps effs ↔ Effect.latch op ∈ effs := by
  unfold latchOps
  rw [List.mem_filterMap]
  constructor
  · rintro ⟨e, he, h⟩
    split at h
    · cases h; exact he
    · cases h
  · exact fun h => ⟨_, h, rfl⟩

/-- What a Commit applies was staged in its stroke (R26, R40). -/
theorem mem_effects_of_mem_standing {s : State} {e : Effect} (h : e ∈ s.standing) : e ∈ s.effects := by
  unfold State.standing at h
  split at h
  · obtain ⟨u, hu, he⟩ := List.mem_flatMap.1 h
    exact List.mem_flatMap.2 ⟨u, List.mem_of_mem_filter hu, he⟩
  · exact h

/-- A bit stands after the operations of a stroke only if it stood before or its operation is among them. -/
theorem latchAfter_rise (r f : Bool) (ops : List LatchOp) :
    ((latchAfter r f ops).1 = true → r = true ∨ .setReleased ∈ ops) ∧
    ((latchAfter r f ops).2 = true → f = true ∨ .setFeedEn ∈ ops) := by
  unfold latchAfter
  dsimp only
  split
  · exact ⟨nofun, nofun⟩
  · split
    · exact ⟨.inl, .inl⟩
    · simp

/-- A bit stands in `t` only if it stood in `s`, or the gate of `s` was open and the bit's operation is among `ops` (R66, R88). -/
abbrev RisesBy (ops : List LatchOp) (s t : State) : Prop :=
  (t.released = true → s.released = true ∨ s.guy.gateOpen = true ∧ .setReleased ∈ ops) ∧
  (t.feedEn = true → s.feedEn = true ∨ s.guy.gateOpen = true ∧ .setFeedEn ∈ ops)

theorem NoRise.risesBy {s t : State} (h : NoRise s t) (ops : List LatchOp) : RisesBy ops s t :=
  ⟨fun hr => .inl (h.1 hr), fun hf => .inl (h.2 hf)⟩

theorem risesBy_of_guy {ops : List LatchOp} {s s' t t' : State} (hs : s.guy = s'.guy) (ht : t'.guy = t.guy) (h : RisesBy ops s t) :
    RisesBy ops s' t' := by
  simpa only [RisesBy, State.released, State.feedEn, hs, ht] using h

theorem setLatch_bits (s : State) (r f : Bool) (c : Nat) : (s.setLatch r f c).released = r ∧ (s.setLatch r f c).feedEn = f := by
  simp [State.released, State.feedEn]

theorem noRise_clear (s : State) (c : Nat) : NoRise s (s.setLatch false false c) :=
  noRise_of_locked (setLatch_bits s false false c).1 (setLatch_bits s false false c).2

theorem risesBy_latchNow (s : State) (ops : List LatchOp) : RisesBy ops s (s.latchNow ops) := by
  unfold State.latchNow
  extract_lets r f want s1
  split
  · exact ⟨.inl, .inl⟩
  next hn =>
    have hg : s.guy.gateOpen = true := by
      by_contra h
      exact hn (.inr (.inl (Bool.eq_false_iff.2 h)))
    split
    · exact (noRise_clear s 4).risesBy ops
    · split
      · exact (noRise_clear s 3).risesBy ops
      · obtain ⟨hr, hf⟩ := setLatch_bits s want.1 want.2 (if want.1 && !r then 2 else 1)
        obtain ⟨hr', hf'⟩ := latchAfter_rise r f ops
        exact ⟨fun h => (hr' (hr ▸ h)).imp_right fun h => ⟨hg, h⟩, fun h => (hf' (hf ▸ h)).imp_right fun h => ⟨hg, h⟩⟩

/-! ## STROKE_BOUNDARY (R44, R66) -/

/-- The Commit's latch is that of its latch operations: no other effect writes it (R44, R88). -/
theorem commitNow_guy (s : State) : s.commitNow.guy = (s.latchNow (latchOps s.standing)).guy := by
  simp [State.commitNow, ite_fields]

/-- A Commit raises what its stroke staged, and that with the gate open (R44, R66). -/
theorem risesBy_commitNow (s : State) : RisesBy (latchOps s.effects) s s.commitNow := by
  have sub (op : LatchOp) (h : op ∈ latchOps s.standing) : op ∈ latchOps s.effects :=
    mem_latchOps.2 (mem_effects_of_mem_standing (mem_latchOps.1 h))
  obtain ⟨hr, hf⟩ := sameLatch_of_guy (commitNow_guy s)
  obtain ⟨hr', hf'⟩ := risesBy_latchNow s (latchOps s.standing)
  rw [RisesBy, hr, hf]
  exact ⟨fun h => (hr' h).imp_right (.imp_right (sub _)), fun h => (hf' h).imp_right (.imp_right (sub _))⟩

theorem endStroke_guy_of_commit {s : State} (ref : Nat) (ilim : Bool) (hc : s.sys.phase = .commit) :
    (s.endStroke ref ilim).guy = (s.feedBoundary ref ilim).watch.commitNow.guy := by
  simp [State.endStroke, State.watch, hc]

theorem endStroke_guy_of_not_commit {s : State} (ref : Nat) (ilim : Bool) (hc : s.sys.phase ≠ .commit) :
    (s.endStroke ref ilim).guy = s.guy := by
  simp [State.endStroke, State.watch, hc]

/-- The end of a stroke whose core did not reach its Commit window leaves the latch (R44). -/
theorem endStroke_rise (s : State) (ref : Nat) (ilim : Bool) : SameLatch s (s.endStroke ref ilim) ∨
    s.sys.phase = .commit ∧ RisesBy (latchOps s.effects) s (s.endStroke ref ilim) := by
  by_cases hc : s.sys.phase = .commit
  · have he : (s.feedBoundary ref ilim).watch.effects = s.effects := by simp [State.effects, State.watch]
    have h := risesBy_commitNow (s.feedBoundary ref ilim).watch
    rw [he] at h
    exact .inr ⟨hc, risesBy_of_guy (by simp) (endStroke_guy_of_commit ref ilim hc) h⟩
  · exact .inl (sameLatch_of_guy (endStroke_guy_of_not_commit ref ilim hc))

@[simp] theorem enterStandby_guy (s : State) : s.enterStandby.guy = s.guy := by
  simp [State.enterStandby, ite_fields, ite_sys_fields]

theorem nextOf_guy (s : State) (ref : Nat) (ilim full : Bool) : (s.nextOf ref ilim full).guy = (s.endStroke ref ilim).guy := by
  simp [State.nextOf]

/-- What opens after the end of a stroke keeps its bits; a core reset only closes the gate (R80, R88, R92). -/
theorem sameLatch_runBoundary (s : State) (ref : Nat) (ilim : Bool) : SameLatch (s.endStroke ref ilim) (s.runBoundary ref ilim) := by
  by_cases h : s.sys.phase = .commit ∧ Effect.standby ∈ s.effects
  · rw [runBoundary_of_standby ref ilim h.1 h.2]
    exact sameLatch_of_guy (by simp)
  · have he : s.sys.phase = .commit → Effect.standby ∉ s.effects := not_and.1 h
    by_cases hr : s.sys.resetReq = some 5
    · rw [runBoundary_of_reset ref ilim he hr]
      simp [State.released, State.feedEn, nextOf_guy]
    · rw [runBoundary_of_full ref ilim he hr]
      exact sameLatch_of_guy (by simp [nextOf_guy])

@[simp] theorem darkBoundary_guy (s : State) (ref : Nat) (ilim : Bool) : (s.darkBoundary ref ilim).guy = s.guy := by
  unfold State.darkBoundary
  dsimp only
  split <;> simp

/-- A boundary leaves the bits, or ends a stroke in its Commit window and raises what the stroke staged (R44, R66). -/
theorem execStrokeBoundary_rise (s : State) (ref : Nat) (ilim : Bool) : SameLatch s ((execStrokeBoundary ref ilim s).state s) ∨
    s.sys.power = .running ∧ s.sys.phase = .commit ∧ RisesBy (latchOps s.effects) s ((execStrokeBoundary ref ilim s).state s) := by
  by_cases hp : s.sys.power = .running
  · have hx : (execStrokeBoundary ref ilim s).state s = s.runBoundary ref ilim := by simp [execStrokeBoundary, hp]
    have hs := sameLatch_runBoundary s ref ilim
    rw [hx]
    obtain h | ⟨hc, h⟩ := endStroke_rise s ref ilim
    · exact .inl (h.trans hs)
    · exact .inr ⟨hp, hc, by rwa [RisesBy, hs.1, hs.2]⟩
  · refine .inl (sameLatch_of_guy ?_)
    unfold execStrokeBoundary
    split <;> simp_all

/-! ## Every other command (R66) -/

/-- Besides STROKE_BOUNDARY the commands that write the latch open or close its gate, lock it, or make its copies agree; the others leave it
as it is. -/
theorem exec_noRise (c : Instr) (s : State) (hc : ∀ ref ilim, c ≠ .strokeBoundary ref ilim) : NoRise s (Out.state (exec c s) s) := by
  cases c with
  | strokeBoundary ref ilim => exact absurd rfl (hc ref ilim)
  | powerOnReset => exact noRise_aoAsserted s _
  | vdd3BrownOut | regulatorFailure => exact noRise_powerDown s _ _
  | aoBrownOut => exact noRise_powerDown s 2 none
  | resetN => exact noRise_powerDown s 3 none
  | firstStroke => exact execFirstStroke_noRise _ s
  | vholdTimeout => exact execVholdTimeout_noRise _ s
  | watchdog => exact execWatchdog_noRise s
  | coreFault => exact execCoreFault_noRise _ s
  | coreReset => exact execCoreReset_noRise s
  | guyLatchUpset => exact execGuyLatchUpset_noRise _ _ s
  | feedLatchOffClear => exact execFeedLatchOffClear_noRise s
  | domainEnable | subsystemReset | standbyRequest | tenantEnable | granuleOwnerChange | keyLoad | keyErase | lfChannelClear
    | startRequest | learnRecord | learnRecordClear | csAuth | csTokenAuth | protectionSeal | commissionStart | feedFaultClear
    | ignitionOff | ridgeIsolate | ridgeRequest | ridgeGuardClear | canRecover | poleRelay | folioAck | folioNote =>
    exact (sameLatch_of_guy (execWrite_guy _ _ _ s)).noRise
  | keyLoadProtected | lockoutClear | learnStart | debugUnlock | poleRelayProtected | imageActivate | ringQuota =>
    exact (sameLatch_of_guy (execCountersigned_guy _ _ s)).noRise
  | _ => exact (sameLatch_of_guy (by simp [exec])).noRise

/-- Settles O5: the boundary raises only what its stroke staged, and no other command raises a bit. -/
theorem releaseOnlyAtBoundary : Obligations.ReleaseOnlyAtBoundary := by
  unfold Obligations.ReleaseOnlyAtBoundary
  intro c s t h
  by_cases hc : ∃ ref ilim, c = .strokeBoundary ref ilim
  · obtain ⟨ref, ilim, rfl⟩ := hc
    have hb := execStrokeBoundary_rise s ref ilim
    rw [show execStrokeBoundary ref ilim s = .next t from h, Out.state_next] at hb
    obtain ⟨hr, hf⟩ | ⟨hp, hc, hr, hf⟩ := hb
    · simp_all
    · refine ⟨fun h0 h1 => ?_, fun h0 h1 => ?_⟩
      · obtain ⟨hg, hm⟩ := (hr h1).resolve_left (by simp [h0])
        exact ⟨⟨ref, ilim, rfl⟩, hp, hc, hg, mem_latchOps.1 hm⟩
      · obtain ⟨hg, hm⟩ := (hf h1).resolve_left (by simp [h0])
        exact ⟨⟨ref, ilim, rfl⟩, hp, hc, hg, mem_latchOps.1 hm⟩
  · have hn := exec_noRise c s fun ref ilim e => hc ⟨ref, ilim, e⟩
    rw [h, Out.state_next] at hn
    obtain ⟨hr, hf⟩ := hn
    exact ⟨fun h0 h1 => absurd (hr h1) (by simp [h0]), fun h0 h1 => absurd (hf h1) (by simp [h0])⟩

end Sys2Proof.Machine
end

section
/-!
PROOFS. PinCommands: the straps read again and the TAP's instructions (R63-R65).
-/

namespace Sys2Proof.Machine

/-- Strap levels that differ from those last seen, at the Commit of a sheet's last stroke, are seen; those that differ from the sampled
ones too are gathered (R65). -/
theorem exec_strapChange_of_differs {s : State} {levels : Nat} (hc : s.committing = true) (hs : s.sys.stroke % 64 = 63)
    (hl : levels % 64 ≠ s.sys.strapsSeen)
    (hb : levels % 64 ≠ State.strapsByte { s with sys := { s.sys with strapsSeen := levels % 64 } }) :
    exec (.strapChange levels) s =
      .next (State.offer { s with sys := { s.sys with strapsSeen := levels % 64 } } 1 0 (beBytes 1 (levels % 64)) [26, levels % 64]) := by
  have hb' : levels % 64 ≠ s.strapsByte := hb
  simp [exec, execStrapChange, hc, hs, hl, hb']

section
variable {s : State} (ht : s.tapOn = true)
include ht

theorem exec_extest_of_tapOn : exec .extest s = .next (s.select 0) := by
  simp [exec, execExtest, ht]

theorem exec_samplePreload_of_tapOn (cells sampled : Nat) : exec (.samplePreload cells sampled) s =
    .next { s.select 1 with sys := { (s.select 1).sys with bsr := cells, tdo := sampled } } := by
  simp [exec, execSamplePreload, ht]

theorem exec_bypass_of_tapOn : exec .bypass s = .next (s.select 15) := by
  simp [exec, execBypass, ht]

/-- The self-test runs once (R64). -/
theorem exec_selfTestRun_of_first (hu : s.unsealed = true) (h0 : s.sys.selfTest = 0) : exec .selfTestRun s =
    .next { s.select 8 with mem := [], sys := { (s.select 8).sys with selfTest := 2 ^ 30, domains := 0x3D } } := by
  simp [exec, execSelfTestRun, ht, hu, h0]

/-- After provisioning the self-test's two codes act as BYPASS (R64). -/
theorem exec_selfTest_of_sealed (hu : s.unsealed = false) :
    exec .selfTestRun s = .next (s.select 15) ∧ exec .selfTestResult s = .next (s.select 15) := by
  simp [exec, execSelfTestRun, execSelfTestResult, ht, hu]

theorem exec_selfTestDone_of_running (results : Nat) (hr : s.sys.selfTest = 2 ^ 30) : exec (.selfTestDone results) s =
    .next { s with sys := { s.sys with selfTest := 2 ^ 31 + results % 32, domains := 1 } } := by
  simp [exec, execSelfTestDone, ht, hr]

theorem exec_selfTestResult_of_unsealed (hu : s.unsealed = true) : exec .selfTestResult s =
    .next { s.select 9 with sys := { (s.select 9).sys with tdo := (s.select 9).sys.selfTest } } := by
  simp [exec, execSelfTestResult, ht, hu]

end

/-- Settles O17: the straps' one command, and the TAP's commands instruction by instruction. -/
theorem strapsAndTap : Obligations.StrapsAndTap := by
  unfold Obligations.StrapsAndTap
  exact ⟨fun s levels => exec_strapChange_of_differs, fun s ht =>
    ⟨exec_extest_of_tapOn ht, exec_samplePreload_of_tapOn ht, exec_bypass_of_tapOn ht, exec_selfTestRun_of_first ht,
      exec_selfTest_of_sealed ht, exec_selfTestDone_of_running ht, exec_selfTestResult_of_unsealed ht⟩⟩

end Sys2Proof.Machine
end

section
/-!
PROOFS. PowerLoss: every loss of supply ends with AO reset asserted, and the power-down sequence that completes leaves its marker (R78,
R82, R87, R179).
-/

namespace Sys2Proof.Machine

/-! ## AO reset asserted (R78) -/

theorem aoReset_aoAsserted (s : State) : AoReset s.aoAsserted :=
  ⟨rfl, rfl, rfl, rfl, rfl, rfl, rfl, rfl, rfl, rfl, rfl, rfl, rfl, rfl, rfl, rfl, rfl, rfl, rfl, rfl⟩

/-- However far the power-down sequence came, AO reset is asserted at its end (R82). -/
theorem powerDown_eq_aoAsserted (s : State) (cause : Nat) (cut : Option Nat) : ∃ t : State, s.powerDown cause cut = t.aoAsserted := by
  unfold State.powerDown
  dsimp only
  (repeat' split) <;> exact ⟨_, rfl⟩

theorem aoReset_powerDown (s : State) (cause : Nat) (cut : Option Nat) : AoReset (s.powerDown cause cut) := by
  obtain ⟨t, h⟩ := powerDown_eq_aoAsserted s cause cut
  rw [h]
  exact aoReset_aoAsserted t

/-- Settles O9. -/
theorem lossOfSupplyAssertsAoReset : Obligations.LossOfSupplyAssertsAoReset := by
  unfold Obligations.LossOfSupplyAssertsAoReset
  exact fun s => ⟨fun k => ⟨_, rfl, aoReset_aoAsserted _⟩, fun cut => ⟨_, rfl, aoReset_powerDown s 1 cut⟩,
    fun cut => ⟨_, rfl, aoReset_powerDown s 0 cut⟩, ⟨_, rfl, aoReset_powerDown s 2 none⟩, ⟨_, rfl, aoReset_powerDown s 3 none⟩⟩

/-! ## The boot count through a page write (R76, R156, R161) -/

/-- The words of a Tally counter's cells lie in one page (R156). -/
theorem tallyAddr_page (c k : Nat) (hk : k < 16) : tallyAddr c k / 32 = 1040 + c / 2 := by
  unfold tallyAddr
  omega

/-- A Tally counter reads the same after the write of any page but its own (R156, R161). -/
theorem tallyScan_writePage (ink : Inkwell) (p : Nat) (b : Bytes) (g c : Nat) (hp : p ≠ 1040 + c / 2) :
    tallyScan (ink.writePage p b g) c = tallyScan ink c := by
  unfold tallyScan
  refine List.foldl_ext _ _ _ fun acc k hk => ?_
  have hbad : (ink.writePage p b g).badWords.contains (tallyAddr c k) = ink.badWords.contains (tallyAddr c k) := by
    have hne : tallyAddr c k / 32 ≠ p := by
      rw [tallyAddr_page c k (List.mem_range.1 hk)]
      exact hp.symm
    rw [Bool.eq_iff_iff]
    simp [Inkwell.writePage, hne]
  rw [hbad]
  rfl

/-- The shadow save writes the pages of one save copy, which hold no Tally counter (R156, R179). -/
theorem tallyScan_saveShadow (s : State) (c : Nat) (hc : c < 24) : tallyScan s.saveShadow.ink c = tallyScan s.ink c := by
  have fold (img : Bytes) (l : List Nat) (ink : Inkwell) : tallyScan (l.foldl (fun (k : Inkwell) i =>
      k.writePage (savePage s.ink.saveToB + i) (slice img (240 * i) 240) s.ink.group) ink) c = tallyScan ink c := by
    induction l generalizing ink with
    | nil => rfl
    | cons i l ih =>
      rw [List.foldl_cons, ih]
      refine tallyScan_writePage _ _ _ _ c ?_
      unfold savePage
      split <;> omega
  exact fold _ _ s.ink

theorem saveShadow_stamp (s : State) : s.saveShadow.stamp = s.stamp := by
  have hsys : s.saveShadow.sys = s.sys := rfl
  unfold State.stamp State.boot State.tally
  rw [tallyScan_saveShadow s 0 (by omega), hsys]

/-! ## The power-loss marker (R82, R87) -/

/-- The marker stands whole in the older of its two pages (R82, R179). -/
theorem marked_writeMarker (s : State) (cause : Nat) : Marked (s.writeMarker cause) cause s.stamp := by
  unfold State.writeMarker
  dsimp only
  split
  · exact ⟨1100, _, .inl rfl, alookup_ainsert _ _ _, rfl, rfl⟩
  · exact ⟨1101, _, .inr rfl, alookup_ainsert _ _ _, rfl, rfl⟩
  · split
    · exact ⟨1100, _, .inl rfl, alookup_ainsert _ _ _, rfl, rfl⟩
    · exact ⟨1101, _, .inr rfl, alookup_ainsert _ _ _, rfl, rfl⟩

/-- A sequence that completes while the core runs or starts again leaves the marker of its cause, with bit 7 clear (R82). -/
theorem marked_powerDown (s : State) (cause : Nat) (hp : s.sys.power = .running ∨ s.sys.power = .dark) :
    Marked (s.powerDown cause none) cause s.stamp := by
  have hx : s.powerDown cause none = (s.saveShadow.writeMarker cause).aoAsserted := by
    obtain hp | hp := hp <;> simp [State.powerDown, State.saveAndMark, hp, b2n]
  rw [hx, ← saveShadow_stamp s]
  exact marked_writeMarker s.saveShadow cause

/-- Settles O10. -/
theorem powerDownLeavesMarker : Obligations.PowerDownLeavesMarker := by
  unfold Obligations.PowerDownLeavesMarker
  exact fun s hp => ⟨⟨_, rfl, marked_powerDown s 1 hp⟩, ⟨_, rfl, marked_powerDown s 0 hp⟩, ⟨_, rfl, marked_powerDown s 2 hp⟩,
    ⟨_, rfl, marked_powerDown s 3 hp⟩⟩

end Sys2Proof.Machine
end

section
/-!
PROOFS. BootAndReset: the first strokes after boot, core resets, and the Guy latch through them (R76, R77, R80-R90, R429).
-/

namespace Sys2Proof.Machine

/-! ## What boot leaves of the device's own registers (R76, R169) -/

/-- What no step of a loop changes stands after it. -/
theorem foldl_preserves {α β : Type} (g : State → β) (f : State → α → State) (l : List α) (s : State) (h : ∀ s a, g (f s a) = g s) :
    g (l.foldl f s) = g s := by
  induction l generalizing s with
  | nil => rfl
  | cons a l ih => exact (ih _).trans (h s a)

@[simp] theorem recordFault_sys (s : State) (code detail : Nat) : (s.recordFault code detail).sys = s.sys := by
  unfold State.recordFault
  split <;> rfl

@[simp] theorem restore_sys (s : State) (keep : Nat → Bool) : (s.restore keep).sys = s.sys := by
  unfold State.restore
  refine (foldl_preserves (·.sys) _ _ _ ?_).trans (foldl_preserves (·.sys) _ _ _ ?_)
  · exact fun a q => recordFault_sys _ _ _
  · intro a e
    (repeat' split) <;> rfl

/-- A group voided leaves its break's span (R48); the strap's CASC_ID stands (R59). -/
@[simp] theorem voidGroup_cascId (s : State) (g : Nat) (t : Stamp) : (s.voidGroup g t).sys.cascId = s.sys.cascId := by
  unfold State.voidGroup
  rw [recordFault_sys]
  rfl

@[simp] theorem settle_cascId (s : State) (cold : Bool) : (s.settle cold).sys.cascId = s.sys.cascId := by
  unfold State.settle
  dsimp only
  rw [State.setNum_sys, foldl_preserves (·.sys.cascId) _ _ _ fun a g => voidGroup_cascId a g _]
  (repeat' split) <;> simp

@[simp] theorem settleRestore_cascId (s : State) (cold : Bool) (keep : Nat → Bool) :
    (s.settleRestore cold keep).sys.cascId = s.sys.cascId := by
  unfold State.settleRestore
  dsimp only
  split <;> simp

@[simp] theorem settleRestore_power (s : State) (cold : Bool) (keep : Nat → Bool) :
    (s.settleRestore cold keep).sys.power = s.sys.power := by
  unfold State.settleRestore
  dsimp only
  split <;> simp

@[simp] theorem restoreShadow_sys (s : State) : s.restoreShadow.sys = s.sys := by
  unfold State.restoreShadow
  dsimp only
  (repeat' split) <;> rfl

@[simp] theorem readRegions_sys (s : State) : s.readRegions.sys = s.sys := by
  have h : s.regLoad.regRead.sys = s.regLoad.sys := foldl_preserves (·.sys) _ _ _ fun a n => rfl
  exact h

@[simp] theorem hsBegin_sys (s : State) : s.hsBegin.sys = s.sys :=
  foldl_preserves (·.sys) _ _ { s with lf := { s.lf with hs := [] } } fun a c => by dsimp only; (repeat' split) <;> rfl

/-! ## FIRST_STROKE and VHOLD_TIMEOUT (R76, R77, R429) -/

/-- Step 7 of boot opens the latch's gate, notes how VHOLD was found, and leaves CASC_ID and the power state (R76). -/
theorem bootSettle_frame (s : State) (vhold state : Nat) :
    (s.bootSettle vhold state).guy = { s.guy with gateOpen := true } ∧ (s.bootSettle vhold state).sys.vholdState = state ∧
      (s.bootSettle vhold state).sys.darkLeft = 1 ∧ (s.bootSettle vhold state).sys.cascId = s.sys.cascId ∧
      (s.bootSettle vhold state).sys.power = s.sys.power := by
  simp [State.bootSettle]

/-- Step 8: stroke 0 opens in Gather, the watchdog armed (R76). -/
theorem bootStroke_frame (s : State) :
    s.bootStroke.sys.power = .running ∧ s.bootStroke.sys.phase = .gather ∧ s.bootStroke.sys.stroke = 0 ∧
      s.bootStroke.sys.wdArmed = true ∧ s.bootStroke.sys.vholdState = s.sys.vholdState := by
  exact ⟨rfl, rfl, rfl, rfl, rfl⟩

/-- A master opens stroke 0 at once (R76). -/
theorem bootFinish_of_master (s : State) (vhold state : Nat) (h : s.sys.cascId = 0) :
    (s.bootFinish vhold state).sys.power = .running ∧ (s.bootFinish vhold state).sys.phase = .gather ∧
      (s.bootFinish vhold state).sys.stroke = 0 ∧ (s.bootFinish vhold state).sys.wdArmed = true ∧
      (s.bootFinish vhold state).sys.vholdState = state ∧ (s.bootFinish vhold state).guy = { s.guy with gateOpen := true } := by
  obtain ⟨hguy, hvhold, -, hid, -⟩ := bootSettle_frame s vhold state
  have hm : (s.bootSettle vhold state).isSlave = false := by simp [State.isSlave, hid, h]
  have hx : s.bootFinish vhold state = (s.bootSettle vhold state).bootStroke := by simp [State.bootFinish, hm]
  obtain ⟨hpower, hphase, hstroke, harmed, hv⟩ := bootStroke_frame (s.bootSettle vhold state)
  rw [hx]
  exact ⟨hpower, hphase, hstroke, harmed, hv.trans hvhold, (bootStroke_guy _).trans hguy⟩

/-- A slave waits for its master's boundary (R429). -/
theorem bootFinish_of_slave (s : State) (vhold state : Nat) (h : s.sys.cascId ≠ 0) :
    (s.bootFinish vhold state).sys.power = s.sys.power ∧ (s.bootFinish vhold state).sys.darkLeft = 1 ∧
      (s.bootFinish vhold state).guy = { s.guy with gateOpen := true } := by
  obtain ⟨hguy, -, hdark, hid, hpower⟩ := bootSettle_frame s vhold state
  have hm : (s.bootSettle vhold state).isSlave = true := by simp [State.isSlave, hid, h]
  have hx : s.bootFinish vhold state = s.bootSettle vhold state := by simp [State.bootFinish, hm]
  rw [hx]
  exact ⟨hpower, hdark, hguy⟩

theorem exec_firstStroke_of_ready {s : State} {vhold : Nat} (hp : s.sys.power = .waitVhold) (hd : s.sys.darkLeft = 0)
    (hv : 4500 ≤ vhold) : exec (.firstStroke vhold) s = .next (s.bootFinish vhold 1) := by
  simp [exec, execFirstStroke, hp, hd, hv]

theorem exec_vholdTimeout_of_absent {s : State} {vhold : Nat} (hp : s.sys.power = .waitVhold) (hd : s.sys.darkLeft = 0)
    (hv : vhold < 4500) : exec (.vholdTimeout vhold) s = .next ((s.bootFinish vhold 2).offer 1 0 [2] [24, 2]) := by
  simp [exec, execVholdTimeout, hp, hd, hv]

/-- Settles O13: the stroke that boot opens, by the device's place in the cascade and by how VHOLD was found. -/
theorem firstStrokeOpens : Obligations.FirstStrokeOpens := by
  unfold Obligations.FirstStrokeOpens
  refine fun s vhold hp hd => ⟨fun hv => ⟨fun hm => ⟨_, exec_firstStroke_of_ready hp hd hv, ?master⟩,
    fun hm => ⟨_, exec_firstStroke_of_ready hp hd hv, ?slave⟩⟩, fun hv hm => ⟨_, exec_vholdTimeout_of_absent hp hd hv, ?absent⟩⟩
  case master => exact bootFinish_of_master s vhold 1 hm
  case slave =>
    obtain ⟨hpower, hdark, hguy⟩ := bootFinish_of_slave s vhold 1 hm
    exact ⟨hpower.trans hp, hdark, hguy⟩
  case absent =>
    obtain ⟨hpower, hphase, hstroke, -, hvhold, hguy⟩ := bootFinish_of_master s vhold 2 hm
    rw [offer_sys, offer_guy, offer_gq]
    exact ⟨hpower, hphase, hstroke, hvhold, hguy, _, List.mem_append_right _ List.mem_cons_self, rfl, rfl, rfl⟩

/-! ## Core resets (R80-R85, R90) -/

theorem exec_watchdog_of_due {s : State} (hp : s.sys.power = .running) (hg : s.sys.phase = .gather) (ha : s.sys.wdArmed = true)
    (hc : s.num 0x120014 ≤ s.sys.wdCount) : exec .watchdog s = .next (s.strike 4 ⟨s.boot, s.sys.stroke - 1⟩) := by
  simp [exec, execWatchdog, hp, hg, ha, hc]

theorem exec_coreFault_of_on {s : State} (hp : s.sys.power = .running ∨ s.sys.power = .dark) (tagged : Bool) :
    exec (.coreFault tagged) s = .next ((if tagged then s else s.cutGroup s.openPages).strike 6 s.stamp) := by
  simp [exec, execCoreFault, hp]

/-- The fourth reset without a full stroke, or a slot whose digest differs, holds the core (R85, R471). -/
theorem exec_coreReset_of_held {s : State} (hp : s.sys.power = .dark) (hr : s.sys.resetReq ≠ none)
    (h : 4 ≤ s.sys.coreResets + 1 ∨ s.coreCleared.slotDigest s.img.bootB ≠ s.img.digest) :
    exec .coreReset s = .next s.coreCleared.holdCore := by
  have h' : 4 ≤ s.coreCleared.sys.coreResets ∨ s.coreCleared.slotDigest s.coreCleared.img.bootB ≠ s.coreCleared.img.digest := h
  simp [exec, execCoreReset, hp, hr, h']

/-- The state the sequence of a core reset ends in, one boundary before the first full stroke (R83, R90). -/
def State.coreRestored (s : State) : State := ((s.coreCleared.settleRestore false sparedObj).readRegions.riseAgain).adopt

theorem exec_coreReset_of_restored {s : State} (hp : s.sys.power = .dark) (hr : s.sys.resetReq ≠ none)
    (hn : s.sys.coreResets + 1 < 4) (hd : s.coreCleared.slotDigest s.img.bootB = s.img.digest) :
    exec .coreReset s = .next { s.coreRestored with sys := { s.coreRestored.sys with darkLeft := 1 } } := by
  have h' : ¬ (4 ≤ s.coreCleared.sys.coreResets ∨
      s.coreCleared.slotDigest s.coreCleared.img.bootB ≠ s.coreCleared.img.digest) := by
    rintro (h | h)
    · exact Nat.not_le.2 hn h
    · exact h hd
  simp [exec, execCoreReset, hp, hr, h', State.coreRestored]

/-- Adoption leaves the latch's fields and opens its gate (R90). -/
theorem coreRestored_guy (s : State) : s.coreRestored.guy = { s.guy with gateOpen := true } := by
  simp [State.coreRestored, State.adopt]

/-- Settles O14: the strikes of watchdog and core fault, what a strike does, and the two ends of the sequence. -/
theorem coreResets : Obligations.CoreResets := by
  unfold Obligations.CoreResets
  refine ⟨fun s => exec_watchdog_of_due, fun s hp => exec_coreFault_of_on hp true, fun s hp => exec_coreFault_of_on hp false,
    fun s cause m => ⟨rfl, rfl, rfl, rfl, rfl, rfl⟩, fun s hp hr => ⟨fun h => ⟨_, exec_coreReset_of_held hp hr h, ?held⟩,
      fun hn hd => ⟨_, exec_coreReset_of_restored hp hr hn hd, ?restored⟩⟩⟩
  case held => exact ⟨rfl, coreCleared_guy s, rfl, rfl⟩
  case restored => exact ⟨rfl, coreRestored_guy s, rfl⟩

/-! ## The latch's copies, and Feed's latch-off (R88, R89, R326) -/

/-- The majority stands in all three copies of both fields (R88). -/
def State.agreed (s : State) : State := { s with guy := { s.guy with released := Tri.all s.released, feedEn := Tri.all s.feedEn } }

theorem sameLatch_agreed (s : State) : SameLatch s s.agreed := ⟨Tri.maj_all _, Tri.maj_all _⟩

theorem exec_guyLatchUpset_of_on {s : State} (h0 : s.sys.power ≠ .aoReset) (h1 : s.sys.power ≠ .factoryHold) (fld copy : Nat) :
    exec (.guyLatchUpset fld copy) s = .next (s.agreed.offer 1 0 [BitVec.ofNat 8 fld, BitVec.ofNat 8 copy] [30]) := by
  simp [exec, execGuyLatchUpset, h0, h1, State.agreed]

/-- A latch cleared by Feed's latch-off: both fields, the cause and its stamp, and the record of the change (R89, R326). -/
def State.latchedOut (s : State) : State :=
  (s.setLatch false false 4).later ((s.setLatch false false 4).recLatch ((s.setLatch false false 4).latchByte 0) 4)

theorem exec_feedLatchOffClear_of_latched {s : State} (hf : s.feed.state = 9) (hb : s.released = true ∨ s.feedEn = true) :
    exec .feedLatchOffClear s = .next (s.latchedOut.offer 1 0 (beBytes 1 4 ++ beBytes 1 (b2n s.released)) [9, b2n s.released]) := by
  simp [exec, execFeedLatchOffClear, hf, hb, State.latchedOut]

theorem latchedOut_guy (s : State) : s.latchedOut.guy = ⟨Tri.all false, Tri.all false, s.guy.gateOpen⟩ := rfl

/-- GUY_LATCH_CAUSE and the stamp of the change (R89). -/
theorem latchedOut_cause (s : State) : s.latchedOut.num 0x12000C = 4 ∧ s.latchedOut.raw 0x12000D = stampBytes s.stamp := by
  have hraw (k : Nat) : s.latchedOut.raw k = (s.setLatch false false 4).raw k := rfl
  unfold State.num
  simp only [hraw]
  unfold State.setLatch
  dsimp only
  refine ⟨?_, raw_setRaw _ _ _⟩
  rw [raw_setRaw_ne _ _ _ _ (by decide), State.setNum, raw_setRaw, beNat_beBytes]
  decide

/-- Settles O15: both commands deposit their item on the state they wrote, and a deposit leaves the latch and the Ledger. -/
theorem guyLatchUpsetAndLatchOff : Obligations.GuyLatchUpsetAndLatchOff := by
  unfold Obligations.GuyLatchUpsetAndLatchOff
  refine ⟨fun s fld copy h0 h1 => ⟨_, exec_guyLatchUpset_of_on h0 h1 fld copy, ?upset⟩,
    fun s hf hb => ⟨_, exec_feedLatchOffClear_of_latched hf hb, ?latchOff⟩⟩
  case upset =>
    obtain ⟨hr, he⟩ := (sameLatch_agreed s).trans (sameLatch_of_guy (offer_guy _ 1 0 _ [30]))
    have ho := congrArg (fun t : State => { t with guy := s.guy })
      (onlyOffers_offer s.agreed 1 0 [BitVec.ofNat 8 fld, BitVec.ofNat 8 copy] [30])
    exact ⟨offer_guy _ _ _ _ _, hr, he, offered_offer s.agreed 1 0 _ _, ho⟩
  case latchOff =>
    obtain ⟨hcause, hstamp⟩ := latchedOut_cause s
    obtain ⟨hr, he⟩ := sameLatch_of_guy (offer_guy s.latchedOut 1 0 (beBytes 1 4 ++ beBytes 1 (b2n s.released)) [9, b2n s.released])
    have ho := congrArg (fun t : State => { t with guy := s.guy, objs := s.objs, folio := s.folio })
      (onlyOffers_offer s.latchedOut 1 0 (beBytes 1 4 ++ beBytes 1 (b2n s.released)) [9, b2n s.released])
    refine ⟨hr, he, by rw [offer_guy, latchedOut_guy], ?_, ?_, offered_offer s.latchedOut 1 0 _ _, ho⟩
    · simpa only [State.num, State.raw, offer_objs] using hcause
    · simpa only [State.raw, offer_objs] using hstamp

end Sys2Proof.Machine
end

section
/-!
PROOFS. LatchLegal: RELEASED stands only with FEED_EN, after reset and after every step (R88).
-/

namespace Sys2Proof.Machine

/-! ## What keeps the latch legal (R26, R88) -/

/-- Both bits stand as they were, or RELEASED is clear. -/
abbrev KeepsOrLocks (s t : State) : Prop := SameLatch s t ∨ t.released = false

theorem SameLatch.latchLegal {s t : State} (h : SameLatch s t) (hs : s.latchLegal) : t.latchLegal := by
  obtain ⟨hr, hf⟩ := h
  rw [State.latchLegal, hr, hf]
  exact hs

theorem KeepsOrLocks.latchLegal {s t : State} (h : KeepsOrLocks s t) (hs : s.latchLegal) : t.latchLegal := by
  obtain h | h := h
  · exact h.latchLegal hs
  · intro ht
    rw [h] at ht
    exact absurd ht Bool.false_ne_true

/-- The operations of a stroke never leave RELEASED without FEED_EN (R88). -/
theorem latchAfter_legal (r f : Bool) (ops : List LatchOp) (h : r = true → f = true) :
    (latchAfter r f ops).1 = true → (latchAfter r f ops).2 = true := by
  unfold latchAfter
  dsimp only
  split
  · exact id
  · split
    · exact h
    · next hn =>
      dsimp only
      intro hr
      rw [hr, Bool.true_and, Bool.not_eq_true', Bool.not_eq_false] at hn
      exact hn

theorem latchNow_latchLegal (s : State) (ops : List LatchOp) (hs : s.latchLegal) : (s.latchNow ops).latchLegal := by
  have set (r f : Bool) (c : Nat) (h : r = true → f = true) : (s.setLatch r f c).latchLegal := by
    obtain ⟨hr, hf⟩ := setLatch_bits s r f c
    rwa [State.latchLegal, hr, hf]
  unfold State.latchNow
  extract_lets r f want s1
  split
  · exact hs
  · split
    · exact set false false 4 nofun
    · split
      · exact set false false 3 nofun
      · exact set want.1 want.2 _ (latchAfter_legal r f ops hs)

/-! ## The boundary (R44, R66) -/

theorem endStroke_latchLegal (s : State) (ref : Nat) (ilim : Bool) (hs : s.latchLegal) : (s.endStroke ref ilim).latchLegal := by
  by_cases hc : s.sys.phase = .commit
  · have hw : ((s.feedBoundary ref ilim).watch).latchLegal := (sameLatch_of_guy (by simp)).latchLegal hs
    have he := (endStroke_guy_of_commit ref ilim hc).trans (commitNow_guy _)
    exact (sameLatch_of_guy he).latchLegal (latchNow_latchLegal _ _ hw)
  · exact (sameLatch_of_guy (endStroke_guy_of_not_commit ref ilim hc)).latchLegal hs

theorem execStrokeBoundary_latchLegal (s : State) (ref : Nat) (ilim : Bool) (hs : s.latchLegal) :
    ((execStrokeBoundary ref ilim s).state s).latchLegal := by
  unfold execStrokeBoundary
  split
  case h_1 => exact (sameLatch_runBoundary s ref ilim).latchLegal (endStroke_latchLegal s ref ilim hs)
  case h_5 => exact hs
  all_goals exact (sameLatch_of_guy (darkBoundary_guy s ref ilim)).latchLegal hs

/-! ## Every other command (R76-R90) -/

theorem keepsOrLocks_powerDown (s : State) (cause : Nat) (cut : Option Nat) : KeepsOrLocks s (s.powerDown cause cut) := by
  obtain ⟨-, hguy, -⟩ := aoReset_powerDown s cause cut
  exact .inr (by rw [State.released, hguy]; rfl)

theorem execFirstStroke_sameLatch (vhold : Nat) (s : State) : SameLatch s ((execFirstStroke vhold s).state s) := by
  unfold execFirstStroke
  split
  · exact sameLatch_bootFinish s vhold 1
  · exact ⟨rfl, rfl⟩

theorem execVholdTimeout_sameLatch (vhold : Nat) (s : State) : SameLatch s ((execVholdTimeout vhold s).state s) := by
  unfold execVholdTimeout
  split
  · exact (sameLatch_bootFinish s vhold 2).trans (sameLatch_of_guy (offer_guy _ 1 0 [2] [24, 2]))
  · exact ⟨rfl, rfl⟩

theorem execWatchdog_sameLatch (s : State) : SameLatch s ((execWatchdog s).state s) := by
  unfold execWatchdog
  split
  · exact sameLatch_strike s 4 _
  · exact ⟨rfl, rfl⟩

theorem execCoreFault_sameLatch (tagged : Bool) (s : State) : SameLatch s ((execCoreFault tagged s).state s) := by
  unfold execCoreFault
  split
  · have h : (if tagged then s else s.cutGroup s.openPages).guy = s.guy := by split <;> simp
    exact (sameLatch_of_guy h).trans (sameLatch_strike _ 6 s.stamp)
  · exact ⟨rfl, rfl⟩

theorem execCoreReset_sameLatch (s : State) : SameLatch s ((execCoreReset s).state s) := by
  unfold execCoreReset
  dsimp only
  (repeat' split)
  · exact ⟨rfl, rfl⟩
  · exact sameLatch_of_guy (coreCleared_guy s)
  · have h : (Out.state (.next s.coreRestored) s).guy = { s.guy with gateOpen := true } := coreRestored_guy s
    exact ⟨congrArg (·.released.maj) h, congrArg (·.feedEn.maj) h⟩

theorem execGuyLatchUpset_sameLatch (fld copy : Nat) (s : State) : SameLatch s ((execGuyLatchUpset fld copy s).state s) := by
  unfold execGuyLatchUpset
  split
  · exact ⟨rfl, rfl⟩
  · exact (sameLatch_agreed s).trans (sameLatch_of_guy (offer_guy s.agreed 1 0 _ _))

theorem keepsOrLocks_execFeedLatchOffClear (s : State) : KeepsOrLocks s ((execFeedLatchOffClear s).state s) := by
  unfold execFeedLatchOffClear
  split
  · exact .inr (by simp [State.released])
  · exact .inl ⟨rfl, rfl⟩

/-- Besides STROKE_BOUNDARY no command changes a bit but by locking the latch. -/
theorem exec_keepsOrLocks (c : Instr) (s : State) (hc : ∀ ref ilim, c ≠ .strokeBoundary ref ilim) :
    KeepsOrLocks s (Out.state (exec c s) s) := by
  cases c with
  | strokeBoundary ref ilim => exact absurd rfl (hc ref ilim)
  | powerOnReset => exact .inr rfl
  | vdd3BrownOut | regulatorFailure => exact keepsOrLocks_powerDown s _ _
  | aoBrownOut => exact keepsOrLocks_powerDown s 2 none
  | resetN => exact keepsOrLocks_powerDown s 3 none
  | firstStroke => exact .inl (execFirstStroke_sameLatch _ s)
  | vholdTimeout => exact .inl (execVholdTimeout_sameLatch _ s)
  | watchdog => exact .inl (execWatchdog_sameLatch s)
  | coreFault => exact .inl (execCoreFault_sameLatch _ s)
  | coreReset => exact .inl (execCoreReset_sameLatch s)
  | guyLatchUpset => exact .inl (execGuyLatchUpset_sameLatch _ _ s)
  | feedLatchOffClear => exact keepsOrLocks_execFeedLatchOffClear s
  | domainEnable | subsystemReset | standbyRequest | tenantEnable | granuleOwnerChange | keyLoad | keyErase | lfChannelClear
    | startRequest | learnRecord | learnRecordClear | csAuth | csTokenAuth | protectionSeal | commissionStart | feedFaultClear
    | ignitionOff | ridgeIsolate | ridgeRequest | ridgeGuardClear | canRecover | poleRelay | folioAck | folioNote =>
    exact .inl (sameLatch_of_guy (execWrite_guy _ _ _ s))
  | keyLoadProtected | lockoutClear | learnStart | debugUnlock | poleRelayProtected | imageActivate | ringQuota =>
    exact .inl (sameLatch_of_guy (execCountersigned_guy _ _ s))
  | _ => exact .inl (sameLatch_of_guy (by simp [exec]))

/-! ## Every step (R88, log entry 11) -/

theorem exec_latchLegal (c : Instr) (s : State) (hs : s.latchLegal) : (Out.state (exec c s) s).latchLegal := by
  by_cases hc : ∃ ref ilim, c = .strokeBoundary ref ilim
  · obtain ⟨ref, ilim, rfl⟩ := hc
    exact execStrokeBoundary_latchLegal s ref ilim hs
  · exact (exec_keepsOrLocks c s fun ref ilim e => hc ⟨ref, ilim, e⟩).latchLegal hs

/-- Settles O3: an idle step changes nothing, and the front command keeps the latch legal. -/
theorem latchLegalKept : Obligations.LatchLegalKept := by
  unfold Obligations.LatchLegalKept
  intro s t hs h
  cases hq : s.pending with
  | nil =>
    rw [step_nil s hq] at h
    cases h
    exact hs
  | cons c rest =>
    rw [step_cons s c rest hq] at h
    have hk := exec_latchLegal c { s with pending := rest } hs
    rwa [h, Out.state_next] at hk

/-- Settles O4: reset leaves RELEASED clear. -/
theorem latchLegalAtReset : Obligations.LatchLegalAtReset := by
  unfold Obligations.LatchLegalAtReset
  have hr : State.reset.released = false := rfl
  exact fun h => absurd (hr.symm.trans h) Bool.false_ne_true

end Sys2Proof.Machine
end

section
/-!
PROOFS. SupplyAndStandby: supply supervision, the clock window and the PLL, and standby with its wake (R33, R48, R91-R97, R440).
-/

namespace Sys2Proof.Machine

/-! ## Supply supervision (R95-R97) -/

theorem exec_brownOutWarning_of_first {s : State} (hs : s.supervised = true) (hw : s.sys.warnSince = none) :
    exec .brownOutWarning s =
      .next (State.offer { s with sys := { s.sys with warnSince := some s.sys.stroke } } 1 0 [1] [21]) := by
  simp [exec, execBrownOutWarning, hs, hw]

theorem exec_brownOutWarningEnd_of_warned {s : State} {n : Nat} (hw : s.sys.warnSince = some n) :
    exec .brownOutWarningEnd s = .next (State.offer { s with sys := { s.sys with warnSince := none } } 1 0
      (beBytes 1 0 ++ beBytes 6 (s.sys.stroke - n)) [22]) := by
  simp [exec, execBrownOutWarningEnd, hw]

/-- A bank's fault that begins sets its bit, turns the bank off, and deposits one driver-fault item (R97). -/
theorem vlfFault_of_new {s : State} {bank bit : Nat} (hs : s.supervised = true) (hb : s.sys.vlfState.testBit bit = false) :
    ∃ v aux, s.vlfFault bank bit = State.offer { s with sys := { s.sys with
      vlfState := setBit s.sys.vlfState bit true, vlfWait := setBit s.sys.vlfWait bank true } } 7 (32 * s.sys.cascId + 4 * bank) v aux := by
  unfold State.vlfFault
  rw [hs, hb]
  exact ⟨_, _, rfl⟩

theorem exec_blotterEstimate_of_on {s : State} (hp : s.sys.power = .waitVhold ∨ s.sys.power = .running) (uf : Nat) :
    exec (.blotterEstimate uf) s = .next (State.offer { s with sys := { s.sys with blotterUf := min uf 1000 } } 1 0
      (beBytes 2 (min uf 1000)) [27, min uf 1000]) := by
  simp [exec, execBlotterEstimate, hp]

/-! ## The clock window and the PLL (R33, R48) -/

theorem exec_clockCheckWindow_of_whole {s : State} (hp : s.sys.power = .running) (hn : s.sys.stroke % 1024 = 0)
    (hg : s.sys.phase = .gather) (hw : s.sys.windowLast = true) (count : Nat) :
    exec (.clockCheckWindow count) s = .next (State.offer { s with sys := { s.sys with windowLast := false } } 1 0 (beBytes 4 count)
      [20, count, s.sys.stroke - 1024]) := by
  simp [exec, execClockCheckWindow, hp, hn, hg, hw]

theorem exec_pllLossOfLock_of_locked {s : State} (hl : s.sys.pllSince = none) (hp : s.sys.power ≠ .aoReset) :
    exec .pllLossOfLock s =
      .next (State.offer { s with sys := { s.sys with pllSince := some s.sys.stroke } } 1 0 [6] [28, s.sys.stroke]) := by
  simp [exec, execPllLossOfLock, hl, hp]

theorem exec_pllRelock_of_lost {s : State} {first : Nat} (hl : s.sys.pllSince = some first) :
    exec .pllRelock s = .next (State.offer { s with sys := { s.sys with
      pllSince := none, spans := s.sys.spans ++ [(⟨6, first, s.sys.stroke + 1⟩ : Span)] } } 1 0 [7] [29, first, s.sys.stroke + 1]) := by
  simp [exec, execPllRelock, hl]

/-- Settles O12, command by command. -/
theorem supplyAndClock : Obligations.SupplyAndClock := by
  unfold Obligations.SupplyAndClock
  exact ⟨⟨fun s => exec_brownOutWarning_of_first, fun s n => exec_brownOutWarningEnd_of_warned,
      fun s bank hs hb => ⟨_, rfl, vlfFault_of_new hs hb⟩, fun s bank hs hb => ⟨_, rfl, vlfFault_of_new hs hb⟩, fun s bank => rfl,
      fun s uf hp => exec_blotterEstimate_of_on hp uf⟩,
    fun s count hp hn hg hw => exec_clockCheckWindow_of_whole hp hn hg hw count, fun s => exec_pllLossOfLock_of_locked,
    fun s first => exec_pllRelock_of_lost⟩

/-! ## Standby entered (R91, R440) -/

/-- A device that has no slaves to ask enters standby at its own Commit (R91). -/
theorem opStandby_of_alone {s : State} (hb : s.standbyBlocked = false) (hu : (if s.isMaster && s.poleUp then s.admitted else []) = [])
    (r : Requester) : s.opStandby r = .ok [.standby] := by
  simp only [State.opStandby, hb, hu, Bool.false_eq_true, if_false, if_true]

theorem exec_standbyIdle_of_idle {s : State} (hw : s.working = true) (hn : s.num 0x12000A ≠ 0)
    (hi : s.secStrokes (s.num 0x12000A) ≤ s.sys.idleStrokes) (he : s.effects.contains .standby = false)
    (hb : s.standbyBlocked = false) (hm : (s.isMaster && s.poleUp) = false) :
    exec .standbyIdle s = .next (s.stage (plainUnit 0x0E000000 [.standby] [])) := by
  have hx : (s.working && s.num 0x12000A != 0 && decide (s.secStrokes (s.num 0x12000A) ≤ s.sys.idleStrokes) &&
      !s.effects.contains .standby) = true := by
    rw [hw, he]
    simp [hn, hi]
  simp only [exec, execStandbyIdle, hx, opStandby_of_alone hb (if_neg (Bool.not_eq_true _ ▸ hm)) firmware, OpResult.ok, if_true]

/-! ## Wake (R92, R93) -/

theorem foldl_rise (l : List Nat) (s : State) : ∃ y : Sys, l.foldl State.rise s = { s with sys := y } ∧
    y.power = s.sys.power ∧ y.waking = s.sys.waking := by
  induction l generalizing s with
  | nil => exact ⟨s.sys, rfl, rfl, rfl⟩
  | cons n l ih => exact ih (s.rise n)

/-- A wake source that is enabled is remembered, and gathered in the first full stroke (R92, R93). -/
theorem wake_completes {s : State} {source : Nat} (hp : s.sys.power = .standby) (hw : s.sys.waking = none) (h1 : 1 ≤ source)
    (h5 : source ≤ 5) (hm : (s.num 0x120008).testBit (source - 1) = true) :
    Completes (.wake source) s fun t => t.sys.waking = some source ∧ t.sys.power = .standby ∧ Offered s t 1 0 [BitVec.ofNat 8 source] := by
  have hc : s.sys.power = .standby ∧ s.sys.waking = none ∧ 1 ≤ source ∧ source ≤ 5 ∧ (s.num 0x120008).testBit (source - 1) = true :=
    ⟨hp, hw, h1, h5, hm⟩
  obtain ⟨y, hy, hpow, hwak⟩ := foldl_rise (powerOrder.filter fun n => (s.num 0x120004).testBit n && !(s.bivouac && (n == 8 || n == 9)))
    { s with sys := { s.sys with waking := some source, domains := 0x17 } }
  simp only [Completes, exec, execWake, if_pos hc, hy]
  refine ⟨_, rfl, ?_⟩
  split
  · exact ⟨by simpa using hwak, by simpa using hpow.trans hp, offered_offer _ 1 0 _ _⟩
  · exact ⟨by simpa using hwak, by simpa using hpow.trans hp, offered_offer _ 1 0 _ _⟩

/-! ## Standby in a cascade (R440) -/

theorem exec_standbyFrame_of_free {s : State} (hs : s.served = true) (hb : (s.standbyBlocked || s.effects.contains .standby) = false) :
    exec .standbyFrame s = .next (((s.repeated ⟨10, s.sys.cascId, false, s.masterStroke, []⟩).sendUp 0x45 (beBytes 1 stOK)).stage
      (plainUnit 0x0A000000 [.standby] [])) := by
  simp only [exec, execStandbyFrame, hs, hb, Bool.not_true, Bool.false_eq_true, if_false]

theorem exec_standbyFrame_of_blocked {s : State} (hs : s.served = true)
    (hb : (s.standbyBlocked || s.effects.contains .standby) = true) :
    exec .standbyFrame s = .next ((s.repeated ⟨10, s.sys.cascId, false, s.masterStroke, []⟩).sendUp 0x45 (beBytes 1 stBUSY)) := by
  simp only [exec, execStandbyFrame, hs, hb, Bool.not_true, Bool.false_eq_true, if_false, if_true]

section StandbyReply

variable {s : State} {source : Nat} {x : Requester × Nat × Bytes} (hu : s.poleUp = true) (hs : s.isSlave = false)
  (hx : s.pole.standby = some x) (hm : s.isMaster = true) (ha : s.admitted.contains source = true)
include hu hs hx hm ha

/-- The first BUSY ends a master's request (R440). -/
theorem exec_standbyReply_of_busy {status : Nat} (hb : status ≠ stOK) :
    exec (.standbyReply source status) s = .next (s.standbyOff x.1) := by
  simp only [exec, execStandbyReply, hu, hs, hx, hm, ha, hb, Bool.and_self, Bool.not_true, Bool.false_eq_true, if_false, ne_eq,
    not_false_eq_true, if_true]

/-- The last OK takes the master to standby at its next Commit (R440). -/
theorem exec_standbyReply_of_last
    (hl : (s.setSlave source fun r => { r with standby := some stOK }).admitted.all
      (fun n => ((s.setSlave source fun r => { r with standby := some stOK }).slaveRec n).standby == some stOK) = true) :
    exec (.standbyReply source stOK) s = .next ((s.setSlave source fun r => { r with standby := some stOK }).stage
      (plainUnit 0x0A000000 [.respond x.1 false stOK x.2.2, .poleStandby none, .standby] [])) := by
  simp only [exec, execStandbyReply, hu, hs, hx, hm, ha, hl, Bool.and_self, Bool.not_true, Bool.false_eq_true, if_false, ne_eq,
    not_true_eq_false, if_true]

end StandbyReply

theorem exec_standbyReplyTimeout_of_overdue {s : State} {x : Requester × Nat × Bytes} (hx : s.pole.standby = some x)
    (hu : s.poleUp = true) (ho : x.2.1 + 4 < s.sys.stroke)
    (ha : s.admitted.any (fun n => (s.slaveRec n).standby.isNone) = true) :
    exec .standbyReplyTimeout s = .next (s.standbyOff x.1) := by
  simp only [exec, execStandbyReplyTimeout, hx, hu, ho, ha, decide_true, Bool.and_self, if_true]

/-- Settles O16: the idle device, the wake, the slave's two answers, and the ends of a master's request. -/
theorem standbyAndWake : Obligations.StandbyAndWake := by
  unfold Obligations.StandbyAndWake
  refine ⟨fun s => exec_standbyIdle_of_idle, fun s source => wake_completes,
    fun s hs => ⟨exec_standbyFrame_of_free hs, exec_standbyFrame_of_blocked hs⟩,
    fun s source status x hu hs hx hm ha => ⟨exec_standbyReply_of_busy hu hs hx hm ha, ?last⟩,
    fun s x => exec_standbyReplyTimeout_of_overdue⟩
  case last =>
    rintro rfl hl
    exact exec_standbyReply_of_last hu hs hx hm ha hl

end Sys2Proof.Machine
end

section
/-!
PROOFS. SystemWrites: what one unit stages for an accepted write of a system object (R74, R86, R91, R109, R147, R150, R153, R440).
-/

namespace Sys2Proof.Machine

/-! ## A write that is let through or refused (R101-R107) -/

/-- The object is written as it stands: neither read-only nor countersigned, no ring quota, and no object whose clamp draws a value. -/
def plainlyWritten (k : Nat) : Bool :=
  decide (k < 2 ^ 24) && k != 0x481004 && k / 256 != 0x6A00 && (objDef k).any fun d => d.acc != .ro && d.acc != .rwc

theorem plainlyWritten_iff {k : Nat} : plainlyWritten k = true ↔ k < 2 ^ 24 ∧ k ≠ 0x481004 ∧ k / 256 ≠ 0x6A00 ∧
    ∃ d, objDef k = some d ∧ d.acc ≠ .ro ∧ d.acc ≠ .rwc := by
  simp [plainlyWritten, Option.any_eq_true, and_assoc]

section
variable {s : State} {r : Requester} {k : Nat} {v : Bytes} (h : s.takes r k v) (hk : plainlyWritten k = true)
include h hk

/-- A write of plain effects answered OK stages them with its records and its response. -/
theorem stages_of_opWrite_ok {c : Instr} {o : OpResult} (hx : exec c s = execWrite r k v s) (ho : s.opWrite r k v = (o, s))
    (hok : o.status = stOK) (he : plainEffects o.effs = true) :
    Stages c s fun u => (∀ e ∈ o.effs, u.carries e) ∧ u.recs = o.recs ∧ u.answers r stOK := by
  obtain ⟨h0, h3, hq, d, hd, h1, h2⟩ := plainlyWritten_iff.1 hk
  obtain ⟨u, hu, hc, hr, -, -, ha⟩ := stages_write s r k v d o hx h h0 hd h1 h2 h3 hq ho (.inl hok) he
  exact ⟨u, hu, hc, hr, hok ▸ ha⟩

/-- An entry whose operation is refused, but not with DENIED, adds its refusal to the run and nothing else. -/
theorem runEntries_of_refused {st : Nat} (ho : s.opWrite r k v = (.refuse st, s)) (hr : isRefusal st = true) (hd : st ≠ stDENIED) :
    s.runEntries r false false 0 [⟨true, k, v⟩] = ⟨s, [], [], [], [], [⟨st, k, []⟩]⟩ := by
  obtain ⟨-, h3, -, d, hdef, h1, h2⟩ := plainlyWritten_iff.1 hk
  obtain ⟨-, -, -, -, hm, hb, hs, d', hd', hc⟩ := h
  rw [hdef] at hd'
  cases hd'
  have hw : s.writeOrdinary r k v [] = (.refuse st, [], s) := by
    have hst : ¬ ((OpResult.refuse st).status = stDENIED ∧ (k = 0x381001 ∨ k = 0x381002 ∨ k = 0x680004)) := fun hx => hd hx.1
    have hrf : isRefusal (OpResult.refuse st).status = true := hr
    simp only [State.writeOrdinary, hs, applied, ho, hrf, hst, List.getLast?_nil, Option.map_none, Option.getD_none,
      Bool.false_eq_true, if_false, if_true]
  have he : s.writeEntry r false k v = (.refuse st, [], s) := by
    have h2' : (d.acc == .rwc) = false := by simpa using h2
    simp only [State.writeEntry, hdef, h1, hm, hb, h2, h2', h3, hc, hw, if_false, false_and, Bool.not_true, Bool.or_false,
      Bool.false_and, Bool.false_eq_true]
  have hrun : TxnRun.entry ⟨s, [], [], [], [], []⟩ r false false ⟨true, k, v⟩ = ⟨s, [], [], [], [], [⟨st, k, []⟩]⟩ := by
    simp [TxnRun.entry, he, OpResult.refuse, hr]
  unfold State.runEntries
  rw [List.foldl_cons, List.foldl_nil, hrun]
  exact regrant_of_refused _ s r 0 _ (by simp [hr])

/-- A write that is let through fits its response buffer and runs as a transaction of that one entry (R107, R146). -/
theorem writeNow_eq_transact : ∃ body, s.writeNow r k v =
    (s.transact (requestItem r [⟨true, k, v⟩]).key r false body [⟨true, k, v⟩]).getD (s.cancelItem (requestItem r [⟨true, k, v⟩])) := by
  obtain ⟨h0, -⟩ := plainlyWritten_iff.1 hk
  obtain ⟨-, hr, hroom, hv, -⟩ := h
  obtain ⟨body, hp⟩ := parse_item r k v h0 hv
  refine ⟨body, ?_⟩
  simp only [State.writeNow, List.take_of_length_le hv, State.ledgerUnit, hp, requester_item r k v hr, if_true]
  cases hvia : r.via with
  | ring page ring pos gen addr cap =>
    simp only [Nat.not_lt.2 (hroom _ _ _ _ _ _ hvia), decide_false]
    cases s.transact _ _ _ _ _ <;> rfl
  | _ => cases s.transact _ _ _ _ _ <;> rfl

/-- A write whose operation is answered BUSY stages that response alone. -/
theorem execWrite_of_busy (ho : s.opWrite r k v = (.refuse stBUSY, s)) :
    ∃ u m, execWrite r k v s = .next (s.stage u) ∧ u.effs = [.respond r false stBUSY m] := by
  have hrun := runEntries_of_refused h hk ho (by decide) (by decide)
  obtain ⟨body, hnow⟩ := writeNow_eq_transact h hk
  obtain ⟨hw, -⟩ := h
  obtain ⟨-, -, -, d, hdef, -, h2⟩ := plainlyWritten_iff.1 hk
  have hprot : [(⟨true, k, v⟩ : LEntry)].any LEntry.protected = false := by simpa [LEntry.protected, hdef] using h2
  have htr := transact_ordinary s (requestItem r [⟨true, k, v⟩]).key r false body [⟨true, k, v⟩] hprot (by rw [hrun]; rfl)
  rw [hrun] at htr
  have hx : execWrite r k v s = .next (Option.getD (some _) _) :=
    (if_pos hw).trans (congrArg Host.Outcome.next (hnow.trans (congrArg (Option.getD · _) htr)))
  exact ⟨_, _, hx, settle_plain r stBUSY _ [] rfl⟩

end

/-! ## DOMAIN_ENABLE, SUBSYSTEM_RESET (R74, R86) -/

section
variable {s : State} {r : Requester} {v : Bytes}

theorem domainEnable_stages (h : s.takes r 0x120004 v) : Stages (.domainEnable r v) s fun u =>
    u.carries (.obj 0x120004 v) ∧ u.carries (.domains (beNat v)) ∧ u.answers r stOK ∧
      u.recs = if s.num 0x120004 = beNat v then [] else [s.recObj 3 0x120004 r.cls r.idx v] := by
  obtain ⟨u, hu, hc, hr, ha⟩ := stages_of_opWrite_ok h (by decide) (c := .domainEnable r v) rfl
    (o := s.opDomainEnable r v) rfl rfl rfl
  exact ⟨u, hu, hc _ (by simp [State.opDomainEnable, OpResult.ok]), hc _ (by simp [State.opDomainEnable, OpResult.ok]), ha, hr⟩

theorem subsystemReset_stages (h : s.takes r 0x120006 v) (hv : beNat v ≠ 0) (hf : beNat v = 8 → s.feedEn = false) :
    Stages (.subsystemReset r v) s fun u => u.carries (.subsystem (beNat v)) ∧ u.answers r stOK := by
  have hop : s.opSubsystemReset v = .ok [.subsystem (beNat v)] := by
    have hn : ¬ (beNat v = 8 ∧ s.feedEn = true) := fun ⟨h8, ht⟩ => by simp [hf h8] at ht
    simp only [State.opSubsystemReset, hv, hn, if_false]
  obtain ⟨u, hu, hc, -, ha⟩ := stages_of_opWrite_ok h (by decide) (c := .subsystemReset r v) rfl
    (o := .ok [.subsystem (beNat v)]) (congrArg (·, s) hop) rfl rfl
  exact ⟨u, hu, hc _ List.mem_cons_self, ha⟩

/-- Feed's reset waits for FEED_EN to fall (R86). -/
theorem subsystemReset_of_feedEn (h : s.takes r 0x120006 v) (hv : beNat v = 8) (hf : s.feedEn = true) :
    Completes (.subsystemReset r v) s fun t => ∃ u, t.staged = s.staged ++ [u] ∧ u.answers r stBUSY ∧
      ∀ n, ¬ u.carries (.subsystem n) := by
  have hop : s.opSubsystemReset v = .refuse stBUSY := by simp [State.opSubsystemReset, hv, hf]
  obtain ⟨u, m, hx, he⟩ := execWrite_of_busy h (by decide) (congrArg (·, s) hop)
  refine ⟨_, hx, u, rfl, ⟨m, by simp [he]⟩, fun n hn => ?_⟩
  rw [Staged.carries, he] at hn
  simp at hn

/-! ## STANDBY_REQUEST (R91, R440) -/

theorem standbyRequest_of_alone (h : s.takes r 0x120007 v) (hv : beNat v = 1) (hb : s.standbyBlocked = false)
    (hu : (if s.isMaster && s.poleUp then s.admitted else []) = []) :
    Stages (.standbyRequest r v) s fun u => u.carries .standby ∧ u.answers r stOK := by
  have hop : s.opStandbyRequest r v = .ok [.standby] := by
    rw [State.opStandbyRequest, if_pos hv, opStandby_of_alone hb hu]
  obtain ⟨u, hu, hc, -, ha⟩ := stages_of_opWrite_ok h (by decide) (c := .standbyRequest r v) rfl
    (o := .ok [.standby]) (congrArg (·, s) hop) rfl rfl
  exact ⟨u, hu, hc _ List.mem_cons_self, ha⟩

/-- The STANDBY frames that ask a master's slaves (R440). -/
def State.standbyFrames (s : State) : List Effect :=
  (if s.isMaster && s.poleUp then s.admitted else []).map fun n => .poleSend ⟨10, n, false, s.sys.stroke + 1, []⟩

theorem opStandby_of_slaves (hb : s.standbyBlocked = false) (hu : (if s.isMaster && s.poleUp then s.admitted else []) ≠ []) :
    s.opStandby r = .ok (.poleStandby (some (r, s.sys.stroke, [])) :: s.standbyFrames) := by
  simp only [State.opStandby, hb, hu, State.standbyFrames, Bool.false_eq_true, if_false]

/-- Frames to the slaves stand as they are while the request takes its response with it (R440). -/
theorem settleResponse_of_asked (st : Nat) (m : Bytes) :
    settleResponse r st m (.poleStandby (some (r, s.sys.stroke, [])) :: s.standbyFrames) =
      .poleStandby (some (r, s.sys.stroke, m)) :: s.standbyFrames := by
  unfold settleResponse State.standbyFrames
  simp

/-- A master with slaves asks each of them, and its response waits for their answers (R440). -/
theorem standbyRequest_of_slaves (h : s.takes r 0x120007 v) (hv : beNat v = 1) (hb : s.standbyBlocked = false) {n : Nat}
    (hn : n ∈ (if s.isMaster && s.poleUp then s.admitted else [])) :
    Stages (.standbyRequest r v) s fun u => u.carries (.poleSend ⟨10, n, false, s.sys.stroke + 1, []⟩) ∧
      (∃ m, u.carries (.poleStandby (some (r, s.sys.stroke, m)))) ∧ ∀ st, ¬ u.answers r st := by
  have hop : s.opStandbyRequest r v = .ok (.poleStandby (some (r, s.sys.stroke, [])) :: s.standbyFrames) := by
    rw [State.opStandbyRequest, if_pos hv, opStandby_of_slaves hb (List.ne_nil_of_mem hn)]
  obtain ⟨h0, h3, hq, d, hd, h1, h2⟩ := plainlyWritten_iff.1 (show plainlyWritten 0x120007 = true by decide)
  obtain ⟨u, m, hx, he, -⟩ := execWrite_takes s r 0x120007 v d _ s h h0 hd h1 h2 h3 hq (congrArg (·, s) hop) rfl rfl
  rw [OpResult.ok, settleResponse_of_asked] at he
  refine ⟨u, hx, ?_, ⟨m, ?_⟩, ?_⟩
  · rw [Staged.carries, he]
    exact List.mem_cons_of_mem _ (List.mem_map.2 ⟨n, hn, rfl⟩)
  · rw [Staged.carries, he]
    exact List.mem_cons_self
  · rintro st ⟨msg, hm⟩
    rw [he] at hm
    simp [State.standbyFrames] at hm

/-! ## TENANT_ENABLE, GRANULE_OWNER (R147, R150, R153) -/

theorem hostGuard_of_class (hr : r.cls = 0 ∨ r.cls = 4) (x : OpResult) : hostGuard r x = x := if_pos hr

/-- A tenant whose bit clears is reset (R150, R153). -/
theorem tenantEnable_stages (h : s.takes r 0x3A0001 v) : Stages (.tenantEnable r v) s fun u =>
    u.carries (.obj 0x3A0001 v) ∧ u.answers r stOK ∧
      ∀ n, n < 64 → s.tenantOn n = true → (beNat v).testBit n = false → u.carries (.tenantReset n true) := by
  have hr : r.cls = 0 ∨ r.cls = 4 := by
    obtain ⟨-, -, -, -, -, hb, -⟩ := h
    simpa [classBarred, or_iff_not_imp_left] using hb
  obtain ⟨u, hu, hc, -, ha⟩ := stages_of_opWrite_ok h (by decide) (c := .tenantEnable r v) rfl
    (congrArg (·, s) (hostGuard_of_class hr _)) rfl (by simp [OpResult.ok, plainEffects])
  refine ⟨u, hu, hc _ List.mem_cons_self, ha, fun n hn hon hoff => hc _ (List.mem_cons_of_mem _ ?_)⟩
  exact List.mem_map.2 ⟨n, List.mem_filter.2 ⟨List.mem_range.2 hn, by simp [hon, hoff]⟩, rfl⟩

/-- A granule's owner is one of the 96 objects of its index (R147). -/
theorem plainlyWritten_granuleOwner (g : Nat) (hg : g < 96) : plainlyWritten (0x3A1201 + g) = true := by
  revert g
  decide +kernel

theorem opWrite_granuleOwner (g : Nat) (hg : g < 96) : s.opWrite r (0x3A1201 + g) v = (s.opGranuleOwner r g v, s) := by
  have hi : (0x3A1201 + g) / 256 = 0x3A12 := by omega
  have hsub : (0x3A1201 + g) % 256 - 1 = g := by omega
  unfold State.opWrite
  simp only [hi, hsub]

/-- A granule whose owner changes is cleared (R147). -/
theorem granuleOwnerChange_stages (n : Nat) (h : s.takes r (0x3A1201 + n % 96) v) : Stages (.granuleOwnerChange r n v) s fun u =>
    u.carries (.obj (0x3A1201 + n % 96) v) ∧ u.answers r stOK ∧
      (beNat v ≠ s.granuleOwner (n % 96) → u.carries (.granule (n % 96))) := by
  have hg : n % 96 < 96 := Nat.mod_lt _ (by decide)
  have hr : r.cls = 0 ∨ r.cls = 4 := by
    obtain ⟨-, -, -, -, -, hb, -⟩ := h
    have hi : (0x3A1201 + n % 96) / 256 = 0x3A12 := by omega
    have hne : 0x3A1201 + n % 96 ≠ 0x680004 := by omega
    simpa [classBarred, hi, hne, or_iff_not_imp_left] using hb
  obtain ⟨u, hu, hc, -, ha⟩ := stages_of_opWrite_ok h (plainlyWritten_granuleOwner _ hg) (c := .granuleOwnerChange r n v) rfl
    ((opWrite_granuleOwner _ hg).trans (congrArg (·, s) (hostGuard_of_class hr _))) rfl
    (by simp only [OpResult.ok]; split <;> rfl)
  refine ⟨u, hu, hc _ List.mem_cons_self, ha, fun hne => hc _ (List.mem_cons_of_mem _ ?_)⟩
  simp [hne]

end

/-- Settles O22, object by object. -/
theorem writesOfTheSystem : Obligations.WritesOfTheSystem := by
  unfold Obligations.WritesOfTheSystem
  exact fun s r v => ⟨domainEnable_stages, fun h => ⟨subsystemReset_stages h, subsystemReset_of_feedEn h⟩,
    fun h hv hb => ⟨standbyRequest_of_alone h hv hb, fun n hn => standbyRequest_of_slaves h hv hb hn⟩, tenantEnable_stages,
    granuleOwnerChange_stages⟩

end Sys2Proof.Machine
end

section
/-!
PROOFS. ExchangeDecision: at its due stroke one unit decides an exchange, by the judgement of R274 (R84, R274, R275, R296).
-/

namespace Sys2Proof.Machine

/-! ## The unit that decides (R274, R275) -/

theorem exec_decision_of_due {s : State} {x : Exchange} {due : Nat} (hw : s.working = true) (hx : s.exchangeNow = some x)
    (hd : x.due = some due) (ho : due ≤ s.sys.stroke) : exec .decision s = .next (s.decideNow x) := by
  have hb : due.ble s.sys.stroke = true := Nat.ble_eq_true_of_le ho
  simp only [exec, execDecision, hx, hd, hw, hb, Bool.and_self, if_true]

/-- An exchange of no start, or of one whose entry is open, is decided as it stands (R26, R342). -/
theorem orphaned_of_open {s : State} {x : Exchange} (h : ∀ p, x.pos = some p → (s.inflightAt p).isOpen = true) : s.orphaned x = x := by
  unfold State.orphaned
  split
  next p hp => rw [if_pos (h p hp)]
  · rfl

theorem decideNow_of_entry {s : State} {x : Exchange} (hc : x.config ≠ []) (hk : x.kind ≠ 4)
    (h : ∀ p, x.pos = some p → (s.inflightAt p).isOpen = true) : s.decideNow x = s.stage (s.decideUnit x) := by
  simp only [State.decideNow, hc, hk, if_false, orphaned_of_open h]

/-- The access event of a judgement: entry or start with its zone where it grants, a refusal otherwise (R275). -/
def State.decidedEvent (s : State) (x : Exchange) : Bytes :=
  if (s.judge x).reason = 0 then accessEvent (if x.kind = 1 then 1 else 2) (s.judge x).zone x.origin else accessEvent 3 0 x.origin

/-- The unit is a grant exactly where the judgement finds no reason against it (R274). -/
theorem decideUnit_need (s : State) (x : Exchange) : (s.decideUnit x).need = .grant ↔ (s.judge x).reason = 0 := by
  by_cases h : (s.judge x).reason = 0 <;> simp [State.decideUnit, h]

theorem decideUnit_ends (s : State) (x : Exchange) : (s.decideUnit x).carries (.exchange none) := by
  simp [Staged.carries, State.decideUnit]

/-- Whatever the outcome, the unit stores its access event and publishes it (R275). -/
theorem decideUnit_publishes (s : State) (x : Exchange) :
    (s.decideUnit x).carries (.obj 0x2C0101 (s.decidedEvent x)) ∧ (s.decideUnit x).carries (.event [0x2C0101] 7) := by
  by_cases h : (s.judge x).reason = 0 <;> simp [Staged.carries, State.decideUnit, State.decidedEvent, h]

/-- A grant raises the failure base to the failures counted so far (R279). -/
theorem decideUnit_raises_base {s : State} {x : Exchange} (h : (s.judge x).reason = 0) :
    .tally 4 (s.tally 3) ∈ (s.decideUnit x).cells := by
  simp [State.decideUnit, h]

/-- A start's entry moves on to phase 1 by a grant, and closes REFUSED otherwise (R274, R340). -/
theorem decideUnit_entry (s : State) (x : Exchange) {p : Nat} (hp : x.pos = some p) :
    ((s.judge x).reason = 0 → (s.decideUnit x).carries (.inflight p (s.phased (s.inflightAt p) 1))) ∧
      ((s.judge x).reason ≠ 0 → (s.decideUnit x).carries (.inflight p (s.closed (s.inflightAt p) 6 stDENIED))) := by
  constructor <;> intro h <;> simp [Staged.carries, State.decideUnit, hp, h]

/-! ## The decision -/

/-- Settles O42: by what the exchange still has of its configuration, by its kind, and by its entry. -/
theorem exchangeDecided : Obligations.ExchangeDecided := by
  unfold Obligations.ExchangeDecided
  intro s x due hw hx hd ho
  have hrun := exec_decision_of_due hw hx hd ho
  refine ⟨fun hc hk hp => ⟨s.decideUnit x, ?noEntry, ?unit⟩, fun p hc hk hp hi => ⟨s.decideUnit x, ?entry, decideUnit_entry s x hp⟩,
    fun hc => ?lost, fun hc hk => ?countersign⟩
  case noEntry => rw [hrun, decideNow_of_entry hc hk fun p h => by simp [hp] at h]
  case unit =>
    obtain ⟨hobj, hevent⟩ := decideUnit_publishes s x
    exact ⟨decideUnit_ends s x, decideUnit_need s x, hevent, hobj, decideUnit_raises_base⟩
  case entry =>
    rw [hrun, decideNow_of_entry hc hk]
    intro q hq
    rw [hp] at hq
    cases hq
    exact hi
  case lost =>
    rw [hrun, State.decideNow, if_pos hc]
    rfl
  case countersign => rw [hrun, State.decideNow, if_neg hc, if_pos hk]

end Sys2Proof.Machine
end

section
/-!
PROOFS. RequestMessages: a request spelled out as a message reads back, entry by entry, and its item names its requester (R100,
R116-R119, R121).
-/

namespace Sys2Proof.Machine

/-! ## Entries as bytes (R118) -/

/-- An entry as a request's body spells it: OP, object, length and value (R118). -/
def LEntry.spelt (e : LEntry) : Bytes :=
  beBytes 1 (if e.write then 2 else 1) ++ beBytes 3 e.key ++ beBytes 1 e.val.length ++ e.val

theorem requestItem_val (r : Requester) (es : List LEntry) :
    (requestItem r es).val = ledgerMsg 1 0 r.tag es.length 0 (es.flatMap LEntry.spelt) := rfl

@[simp] theorem LEntry.spelt_length (e : LEntry) : e.spelt.length = 5 + e.val.length := by
  simp [LEntry.spelt]
  omega

theorem flatMap_spelt_length (es : List LEntry) :
    (es.flatMap LEntry.spelt).length = (es.map fun e => 5 + e.val.length).sum := by
  simp [List.length_flatMap]

theorem byteAt_ofNat_cons (n : Nat) (b : Bytes) : byteAt (BitVec.ofNat 8 n :: b) 0 = n % 256 := rfl

/-- The fields of the entry at the front of a body: OP, length, object, value, and what follows it. -/
theorem LEntry.spelt_append_fields (e : LEntry) (rest : Bytes) (hk : e.key < 2 ^ 24) (hv : e.val.length < 256) :
    byteAt (e.spelt ++ rest) 0 = (if e.write then 2 else 1) ∧ byteAt (e.spelt ++ rest) 4 = e.val.length ∧
    beNat (slice (e.spelt ++ rest) 1 3) = e.key ∧ slice (e.spelt ++ rest) 5 e.val.length = e.val ∧
    (e.spelt ++ rest).drop (5 + e.val.length) = rest := by
  have hcons : e.spelt ++ rest =
      BitVec.ofNat 8 (if e.write then 2 else 1) :: (beBytes 3 e.key ++ (BitVec.ofNat 8 e.val.length :: (e.val ++ rest))) := by
    simp [LEntry.spelt, beBytes]
  refine ⟨?op, ?len, ?key, ?val, List.drop_left' e.spelt_length⟩
  case op => rw [hcons, byteAt_ofNat_cons]; split <;> rfl
  case len => rw [hcons]; exact (byteAt_ofNat_cons e.val.length (e.val ++ rest)).trans (Nat.mod_eq_of_lt hv)
  case key =>
    have hs : slice (e.spelt ++ rest) 1 3 = beBytes 3 e.key := by rw [hcons]; rfl
    rw [hs, beNat_beBytes]
    exact Nat.mod_eq_of_lt hk
  case val => rw [hcons]; exact List.take_left

/-- The first entry of a body is read, then the rest of the body. -/
theorem entriesOf_spelt_append (n : Nat) (e : LEntry) (rest : Bytes) (hk : e.key < 2 ^ 24) (hv : e.val.length < 256) :
    entriesOf (n + 1) (e.spelt ++ rest) = (entriesOf n rest).map (e :: ·) := by
  obtain ⟨hop, hlen, hkey, hval, hrest⟩ := e.spelt_append_fields rest hk hv
  have hne : e.spelt ++ rest ≠ [] := List.ne_nil_of_length_pos (by simp)
  have hop' : (if e.write then 2 else 1) = 1 ∨ (if e.write then 2 else 1) = 2 := by cases e.write <;> simp
  have hwhole : ¬ ((e.spelt ++ rest).length < 5 + e.val.length ∨
      (if e.write then 2 else 1) ≠ 1 ∧ (if e.write then 2 else 1) ≠ 2) := by
    rw [List.length_append, e.spelt_length]
    omega
  have hwrite : ((if e.write then 2 else 1) == 2) = e.write := by cases e.write <;> rfl
  rw [entriesOf, if_neg hne]
  simp only [hop, hlen, hkey, hval, hrest, if_neg hwhole, hwrite]

/-- A body spelled out from entries reads as those entries (R118). -/
theorem entriesOf_flatMap_spelt (es : List LEntry) (n : Nat) (hn : es.length ≤ n)
    (he : ∀ e ∈ es, e.key < 2 ^ 24 ∧ e.val.length < 256) : entriesOf n (es.flatMap LEntry.spelt) = some es := by
  induction es generalizing n with
  | nil => cases n <;> simp [entriesOf]
  | cons e es ih =>
    obtain ⟨m, rfl⟩ : ∃ m, n = m + 1 := ⟨n - 1, by simp at hn; omega⟩
    obtain ⟨⟨hk, hv⟩, hes⟩ := List.forall_mem_cons.1 he
    rw [List.flatMap_cons, entriesOf_spelt_append m e _ hk hv, ih m (Nat.le_of_succ_le_succ hn) hes]
    rfl

/-! ## The message and its requester (R100, R116, R119) -/

/-- The TAG stands in the header of a message, whatever its body and count (R116). -/
theorem ledgerMsg_tag (type status tag count echo : Nat) (body : Bytes) :
    slice (ledgerMsg type status tag count echo body) 2 2 = beBytes 2 tag := by
  rw [ledgerMsg_eq]
  simp [slice, msgHead, beBytes]

/-- The item of a request names its requester, whatever the entries (R100, R121). -/
theorem requester_requestItem (r : Requester) (es : List LEntry) (h : Known r) : (requestItem r es).requester = r := by
  have htag : slice (requestItem r es).val 2 2 = slice (requestItem r [⟨true, 0, []⟩]).val 2 2 := by
    rw [requestItem_val, requestItem_val, ledgerMsg_tag, ledgerMsg_tag]
  calc (requestItem r es).requester
      = (requestItem r [⟨true, 0, []⟩]).requester := by rw [Item.requester, htag]; rfl
    _ = r := requester_item r 0 [] h

/-- Settles O30: the entries by induction on the body, the requester by its item. -/
theorem requestReadsBack : Obligations.RequestReadsBack := by
  unfold Obligations.RequestReadsBack
  intro r es hr hne hlen he hsum
  have hbody := flatMap_spelt_length es
  refine ⟨⟨es.flatMap LEntry.spelt, ?_, hbody⟩, requester_requestItem r es hr⟩
  rw [requestItem_val]
  exact parse_ledgerMsg r.tag es.length _ es (hbody ▸ hsum) (List.length_pos_of_ne_nil hne) hlen
    (entriesOf_flatMap_spelt es 64 hlen he) rfl

end Sys2Proof.Machine
end

section
/-!
PROOFS. LedgerMessageUnits: what becomes of a gathered Ledger message, of a deferred transaction and of a reassembly that is not
completed (R107, R109, R119, R121).
-/

namespace Sys2Proof.Machine

/-! ## The unit of a gathered message (R107, R119, R146) -/

section
variable (s : State) (key : Nat) {i : Item}

theorem ledgerUnit_of_discard (h : parseRequest i.val = .discard) : s.ledgerUnit key i [] = s.countObj 0x730004 1 := by
  simp [State.ledgerUnit, h]

theorem ledgerUnit_of_ignored (h : parseRequest i.val = .ignored) : s.ledgerUnit key i [] = s := by
  simp [State.ledgerUnit, h]

theorem ledgerUnit_of_malformed (h : parseRequest i.val = .malformed) : s.ledgerUnit key i [] = s.stage (plainUnit key
    [.respond i.requester false stDENIED (response 2 stDENIED i.requester.tag false [])] []) := by
  simp [State.ledgerUnit, h]

/-- A request whose longest response fits the buffer of its descriptor, if it came by one, runs as a transaction (R107, R146). -/
theorem ledgerUnit_of_request {echo : Bool} {body : Bytes} {es : List LEntry} (h : parseRequest i.val = .request echo body es)
    (hfit : ∀ page ring pos gen addr cap, i.requester.via = .ring page ring pos gen addr cap → longestResponse echo es ≤ cap) :
    s.ledgerUnit key i [] = (s.transact key i.requester echo body es).getD (s.cancelItem i) := by
  simp only [State.ledgerUnit, h, if_true]
  cases hvia : i.requester.via with
  | ring page ring pos gen addr cap =>
    simp only [Nat.not_lt.2 (hfit _ _ _ _ _ _ hvia), decide_false]
    cases s.transact key i.requester echo body es <;> rfl
  | _ => cases s.transact key i.requester echo body es <;> rfl

end

/-! ## Deferred transactions and reassemblies (R109, R121) -/

/-- A deferred transaction leads the units of the stroke (R109). -/
theorem exec_transactionDeferred {s : State} {u : Staged} {rest : List Staged} (hw : s.working = true) (hd : s.deferred = u :: rest) :
    exec .transactionDeferred s = .next { s with deferred := rest, staged := { u with key := 0 } :: s.staged } := by
  simp [exec, execTransactionDeferred, hd, hw]

/-- Counting through 0x7300.05 raises shadow counter 5 (R121, R178). -/
theorem countObj_reassemblies (s : State) : s.countObj 0x730005 1 = s.countUp 5 1 := by
  have h : shadowOf 0x730005 = some 5 := by decide +kernel
  simp [State.countObj, h]

theorem shadow_countUp (s : State) (n k : Nat) : (s.countUp n k).shadow n = (s.shadow n + k) % 2 ^ 32 := by
  simp [State.shadow, State.countUp, alookup_ainsert]

/-- A reassembly 20 strokes old is dropped and counted (R121). -/
theorem segmentReassemblyTimeout_completes {s : State} {r : Reasm} (hr : s.reasm = [r]) (ht : r.first + 20 ≤ s.sys.stroke) :
    Completes (.segmentReassemblyTimeout r.src) s fun t => t.reasm = [] ∧ t.shadow 5 = (s.shadow 5 + 1) % 2 ^ 32 := by
  have hx : exec (.segmentReassemblyTimeout r.src) s = .next { s.countUp 5 1 with reasm := [] } := by
    simp [exec, execSegmentReassemblyTimeout, State.dropReasm, countObj_reassemblies, hr, ht]
  exact ⟨_, hx, rfl, shadow_countUp s 5 1⟩

/-- Settles O21, by what the first gathered message is. -/
theorem ledgerMessages : Obligations.LedgerMessages := by
  unfold Obligations.LedgerMessages
  refine ⟨fun s i hw hi => ?_, fun s u rest => exec_transactionDeferred, ?_⟩
  · rw [exec_ledgerTransaction s i hw hi]
    exact ⟨fun h => congrArg Host.Outcome.next (ledgerUnit_of_discard _ _ h),
      fun h => congrArg Host.Outcome.next (ledgerUnit_of_ignored _ _ h),
      fun h => congrArg Host.Outcome.next (ledgerUnit_of_malformed _ _ h),
      fun echo body es h hfit => congrArg Host.Outcome.next (ledgerUnit_of_request _ _ h hfit)⟩
  · rintro s src r hr rfl ht
    exact segmentReassemblyTimeout_completes hr ht

end Sys2Proof.Machine
end

section
/-!
PROOFS. SignedWriteUnits: what one unit stages where a countersigned write is applied: its own in-flight entry opened and closed DONE, the
operation, the response (R110, R152, R191, R282, R298, R301, R441, R473).
-/

namespace Sys2Proof.Machine

/-! ## The state in which a countersigned write runs (R110, R112) -/

/-- The in-flight entry that an applied protected change opens (R110). -/
abbrev State.signedEntry (s : State) (r : Requester) : Inflight := s.newEntry 3 Config.proposalPhases 0 0 r

/-- That entry closed DONE with its change applied (R110, R112). -/
abbrev State.signedDone (s : State) (r : Requester) : Inflight :=
  s.closed { s.signedEntry r with phase := Config.proposalPhases } 2 stOK

/-- The state in which a countersigned write of `k` runs: its own in-flight entry is opened at `pos` (R110). -/
def State.applying (s : State) (r : Requester) (k : Nat) (v : Bytes) (pos : Nat) : State :=
  s.stage (plainUnit (requestItem r [⟨true, k, v⟩]).key [.inflight pos (s.signedEntry r)] [])

section
variable (s : State) (r : Requester) (k : Nat) (v : Bytes) (pos : Nat)

theorem applying_effects : (s.applying r k v pos).effects = s.effects ++ [.inflight pos (s.signedEntry r)] :=
  State.stage_effects _ _

/-- The new entry stands at its position, and the others as they were. -/
theorem applying_inflightAt (q : Nat) :
    (s.applying r k v pos).inflightAt q = if pos = q then s.signedEntry r else s.inflightAt q := by
  simp only [State.inflightAt, applying_effects, List.foldl_append, List.foldl_cons, List.foldl_nil]
  rfl

/-- An operation of another type has no open entry because of the new one. -/
theorem applying_openEntry {op : Nat} (h3 : op ≠ 3) (h : s.openEntry op = none) : (s.applying r k v pos).openEntry op = none := by
  simp only [State.openEntry, List.find?_eq_none, List.mem_map, applying_inflightAt] at h ⊢
  rintro x ⟨q, hq, rfl⟩
  dsimp only
  split
  · simp [State.newEntry, Ne.symm h3]
  · exact h _ ⟨q, hq, rfl⟩

end

/-- The position that a new operation takes depends on the entries alone (R114). -/
theorem inflightSlot_congr {s t : State} (h : ∀ q, s.inflightAt q = t.inflightAt q) : s.inflightSlot = t.inflightSlot := by
  have h' : s.inflightAt = t.inflightAt := funext h
  unfold State.inflightSlot
  rw [h']

/-- Only the effects of a unit bear on the position that a new operation takes. -/
theorem applying_inflightSlot (s : State) (r : Requester) (k : Nat) (v : Bytes) (pos : Nat) :
    (s.applying r k v pos).inflightSlot = (s.stage (plainUnit 0 [.inflight pos (s.signedEntry r)] [])).inflightSlot := by
  refine inflightSlot_congr fun q => ?_
  simp only [State.inflightAt, applying_effects, State.stage_effects]
  rfl

/-! ## A countersigned write of one object (R104, R106, R110) -/

theorem StagesSigned.imp {c : Instr} {s : State} {r : Requester} {pos : Nat} {P Q : Staged → Prop} (h : StagesSigned c s r pos P)
    (hpq : ∀ u, P u → Q u) : StagesSigned c s r pos Q := by
  obtain ⟨u, hx, hp, hopen, hclose⟩ := h
  exact ⟨u, hx, hpq u hp, hopen, hclose⟩

/-- The object is countersigned and no ring quota, which brings a re-grant besides. -/
def signedPlainly (k : Nat) : Bool := k / 256 != 0x6A00 && (objDef k).any fun d => d.acc == .rwc

/-- A countersigned write let through stages its operation's effects and cells and its response, behind its own entry. -/
theorem stagesSigned_of_opWrite {c : Instr} {s : State} {r : Requester} {k pos : Nat} {v : Bytes} (h : s.takesSigned r k v pos)
    (hk : signedPlainly k = true) (hx : exec c s = execCountersigned r [(k, v)] s) {o : OpResult}
    (ho : (s.applying r k v pos).opWrite r k v = (o, s.applying r k v pos)) (hst : o.status = stOK ∨ o.status = stPENDING)
    (he : plainEffects o.effs = true) :
    StagesSigned c s r pos fun u => (∀ e ∈ o.effs, u.carries e) ∧ u.cells = o.cells ∧ u.answers r o.status := by
  have hk' : k / 256 ≠ 0x6A00 ∧ ∃ d, objDef k = some d ∧ d.acc = .rwc := by
    simpa [signedPlainly, Option.any_eq_true] using hk
  obtain ⟨hq, d, hd, hacc⟩ := hk'
  refine (stages_signed s r k v d o pos _ hx h rfl hd hacc hq ho hst he rfl rfl rfl).imp fun u hu => ?_
  obtain ⟨heffs, hcells, -, hans⟩ := hu
  exact ⟨heffs, hcells, hans⟩

section
variable {s : State} {r : Requester} {v : Bytes} {pos p : Nat}

/-! ## LOCKOUT_CLEAR, DEBUG_UNLOCK (R282, R298) -/

theorem lockoutClear_stages (h : s.takesSigned r 0x340005 v pos) (hv : beNat v = 1) :
    StagesSigned (.lockoutClear r v) s r pos fun u => u.carries (.lockWindow none) ∧ u.answers r stOK ∧
      u.cells = [.tally 6 (s.tally 5), .tally 2 (s.tally 1), .tally 4 (s.tally 3), .tally 7 (min (2 ^ 48 - 1) (s.tally 7 + 1))] := by
  have ho : (s.applying r 0x340005 v pos).opLockoutClear v = ⟨stOK, [.lockWindow none], [],
      [.tally 6 (s.tally 5), .tally 2 (s.tally 1), .tally 4 (s.tally 3), .tally 7 (min (2 ^ 48 - 1) (s.tally 7 + 1))], []⟩ := if_pos hv
  refine (stagesSigned_of_opWrite h (by decide) rfl (congrArg (·, s.applying r 0x340005 v pos) ho) (.inl rfl) rfl).imp fun u hu => ?_
  obtain ⟨heffs, hcells, hans⟩ := hu
  exact ⟨heffs _ List.mem_cons_self, hans, hcells⟩

theorem debugUnlock_stages (h : s.takesSigned r 0x680005 v pos) : StagesSigned (.debugUnlock r v) s r pos fun u =>
    u.carries (.obj 0x680005 v) ∧ u.answers r stOK ∧
      u.carries (.debugUntil (if beNat v = 0 then none else some (s.sys.stroke + 1 + s.secStrokes (beNat v)))) := by
  refine (stagesSigned_of_opWrite (o := s.opDebugUnlock v) h (by decide) rfl rfl (.inl rfl) rfl).imp fun u hu => ?_
  obtain ⟨heffs, -, hans⟩ := hu
  exact ⟨heffs _ List.mem_cons_self, hans, heffs _ (List.mem_cons_of_mem _ List.mem_cons_self)⟩

/-! ## LEARN_START (R301) -/

/-- A LEARN_START that no reason refuses starts the Learn in the entry that is free (R301). -/
theorem opLearnStart_of_legal {t : State} (hdig : slice v 0 32 = t.stagedDigest) (hep : beNat (slice v 32 4) = t.epoch % 2 ^ 32)
    (hrec : ∀ n, n < 64 → recWrong (t.num 0x380008 == 1) (t.imageRec n) = false) (hadm : t.imageAdmins ≤ 8)
    (hseal : t.isSealed = false ∨ 2 ≤ t.imageAdmins) (hl : t.learning = false) (hne : t.epoch % 2 ^ 32 ≠ 2 ^ 32 - 1)
    (hp : t.inflightSlot = some p) :
    ∃ (l : Learn) (reqs : List (Nat × Bytes)), t.opLearnStart r v = .start (.inflight p (t.newEntry 1 5 (t.epoch + 1) 0 r) ::
      .learn (some l) :: objN 0x301003 stPENDING :: reqs.map fun x => .quillQueue (unwrapRequest x.1 x.2)) ∧ l.pos = p := by
  have hrecs : (((List.range 64).map fun n => (n, t.imageRec n)).any fun x => recWrong (t.num 0x380008 == 1) x.2) = false := by
    simpa using hrec
  have hfew : (t.isSealed && decide (t.imageAdmins + ((List.range 4).filter fun q => t.isMember (0x40 + q)).length < 2)) = false := by
    rcases hseal with hs | ha
    · simp [hs]
    · simp only [Bool.and_eq_false_iff, decide_eq_false_iff_not]
      omega
  have hmany : decide (8 < t.imageAdmins) = false := by simpa using hadm
  unfold State.opLearnStart
  simp only [hrecs, hfew, hmany, hdig, hep, hl, hne, hp, bne_self_eq_false, Bool.or_self, Bool.false_eq_true, if_false,
    List.append_nil, ne_eq, not_true_eq_false, List.cons_append, List.nil_append]
  exact ⟨_, _, rfl, rfl⟩

theorem learnStart_stages (h : s.takesSigned r 0x301001 v pos) (hdig : slice v 0 32 = s.stagedDigest)
    (hep : beNat (slice v 32 4) = s.epoch % 2 ^ 32) (hrec : ∀ n, n < 64 → recWrong (s.num 0x380008 == 1) (s.imageRec n) = false)
    (hadm : s.imageAdmins ≤ 8) (hseal : s.isSealed = false ∨ 2 ≤ s.imageAdmins) (hl : s.learning = false)
    (hne : s.epoch % 2 ^ 32 ≠ 2 ^ 32 - 1) (hp : (s.stage (plainUnit 0 [.inflight pos (s.signedEntry r)] [])).inflightSlot = some p) :
    StagesSigned (.learnStart r v) s r pos fun u => u.carries (.inflight p (s.newEntry 1 5 (s.epoch + 1) 0 r)) ∧
      u.carries (objN 0x301003 stPENDING) ∧ u.answers r stPENDING ∧ ∃ l, u.carries (.learn (some l)) ∧ l.pos = p := by
  have hl' : (s.applying r 0x301001 v pos).learning = false := by
    have hn : s.openEntry 1 = none := by simpa [State.learning] using hl
    simp [State.learning, applying_openEntry s r 0x301001 v pos (by decide) hn]
  obtain ⟨l, reqs, ho, hpos⟩ := opLearnStart_of_legal (t := s.applying r 0x301001 v pos) (r := r) hdig hep hrec hadm hseal hl' hne
    ((applying_inflightSlot s r 0x301001 v pos).trans hp)
  refine (stagesSigned_of_opWrite h (by decide) rfl (congrArg (·, s.applying r 0x301001 v pos) ho) (.inr rfl)
    (by simp [OpResult.start, plainEffects, objN])).imp fun u hu => ?_
  obtain ⟨heffs, -, hans⟩ := hu
  exact ⟨heffs _ List.mem_cons_self, heffs _ (by simp [OpResult.start]), hans, l, heffs _ (by simp [OpResult.start]), hpos⟩

/-! ## POLE_RELAY_PROTECTED (R441) -/

/-- A relay to a slave that is ACTIVE and has no other relay open goes out (R441). -/
theorem opPoleRelay_of_free {t : State} {n : Nat} (prot : Nat) (hb : t.bivouac = false) (hu : t.slaveUp n = true)
    (hr : (t.slaveRec n).relay = none) (he : ∀ x, Effect.slaveRelay n (some x) ∉ t.effects) :
    t.opPoleRelay n prot v = .ok [.slaveRelay n (some (t.sys.stroke, beNat (slice v 2 2))),
      .poleSend ⟨11, n, false, t.sys.stroke + 1, beBytes 1 prot ++ padTo 240 v⟩] := by
  have hnone {f : Effect → Bool} (hf : ∀ e, f e = true → ∃ x, e = .slaveRelay n (some x)) : t.effects.any f = false := by
    rw [List.any_eq_false]
    intro e hmem hfe
    obtain ⟨x, rfl⟩ := hf e hfe
    exact he x hmem
  unfold State.opPoleRelay
  rw [hnone]
  · simp [hb, hu, hr]
  · intro e hfe
    split at hfe
    next m x =>
      obtain ⟨rfl, hx⟩ : m = n ∧ x.isSome = true := by simpa using hfe
      obtain ⟨y, rfl⟩ := Option.isSome_iff_exists.1 hx
      exact ⟨y, rfl⟩
    · exact absurd hfe Bool.false_ne_true

theorem signedPlainly_poleRelay (n : Nat) (h7 : n ≤ 7) (h1 : 1 ≤ n) : signedPlainly (0x601100 + n) = true := by
  revert n
  decide +kernel

theorem poleRelayProtected_stages (n : Nat) (h1 : 1 ≤ n) (h7 : n ≤ 7) (h : s.takesSigned r (0x601100 + n) v pos)
    (hb : s.bivouac = false) (hu : s.slaveUp n = true) (hr : (s.slaveRec n).relay = none)
    (he : ∀ x, Effect.slaveRelay n (some x) ∉ s.effects) : StagesSigned (.poleRelayProtected r n v) s r pos fun u =>
      u.carries (.slaveRelay n (some (s.sys.stroke, beNat (slice v 2 2)))) ∧ u.answers r stOK ∧
        u.carries (.poleSend ⟨11, n, false, s.sys.stroke + 1, beBytes 1 1 ++ padTo 240 v⟩) := by
  have hop := opPoleRelay_of_free (v := v) (t := s.applying r (0x601100 + n) v pos) 1 hb hu hr
    fun x => by simp [applying_effects, he x]
  have ho : (s.applying r (0x601100 + n) v pos).opWrite r (0x601100 + n) v =
      ((s.applying r (0x601100 + n) v pos).opPoleRelay n 1 v, s.applying r (0x601100 + n) v pos) := by
    have hi : (0x601100 + n) / 256 = 0x6011 := by omega
    have hsub : (0x601100 + n) % 256 = n := by omega
    unfold State.opWrite
    simp only [hi, hsub]
  have hx : exec (.poleRelayProtected r n v) s = execCountersigned r [(0x601100 + n, v)] s := by
    have hn : 1 + (n + 6) % 7 = n := by omega
    show execCountersigned r [(0x601100 + (1 + (n + 6) % 7), v)] s = _
    rw [hn]
  rw [hop] at ho
  refine (stagesSigned_of_opWrite h (signedPlainly_poleRelay n h7 h1) hx ho (.inl rfl) rfl).imp fun u hu => ?_
  obtain ⟨heffs, -, hans⟩ := hu
  exact ⟨heffs _ List.mem_cons_self, hans, heffs _ (List.mem_cons_of_mem _ List.mem_cons_self)⟩

/-! ## IMAGE_ACTIVATE (R473) -/

/-- An IMAGE_ACTIVATE that no reason refuses starts the activation in the entry that is free (R473). -/
theorem opImageActivate_of_legal {t : State} (hz : slice v 1 3 = zeros 3)
    (hg : ∀ i, i < 24 → byteAt v 0 + i < 96 ∧ t.granuleOwner (byteAt v 0 + i) = 64) (hd : t.domReady 3 = true)
    (hn : beNat (slice v 36 4) = t.tally 16 % 2 ^ 32) (ho : t.openEntry 4 = none) (hmax : t.tally 16 < 2 ^ 48 - 1)
    (hp : t.inflightSlot = some p) :
    t.opImageActivate r v = .start [.inflight p (t.newEntry 4 5 (t.tally 16 + 1) 0 r),
      .act (some ⟨p, byteAt v 0, slice v 4 32, t.tally 16, false, 0, 0⟩), .obj 0x102001 v] := by
  have howned : ((List.range 24).all fun i => decide (byteAt v 0 + i < 96) && t.granuleOwner (byteAt v 0 + i) == 64) = true := by
    simpa using hg
  have hmax' : ¬ 2 ^ 48 - 1 ≤ t.tally 16 := Nat.not_le.2 hmax
  unfold State.opImageActivate
  simp only [howned, hz, hd, hn, ho, hmax', hp, bne_self_eq_false, Bool.not_true, Bool.or_self, Option.isSome_none,
    Bool.false_eq_true, if_false, List.append_nil, ne_eq, not_true_eq_false]

theorem imageActivate_stages (h : s.takesSigned r 0x102001 v pos) (hz : slice v 1 3 = zeros 3)
    (hg : ∀ i, i < 24 → byteAt v 0 + i < 96 ∧ s.granuleOwner (byteAt v 0 + i) = 64) (hd : s.domReady 3 = true)
    (hn : beNat (slice v 36 4) = s.tally 16 % 2 ^ 32) (ho : s.openEntry 4 = none) (hmax : s.tally 16 < 2 ^ 48 - 1)
    (hp : (s.stage (plainUnit 0 [.inflight pos (s.signedEntry r)] [])).inflightSlot = some p) :
    StagesSigned (.imageActivate r v) s r pos fun u => u.carries (.inflight p (s.newEntry 4 5 (s.tally 16 + 1) 0 r)) ∧
      u.carries (.obj 0x102001 v) ∧ u.answers r stPENDING ∧
        u.carries (.act (some ⟨p, byteAt v 0, slice v 4 32, s.tally 16, false, 0, 0⟩)) := by
  have hop := opImageActivate_of_legal (t := s.applying r 0x102001 v pos) (r := r) hz hg hd hn
    (applying_openEntry s r 0x102001 v pos (by decide) ho) hmax ((applying_inflightSlot s r 0x102001 v pos).trans hp)
  refine (stagesSigned_of_opWrite h (by decide) rfl (congrArg (·, s.applying r 0x102001 v pos) hop) (.inr rfl) rfl).imp fun u hu => ?_
  obtain ⟨heffs, -, hans⟩ := hu
  exact ⟨heffs _ List.mem_cons_self, heffs _ (by simp [OpResult.start]), hans, heffs _ (List.mem_cons_of_mem _ List.mem_cons_self)⟩

end

/-! ## Ring quotas (R152) -/

/-- The unit of a countersigned write that has run: the run's, with the write's own entry opened and closed DONE (R110). -/
def TxnRun.signedUnit (t : TxnRun) (s : State) (r : Requester) (k : Nat) (v : Bytes) (pos : Nat) : Staged :=
  let u := t.unit (requestItem r [⟨true, k, v⟩]).key r false [⟨true, k, v⟩] [.inflight pos (s.signedDone r)] []
  { u with effs := .inflight pos (s.signedEntry r) :: u.effs }

/-- A countersigned write whose run leaves no result refused or clamped stages the run's effects and its response, behind its own
entry. -/
theorem stagesSigned_of_run {c : Instr} {s : State} {r : Requester} {k pos : Nat} {v : Bytes} {t : TxnRun} (hw : s.working = true)
    (hv : v.length ≤ 240) (hi : s.inflightSlot = some pos) (hx : exec c s = execCountersigned r [(k, v)] s)
    (hrun : (s.applying r k v pos).runEntries r true false 0 [⟨true, k, v⟩] = t) (hbad : t.bad = false) (hsys : t.s.sys = s.sys)
    (he : plainEffects t.effs = true) :
    StagesSigned c s r pos fun u => (∀ e ∈ t.effs, u.carries e) ∧ u.answers r (overall t.results) := by
  have hdrawn : s.drawn t = s := by rw [State.drawn, hsys]
  have hrun' : (s.stage (plainUnit (requestItem r [⟨true, k, v⟩]).key [.inflight pos (s.signedEntry r)] [])).runEntries r true false 0
      [⟨true, k, v⟩] = t := hrun
  have hap : s.applyProtected (requestItem r [⟨true, k, v⟩]).key r false [⟨true, k, v⟩] pos (s.signedEntry r) 0 [] =
      s.stage (t.signedUnit s r k v pos) := by
    unfold State.applyProtected
    simp only [hrun', hbad, hdrawn, Bool.false_eq_true, if_false]
    rfl
  have hexec : execCountersigned r [(k, v)] s = .next (s.stage (t.signedUnit s r k v pos)) := by
    unfold execCountersigned
    simp only [List.map_cons, List.map_nil, List.take_of_length_le hv, hw, hi, Bool.not_true, Bool.false_eq_true, if_false]
    exact congrArg Host.Outcome.next hap
  have heffs : (t.signedUnit s r k v pos).effs = .inflight pos (s.signedEntry r) :: (t.effs ++ [.inflight pos (s.signedDone r)] ++
      [.respond r false (overall t.results) (response 2 (overall t.results) r.tag false t.results)]) :=
    congrArg (_ :: ·) (settle_plain _ _ _ _ (by simpa [plainEffects] using he))
  have hopen : (t.signedUnit s r k v pos).carries (.inflight pos (s.signedEntry r)) := by simp [Staged.carries, heffs]
  have hdone : (t.signedUnit s r k v pos).carries (.inflight pos (s.signedDone r)) := by simp [Staged.carries, heffs]
  refine ⟨_, hx.trans hexec, ⟨fun e hmem => ?_, response 2 (overall t.results) r.tag false t.results, ?_⟩, hopen, hdone⟩
  · simp [Staged.carries, heffs, hmem]
  · simp [heffs]

/-- Every ring quota is countersigned (R152). -/
theorem objDef_quota (o : Nat) (h : o ≤ 64) : ∃ d, objDef (0x6A0001 + o) = some d ∧ d.acc = .rwc := by
  have hall : ∀ o ≤ 64, (objDef (0x6A0001 + o)).any (fun d => d.acc == .rwc) = true := by decide +kernel
  simpa [Option.any_eq_true] using hall o h

/-- A quota that changes brings a re-grant in the entry that is free (R152). -/
theorem opRegrant_of_moved {s : State} {r : Requester} {inst o p : Nat} {quota : Nat → Nat} (ho : o ≤ 64)
    (hq : quota o ≠ s.num (0x6A0001 + o)) (hp : s.inflightSlot = some p) :
    ∃ c, s.opRegrant r inst quota = .start [.inflight p (s.newEntry 8 2 inst 1 r), .regrantClose p c] := by
  have hmoved : (List.range 65).filter (fun o => quota o != s.num (0x6A0001 + o)) ≠ [] :=
    List.ne_nil_of_mem (List.mem_filter.2 ⟨List.mem_range.2 (by omega : o < 65), by simpa using hq⟩)
  unfold State.opRegrant
  simp only [hmoved, hp, if_false]
  exact ⟨_, rfl⟩

/-- What a quota write stages on the copy its transaction works on (R107). -/
def storedUnit (k : Nat) (v : Bytes) : Staged := ⟨0, .plain, [.obj k v], [], [], [], [], [], [], []⟩

/-- A stored value bears on no in-flight entry. -/
theorem inflightSlot_storedUnit (s : State) (k : Nat) (v : Bytes) : (s.stage (storedUnit k v)).inflightSlot = s.inflightSlot := by
  refine inflightSlot_congr fun q => ?_
  simp only [State.inflightAt, State.stage_effects, storedUnit, List.foldl_append, List.foldl_cons, List.foldl_nil]
  rfl

/-- A quota write that is let through is stored on that copy and answered OK as an entry. -/
theorem entry_quota {s : State} {r : Requester} {o : Nat} {v : Bytes} {recs : List NewRec} (ho : o ≤ 64)
    (hw : s.writeEntry r true (0x6A0001 + o) v = (⟨stOK, [.obj (0x6A0001 + o) v], recs, [], []⟩, v, s)) :
    TxnRun.entry ⟨s, [], [], [], [], []⟩ r true false ⟨true, 0x6A0001 + o, v⟩ =
      ⟨(s.setRaw (0x6A0001 + o) v).stage (storedUnit (0x6A0001 + o) v), [.obj (0x6A0001 + o) v], recs, [], [],
        [⟨stOK, 0x6A0001 + o, []⟩]⟩ := by
  obtain ⟨d, hd, hacc⟩ := objDef_quota o ho
  have hprot : LEntry.protected ⟨true, 0x6A0001 + o, v⟩ = true := by simp [LEntry.protected, hd, hacc]
  simp [TxnRun.entry, hw, hprot, State.privately, storedUnit, show isRefusal stOK = false by decide]

/-- The run of one quota write: the value, and the re-grant it brings, which makes its result PENDING (R111, R152). -/
theorem runEntries_quota {s : State} {r : Requester} {o p : Nat} {v : Bytes} {recs : List NewRec} (ho : o ≤ 64)
    (hw : s.writeEntry r true (0x6A0001 + o) v = (⟨stOK, [.obj (0x6A0001 + o) v], recs, [], []⟩, v, s))
    (hne : beNat v ≠ s.num (0x6A0001 + o)) (hp : s.inflightSlot = some p) :
    ∃ t c, s.runEntries r true false 0 [⟨true, 0x6A0001 + o, v⟩] = ⟨t, [.obj (0x6A0001 + o) v, .inflight p (s.newEntry 8 2 0 1 r),
      .regrantClose p c], recs, [], [], [⟨stPENDING, 0x6A0001 + o, []⟩]⟩ ∧ t.sys = s.sys := by
  let t := (s.setRaw (0x6A0001 + o) v).stage (storedUnit (0x6A0001 + o) v)
  have hnum : t.num (0x6A0001 + o) = beNat v := congrArg beNat (raw_setRaw s _ v)
  obtain ⟨c, hre⟩ := opRegrant_of_moved (s := { s with staged := t.staged }) (r := r) (inst := 0)
    (quota := fun n => t.num (0x6A0001 + n)) ho (hnum.trans_ne hne) ((inflightSlot_storedUnit s _ v).trans hp)
  refine ⟨t, c, ?_, rfl⟩
  have hidx : (0x6A0001 + o) / 256 = 0x6A00 := by omega
  unfold State.runEntries
  rw [List.foldl_cons, List.foldl_nil, entry_quota ho hw]
  simp only [TxnRun.regrant, t, hre]
  simp [hidx, LEntry.quota, OpResult.start, show isRefusal stOK = false by decide, show stPENDING ≠ stOK by decide]
  rfl

theorem ringQuota_stages {s : State} {r : Requester} {pos p : Nat} (o n : Nat) (ho : o ≤ 64) (hn : n < 256)
    (hne : n ≠ s.num (0x6A0001 + o)) (h : s.takesSigned r (0x6A0001 + o) (beBytes 1 n) pos)
    (hp : (s.stage (plainUnit 0 [.inflight pos (s.signedEntry r)] [])).inflightSlot = some p) :
    StagesSigned (.ringQuota r [(o, n)]) s r pos fun u => u.carries (.obj (0x6A0001 + o) (beBytes 1 n)) ∧ u.answers r stPENDING ∧
      u.carries (.inflight p (s.newEntry 8 2 0 1 r)) ∧ ∃ c, u.carries (.regrantClose p c) := by
  have hx : exec (.ringQuota r [(o, n)]) s = execCountersigned r [(0x6A0001 + o, beBytes 1 n)] s := by
    show execCountersigned r [(0x6A0001 + o % 65, beBytes 1 n)] s = _
    rw [Nat.mod_eq_of_lt (by omega)]
  obtain ⟨hw, -, hv, hi, hmask, hbar, hleg, hhold, d, hd, hclamp⟩ := h
  have hacc : d.acc = .rwc := by
    obtain ⟨d', hd', hacc⟩ := objDef_quota o ho
    rw [hd] at hd'
    cases hd'
    exact hacc
  let s1 := s.applying r (0x6A0001 + o) (beBytes 1 n) pos
  have hop : s1.opWrite r (0x6A0001 + o) (beBytes 1 n) = (.ok [.obj (0x6A0001 + o) (beBytes 1 n)], s1) := by
    have hidx : (0x6A0001 + o) / 256 = 0x6A00 := by omega
    unfold State.opWrite
    simp only [hidx]
  have hwrite := writeEntry_signed s1 r (0x6A0001 + o) (beBytes 1 n) d hd hacc hmask hbar hleg hclamp hhold (by rw [hop]; rfl)
  rw [hop] at hwrite
  have hval : beNat (beBytes 1 n) = n := by rw [beNat_beBytes]; exact Nat.mod_eq_of_lt hn
  obtain ⟨t, c, hrun, hsys⟩ := runEntries_quota ho hwrite (hval.trans_ne hne) ((applying_inflightSlot s r _ _ pos).trans hp)
  refine (stagesSigned_of_run hw hv hi hx hrun (by simp [TxnRun.bad]) hsys rfl).imp fun u hu => ?_
  obtain ⟨heffs, hans⟩ := hu
  exact ⟨heffs _ List.mem_cons_self, hans, heffs _ (List.mem_cons_of_mem _ List.mem_cons_self), c, heffs _ (by simp)⟩

/-- Settles O26, object by object. -/
theorem signedWrites : Obligations.SignedWrites := by
  unfold Obligations.SignedWrites
  exact fun s r v pos p => ⟨lockoutClear_stages, debugUnlock_stages, learnStart_stages, poleRelayProtected_stages, imageActivate_stages,
    fun o n ho hn hne h hp => ringQuota_stages o n ho hn hne h hp⟩

end Sys2Proof.Machine
end

section
/-!
PROOFS. CommandAnswers: every command answers a next state: its meaning is a tree of branches, and each branch ends in a next state
(log entry 11).
-/

namespace Sys2Proof.Machine

/-- The outcome is a next state: neither a fault nor a refusal. -/
@[simp] abbrev Answers (o : Out) : Prop := ∃ t, o = .next t

/-! ## Inkwell (R154-R182) -/

@[simp] theorem inkwellCommands_answer (s : State) :
    (∀ weak, Answers (execScrubVisit weak s)) ∧ (∀ still, Answers (execScrubRewrite still s)) ∧
    (∀ bad, Answers (execPageRetirement bad s)) := by
  unfold execScrubVisit execScrubRewrite execPageRetirement
  dsimp only
  and_intros <;> intros <;> (repeat' split) <;> exact ⟨_, rfl⟩

/-! ## Lantern and handle sense (R210-R230) -/

@[simp] theorem lanternCommands_answer (s : State) :
    Answers (execLfActivityStart s) ∧ (∀ current phase under detuned, Answers (execLfBurstEnd current phase under detuned s)) ∧
    (∀ ch kind, Answers (execLfDriverFault ch kind s)) ∧ (∀ ch, Answers (execThermalRelease ch s)) ∧
    Answers (execRegulatoryWindow s) ∧ Answers (execLfCarrierChange s) ∧
    (∀ rx current phase, Answers (execCradleUplink rx current phase s)) ∧
    (∀ current phase, Answers (execCradleUplinkTimeout current phase s)) ∧
    (∀ m0 m1 m2 m3, Answers (execHandleScan m0 m1 m2 m3 s)) ∧ (∀ ch, Answers (execHsStuck ch s)) := by
  unfold execLfActivityStart execLfBurstEnd execLfDriverFault execThermalRelease execRegulatoryWindow execLfCarrierChange
    execCradleUplink execCradleUplinkTimeout execHandleScan execHsStuck
  dsimp only
  and_intros <;> intros <;> (repeat' split) <;> exact ⟨_, rfl⟩

/-! ## Radios (R231-R255) -/

@[simp] theorem radioCommands_answer (s : State) :
    (∀ radio, Answers (execRadioWake radio s)) ∧
    (∀ radio kind quality stamps fp rx, Answers (execRadioActivityEnd radio kind quality stamps fp rx s)) ∧
    (∀ rx rssi off, Answers (execPacketReceived rx rssi off s)) ∧ (∀ radio, Answers (execRadioSleep radio s)) ∧
    (∀ n temp, Answers (execCalibration n temp s)) ∧ (∀ n, Answers (execCalStale n s)) ∧ (∀ gnt, Answers (execSniffWindow gnt s)) := by
  unfold execRadioWake execRadioActivityEnd execPacketReceived execRadioSleep execCalibration execCalStale execSniffWindow
  dsimp only
  and_intros <;> intros <;> (repeat' split) <;> exact ⟨_, rfl⟩

@[simp] theorem execCoexGntLost_answers (s : State) : Answers (execCoexGntLost s) := ⟨_, rfl⟩

@[simp] theorem execRadioActivityStart_answers (gnt : Bool) (s : State) : Answers (execRadioActivityStart gnt s) := by
  unfold execRadioActivityStart
  (repeat' split) <;> exact ⟨_, rfl⟩

/-! ## Token exchange and its decisions (R256-R299) -/

@[simp] theorem tetherCommands_answer (s : State) :
    Answers (execPollStart s) ∧ Answers (execWakeListenEnd s) ∧ Answers (execResponseGathered s) ∧
    Answers (execLockoutWindowClose s) ∧ Answers (execLockoutSecondServed s) ∧ (∀ slot, Answers (execHeldTelegramExpiry slot s)) ∧
    Answers (execDecision s) ∧ Answers (execAuthentication s) ∧ (∀ num, Answers (execProposalExpiry num s)) ∧
    Answers (execDebugUnlockExpiry s) := by
  unfold execPollStart execWakeListenEnd execResponseGathered execLockoutWindowClose execLockoutSecondServed
    execHeldTelegramExpiry execDecision execAuthentication execProposalExpiry execDebugUnlockExpiry
  dsimp only
  and_intros <;> intros <;> (repeat' split) <;> exact ⟨_, rfl⟩

/-! ## Learn (R300-R305) -/

@[simp] theorem learnCommands_answer (s : State) :
    Answers (execLearnStage s) ∧ Answers (execLearnVerify s) ∧ Answers (execLearnPhaseCommit s) ∧ Answers (execLearnScrub s) ∧
    Answers (execLearnDone s) ∧ (∀ n, Answers (execLearnSlaveTimeout n s)) ∧ Answers (execLearnHoldTimeout s) := by
  unfold execLearnStage execLearnVerify execLearnPhaseCommit execLearnScrub execLearnDone execLearnSlaveTimeout
    execLearnHoldTimeout
  dsimp only
  and_intros <;> intros <;> (repeat' split) <;> exact ⟨_, rfl⟩

/-! ## Feed (R310-R329) -/

@[simp] theorem feedCommands_answer (s : State) :
    Answers (execFeedEnable s) ∧ Answers (execFeedStartDelay s) ∧ (∀ track, Answers (execSwitchingBegins track s)) ∧
    Answers (execRampComplete s) ∧ Answers (execPgDelay s) ∧ Answers (execPgDrop s) ∧ Answers (execFeedDisable s) ∧
    Answers (execStopComplete s) ∧ Answers (execUndervoltageEvent s) ∧ Answers (execStartTimeout s) ∧
    Answers (execHiccupOffEnd s) ∧ Answers (execHiccupCountReset s) ∧ (∀ f, Answers (execFeedLock f s)) ∧
    Answers (execSyncInLoss s) ∧ (∀ f, Answers (execRelock f s)) ∧ (∀ ready, Answers (execLoadStep ready s)) ∧
    Answers (execLoadStepRearm s) ∧ Answers (execFeedConfigApply s) := by
  unfold execFeedEnable execFeedStartDelay execSwitchingBegins execRampComplete execPgDelay execPgDrop execFeedDisable
    execStopComplete execUndervoltageEvent execStartTimeout execHiccupOffEnd execHiccupCountReset execFeedLock execSyncInLoss
    execRelock execLoadStep execLoadStepRearm execFeedConfigApply
  dsimp only
  and_intros <;> intros <;> (repeat' split) <;> exact ⟨_, rfl⟩

/-! ## Feedline and start lock (R330-R349) -/

@[simp] theorem feedlineCommands_answer (s : State) :
    Answers (execFeedLatchOffClear s) ∧ (∀ seq ref, Answers (execStatus seq ref s)) ∧
    (∀ seq vid slew ref, Answers (execSetVid seq vid slew ref s)) ∧
    (∀ cmd seq slew ref, Answers (execFeedlineUnknownCmd cmd seq slew ref s)) ∧ Answers (execFeedlineCrcError s) ∧
    (∀ clocks, Answers (execExchangeCut clocks s)) ∧ Answers (execTransitionEnd s) ∧ (∀ ref, Answers (execAckSet ref s)) ∧
    (∀ ref, Answers (execFeedlineLost ref s)) ∧ Answers (execReleaseFeedEnable s) ∧ Answers (execReleaseOutputs s) ∧
    Answers (execReleaseTimeout s) := by
  unfold execFeedLatchOffClear execStatus execSetVid execFeedlineUnknownCmd execFeedlineCrcError execExchangeCut
    execTransitionEnd execAckSet execFeedlineLost execReleaseFeedEnable execReleaseOutputs execReleaseTimeout
  dsimp only
  and_intros <;> intros <;> (repeat' split) <;> exact ⟨_, rfl⟩

/-! ## Host port, tenants and rings (R126-R153) -/

@[simp] theorem hostCommands_answer (s : State) :
    (∀ cmd, Answers (execReadSingleLane cmd s)) ∧ (∀ cmd, Answers (execReadQuad cmd s)) ∧
    (∀ cmd data, Answers (execWriteSingleLane cmd data s)) ∧ (∀ cmd data, Answers (execWriteQuad cmd data s)) ∧
    (∀ cmd, Answers (execProbe cmd s)) ∧ (∀ page off v, Answers (execRegisterWrite page off v s)) ∧
    (∀ page v, Answers (execIrqCauseClear page v s)) ∧ (∀ page w v, Answers (execRingIrqStatusClear page w v s)) ∧
    (∀ w v, Answers (execTenantViolatedClear w v s)) ∧ (∀ v, Answers (execTenantReset v s)) ∧
    (∀ t, Answers (execTenantResetComplete t s)) ∧ (∀ v, Answers (execCoreResetRequest v s)) ∧
    (∀ page v, Answers (execRingEnable page v s)) ∧ (∀ page v, Answers (execRingDisable page v s)) ∧
    (∀ page ring, Answers (execRingDrained page ring s)) ∧ (∀ page ring v, Answers (execHostIdxWrite page ring v s)) ∧
    Answers (execRegrantMoved s) ∧ (∀ page v, Answers (execQpGo page v s)) := by
  unfold execReadSingleLane execReadQuad execWriteSingleLane execWriteQuad execProbe execRegisterWrite execIrqCauseClear
    execRingIrqStatusClear execTenantViolatedClear execTenantReset execTenantResetComplete execCoreResetRequest execRingEnable
    execRingDisable execRingDrained execHostIdxWrite execRegrantMoved execQpGo
  dsimp only
  and_intros <;> intros <;> (repeat' split) <;> exact ⟨_, rfl⟩

/-! ## Quill (R183-R209) -/

@[simp] theorem quillCommands_answer (s : State) :
    (∀ lane, Answers (execCbcEncrypt lane s)) ∧ (∀ lane, Answers (execCbcDecrypt lane s)) ∧ (∀ lane, Answers (execCtr lane s)) ∧
    (∀ lane, Answers (execGcmEncrypt lane s)) ∧ (∀ lane, Answers (execGcmDecryptAndVerify lane s)) ∧
    (∀ lane, Answers (execCcmEncrypt lane s)) ∧ (∀ lane, Answers (execCcmDecryptAndVerify lane s)) ∧
    (∀ lane, Answers (execCmacGenerate lane s)) ∧ (∀ lane, Answers (execCmacVerify lane s)) ∧
    (∀ lane, Answers (execKeyDerivation lane s)) ∧ (∀ lane, Answers (execQuillCompletion lane s)) ∧
    (∀ lane, Answers (execParityFault lane s)) ∧ Answers (execEntropyFault s) ∧ Answers (execDrbgReseed s) ∧
    Answers (execKeyInstall s) ∧ (∀ pos, Answers (execKeySettled pos s)) := by
  unfold execCbcEncrypt execCbcDecrypt execCtr execGcmEncrypt execGcmDecryptAndVerify execCcmEncrypt execCcmDecryptAndVerify
    execCmacGenerate execCmacVerify execKeyDerivation execQuillCompletion execParityFault execEntropyFault execDrbgReseed
    execKeyInstall execKeySettled
  dsimp only
  and_intros <;> intros <;> (repeat' split) <;> exact ⟨_, rfl⟩

/-! ## Ridgeline (R350-R407) -/

@[simp] theorem ridgeCommands_answer (s : State) :
    (∀ fid overlaps, Answers (execFrameSend fid overlaps s)) ∧ Answers (execVoteFrame s) ∧
    (∀ win heard blind, Answers (execMinislot win heard blind s)) ∧ (∀ offset, Answers (execClockCorrection offset s)) ∧
    Answers (execListenTimeout s) ∧ Answers (execColdstartFrame s) ∧ Answers (execColdstartComplete s) ∧
    Answers (execLossOfSynchronisation s) ∧ (∀ input, Answers (execLineBreak input s)) ∧ Answers (execWrap s) ∧
    (∀ side, Answers (execSideRestore side s)) ∧ Answers (execGuardianTrip s) ∧
    (∀ side kind source hops, Answers (execBabble side kind source hops s)) ∧ Answers (execFrameVerified s) ∧
    Answers (execScheduleDecision s) ∧ Answers (execScheduleSwitch s) ∧ Answers (execScheduleAdoption s) ∧
    (∀ side, Answers (execSupervisionLoss side s)) ∧ (∀ input, Answers (execSymbolSyncLoss input s)) ∧
    (∀ input, Answers (execSymbolSyncRegain input s)) := by
  unfold execFrameSend execVoteFrame execMinislot execClockCorrection execListenTimeout execColdstartFrame execColdstartComplete
    execLossOfSynchronisation execLineBreak execWrap execSideRestore execGuardianTrip execBabble execFrameVerified
    execScheduleDecision execScheduleSwitch execScheduleAdoption execSupervisionLoss execSymbolSyncLoss execSymbolSyncRegain
  dsimp only
  and_intros <;> intros <;> (repeat' split) <;> exact ⟨_, rfl⟩

@[simp] theorem execFrameReceived_answers (slot : Nat) (a b : Option RidgeRx) (s : State) : Answers (execFrameReceived slot a b s) := by
  unfold execFrameReceived
  split
  · exact ⟨_, rfl⟩
  · extract_lets
    split
    · exact ⟨_, rfl⟩
    · extract_lets
      split
      · split <;> exact ⟨_, rfl⟩
      · split
        · split <;> exact ⟨_, rfl⟩
        · exact ⟨_, rfl⟩

/-! ## CAN FD (R408-R419) -/

@[simp] theorem canCommands_answer (s : State) :
    (∀ k flags id data, Answers (execCanFrameReceived k flags id data s)) ∧ (∀ k, Answers (execCanFrameSent k s)) ∧
    (∀ k, Answers (execTxLifetimeExpiry k s)) ∧ (∀ k tec rec, Answers (execErrorStateChange k tec rec s)) ∧
    (∀ k, Answers (execBusOff k s)) ∧ (∀ k, Answers (execBusOffHoldExpiry k s)) ∧ (∀ k, Answers (execRecoveryComplete k s)) ∧
    (∀ k, Answers (execProtocolException k s)) ∧ (∀ k, Answers (execCanIntegrationComplete k s)) := by
  unfold execCanFrameReceived execCanFrameSent execTxLifetimeExpiry execErrorStateChange execBusOff execBusOffHoldExpiry
    execRecoveryComplete execProtocolException execCanIntegrationComplete
  dsimp only
  and_intros <;> intros <;> (repeat' split) <;> exact ⟨_, rfl⟩

/-! ## Images (R464-R482) -/

@[simp] theorem imageCommands_answer (s : State) :
    Answers (execActivationCopy s) ∧ Answers (execActivationVerified s) ∧ Answers (execActivationSealed s) ∧
    Answers (execActivationCommitted s) ∧ Answers (execActivationHoldTimeout s) := by
  unfold execActivationCopy execActivationVerified execActivationSealed execActivationCommitted execActivationHoldTimeout
  dsimp only
  and_intros <;> (repeat' split) <;> exact ⟨_, rfl⟩

/-! ## Pole link (R420-R442) -/

@[simp] theorem poleCommands_answer (s : State) :
    (∀ marker arrival, Answers (execMarkerReceived marker arrival s)) ∧ Answers (execEcho s) ∧ Answers (execEchoReply s) ∧
    (∀ rtt, Answers (execEchoReplyReceived rtt s)) ∧ Answers (execDiscover s) ∧
    (∀ source payload ok, Answers (execHello source payload ok s)) ∧ (∀ payload ok, Answers (execPoleAdmit payload ok s)) ∧
    Answers (execAdmissionEffective s) ∧ (∀ reason, Answers (execRefuse reason s)) ∧ Answers (execRefuseRetry s) ∧
    Answers (execSecondMaster s) ∧ (∀ payload late, Answers (execLfSchedule payload late s)) ∧
    (∀ payload late, Answers (execRadioList payload late s)) ∧ (∀ which, Answers (execAbortActivity which s)) ∧
    (∀ payload, Answers (execKeyContext payload s)) ∧ (∀ payload, Answers (execLearnPage payload s)) ∧
    (∀ digest, Answers (execLearnCommit digest s)) ∧ (∀ prot msg, Answers (execRelay prot msg s)) ∧
    (∀ source cls idx seq val due ok, Answers (execPoleItem source cls idx seq val due ok s)) ∧
    (∀ source payload, Answers (execPoleStatus source payload s)) ∧ (∀ source v, Answers (execLearnReport source v s)) ∧
    (∀ source msg, Answers (execRelayResponse source msg s)) ∧ (∀ n, Answers (execSlaveLost n s)) ∧ Answers (execSlaveStranded s) ∧
    (∀ n, Answers (execRelayTimeout n s)) := by
  unfold execMarkerReceived execEcho execEchoReply execEchoReplyReceived execDiscover execHello execPoleAdmit
    execAdmissionEffective execRefuse execRefuseRetry execSecondMaster execLfSchedule execRadioList execAbortActivity
    execKeyContext execLearnPage execLearnCommit execRelay execPoleItem execPoleStatus execLearnReport execRelayResponse
    execSlaveLost execSlaveStranded execRelayTimeout
  dsimp only
  and_intros <;> intros <;> (repeat' split) <;> exact ⟨_, rfl⟩

/-! ## Export (R457-R463) -/

@[simp] theorem exportCommands_answer (s : State) :
    Answers (execExportSelection s) ∧ Answers (execExportDelivery s) ∧ (∀ stream, Answers (execAckTimeout stream s)) := by
  unfold execExportSelection execExportDelivery execAckTimeout
  dsimp only
  and_intros <;> intros <;> (repeat' split) <;> exact ⟨_, rfl⟩

/-! ## Ledger transactions and segments (R99-R124) -/

@[simp] theorem ledgerCommands_answer (s : State) :
    Answers (execLedgerTransaction s) ∧ Answers (execTransactionDeferred s) ∧ (∀ src, Answers (execSegmentReassemblyTimeout src s)) := by
  unfold execLedgerTransaction execTransactionDeferred execSegmentReassemblyTimeout
  and_intros <;> intros <;> (repeat' split) <;> exact ⟨_, rfl⟩

theorem execWrite_answers (r : Requester) (key : Nat) (v : Bytes) (s : State) : Answers (execWrite r key v s) := by
  unfold execWrite
  split <;> exact ⟨_, rfl⟩

theorem execCountersigned_answers (r : Requester) (writes : List (Nat × Bytes)) (s : State) :
    Answers (execCountersigned r writes s) := by
  unfold execCountersigned
  (repeat' split) <;> exact ⟨_, rfl⟩

/-! ## Strokes (R29-R44) -/

@[simp] theorem strokeCommands_answer (s : State) :
    (∀ ref ilim, Answers (execStrokeBoundary ref ilim s)) ∧
    (∀ padA padB corrected bad sram, Answers (execGatherClose padA padB corrected bad sram s)) ∧ Answers (execUnitReRun s) ∧
    (∀ vhold service finish gate, Answers (execWorkDeadline vhold service finish gate s)) ∧
    (∀ count, Answers (execClockCheckWindow count s)) ∧ Answers (execPllLossOfLock s) ∧ Answers (execPllRelock s) := by
  unfold execStrokeBoundary execGatherClose execUnitReRun execWorkDeadline execClockCheckWindow execPllLossOfLock execPllRelock
  dsimp only
  and_intros <;> intros <;> (repeat' split) <;> exact ⟨_, rfl⟩

/-! ## Power, domains and standby (R71-R98) -/

@[simp] theorem powerCommands_answer (s : State) :
    (∀ n pass, Answers (execDomainReady n pass s)) ∧ (∀ pages, Answers (execPowerOnReset pages s)) ∧
    (∀ cascId bootOpt factory, Answers (execAoRelease cascId bootOpt factory s)) ∧ (∀ vhold, Answers (execFirstStroke vhold s)) ∧
    (∀ vhold, Answers (execVholdTimeout vhold s)) ∧ Answers (execCkAoCrystalStable s) ∧
    (∀ uf, Answers (execBlotterEstimate uf s)) ∧ (∀ cut, Answers (execVdd3BrownOut cut s)) ∧
    (∀ cut, Answers (execRegulatorFailure cut s)) ∧ Answers (execAoBrownOut s) ∧ Answers (execResetN s) ∧
    Answers (execBrownOutWarning s) ∧ Answers (execBrownOutWarningEnd s) ∧ (∀ bank, Answers (execVlfUndervoltage bank s)) ∧
    (∀ bank, Answers (execVlfOvervoltage bank s)) ∧ (∀ bank, Answers (execVlfRelease bank s)) ∧ Answers (execWatchdog s) ∧
    (∀ tagged, Answers (execCoreFault tagged s)) ∧ Answers (execCoreReset s) ∧
    (∀ fld copy, Answers (execGuyLatchUpset fld copy s)) ∧ Answers (execStandbyIdle s) ∧ (∀ source, Answers (execWake source s)) ∧
    Answers (execBootLoadWindowClose s) ∧ (∀ marker, Answers (execSlaveFirstStroke marker s)) ∧ Answers (execStandbyFrame s) ∧
    (∀ source status, Answers (execStandbyReply source status s)) ∧ Answers (execStandbyReplyTimeout s) := by
  unfold execDomainReady execPowerOnReset execAoRelease execFirstStroke execVholdTimeout execCkAoCrystalStable
    execBlotterEstimate execVdd3BrownOut execRegulatorFailure execAoBrownOut execResetN execBrownOutWarning execBrownOutWarningEnd
    execVlfUndervoltage execVlfOvervoltage execVlfRelease execWatchdog execCoreFault execCoreReset execGuyLatchUpset
    execStandbyIdle execWake execBootLoadWindowClose execSlaveFirstStroke execStandbyFrame execStandbyReply execStandbyReplyTimeout
  dsimp only
  and_intros <;> intros <;> (repeat' split) <;> exact ⟨_, rfl⟩

/-! ## Straps and TAP (R63-R65) -/

@[simp] theorem pinCommands_answer (s : State) :
    (∀ levels, Answers (execStrapChange levels s)) ∧ Answers (execExtest s) ∧
    (∀ cells sampled, Answers (execSamplePreload cells sampled s)) ∧ Answers (execSelfTestRun s) ∧ Answers (execSelfTestResult s) ∧
    Answers (execBypass s) ∧ (∀ results, Answers (execSelfTestDone results s)) := by
  unfold execStrapChange execExtest execSamplePreload execSelfTestRun execSelfTestResult execBypass execSelfTestDone
  dsimp only
  and_intros <;> intros <;> (repeat' split) <;> exact ⟨_, rfl⟩

/-! ## Every command -/

/-- A command answers a next state: a write of an object through the transaction it stands for, any other by its own meaning. -/
theorem exec_answers (c : Instr) (s : State) : Answers (exec c s) := by
  cases c with
  | domainEnable | subsystemReset | standbyRequest | tenantEnable | granuleOwnerChange | keyLoad | keyErase | lfChannelClear
    | startRequest | learnRecord | learnRecordClear | csAuth | csTokenAuth | protectionSeal | commissionStart | feedFaultClear
    | ignitionOff | ridgeIsolate | ridgeRequest | ridgeGuardClear | canRecover | poleRelay | folioAck | folioNote =>
    exact execWrite_answers _ _ _ s
  | keyLoadProtected | lockoutClear | learnStart | debugUnlock | poleRelayProtected | imageActivate | ringQuota =>
    exact execCountersigned_answers _ _ s
  | _ => simp [exec]

/-- Settles O7. -/
theorem everyCommandAnswers : Obligations.EveryCommandAnswers := by
  unfold Obligations.EveryCommandAnswers
  exact exec_answers

end Sys2Proof.Machine
end

section
/-!
PROOFS. RingsAndTenantResets: what a register write lets through does to the selected ring and to HOST_IDX, when a draining ring is
inactive, and what ends a tenant's reset and a re-grant (R132, R139-R141, R150, R152).
-/

namespace Sys2Proof.Machine

/-! ## A register write that is let through (R132, R136, R150) -/

section
variable {s : State} {p : Nat} (h : RegAccess s p)
include h

/-- Of an enabled page, what breaks isolation depends on the offset alone (R136, R137). -/
theorem confined_of_regAccess {off : Nat} (hoff : off < 0x110 ∨ 0x200 ≤ off ∧ off < 0x600 ∧ off / 4 % 128 < s.ringCount p) :
    s.confined p off = none := by
  obtain ⟨-, -, -, htenant⟩ := h
  have hon : (p != 0 && !s.tenantOn (p - 1)) = false := by
    by_cases hp : p = 0
    · simp [hp]
    · simp [htenant hp]
  simp only [State.confined, hon, Bool.false_eq_true, if_false]
  rw [if_neg (by omega), if_neg (by omega), if_neg (by omega)]

/-- No write is held back by a reset of the page's tenant (R150). -/
theorem not_resetting_of_regAccess : ¬ (p ≠ 0 ∧ s.tenantState (p - 1) = 1) := by
  obtain ⟨-, -, -, htenant⟩ := h
  exact fun ⟨hp, hresetting⟩ => (htenant hp).2 hresetting

/-- An aligned write whose word breaks no isolation has the effect of its word (R132, R137). -/
theorem regWrite_of_word {off v : Nat} {t : State} (hoff : off < 4096) (halign : off % 4 = 0)
    (hword : s.hostWriteWord p off (v % 2 ^ 32) = (t, false)) : s.regWrite p off v = t := by
  obtain ⟨hup, hpower, hp, -⟩ := h
  simp only [State.regWrite, hword]
  simp [hup, hpower, Nat.not_lt.2 hp, Nat.not_le.2 hoff, halign]

/-- RING_CFG written, by its ENABLE bit (R139). -/
theorem regWrite_ringCfg (v : Nat) : s.regWrite p 0x104 v =
    if v.testBit 0 then s.opRingEnable p (v % 2 ^ 32) else s.opRingDisable p (v % 2 ^ 32) := by
  refine regWrite_of_word h (by decide) (by decide) ?_
  rw [State.hostWriteWord, confined_of_regAccess h (.inl (by decide))]
  simp [not_resetting_of_regAccess h, State.writeCtrl]

/-- HOST_IDX written of a ring the page has (R138, R141). -/
theorem regWrite_hostIdx {n : Nat} (v : Nat) (hn : n < 128) (hcount : n < s.ringCount p) :
    s.regWrite p (0x200 + 4 * n) v = s.opHostIdx p n (v % 2 ^ 32) := by
  have hindex : (0x200 + 4 * n) / 4 % 128 = n := by omega
  refine regWrite_of_word h (by omega) (by omega) ?_
  rw [State.hostWriteWord, confined_of_regAccess h (.inr ⟨by omega, by omega, hindex.symm ▸ hcount⟩)]
  simp only [not_resetting_of_regAccess h, if_false]
  rw [if_neg (by omega), if_neg (by omega), if_pos (by omega), Nat.add_sub_cancel_left, Nat.mul_div_cancel_left n (by decide)]

end

/-! ## Ring contexts (R139, R140) -/

/-- A configuration written to a ring, without its ENABLE bit. -/
def Ring.configured (r : Ring) (v : Nat) : Ring := { r with cfg := v &&& 0x7F01FE }

/-- A ring as it starts: active, nothing offered or taken, no error. -/
def Ring.activated (r : Ring) (gen : Nat) : Ring :=
  { r with active := true, draining := false, hostIdx := 0, devIdx := 0, error := 0, taken := [], gen := gen }

section
variable (s : State) {r : Ring} {p n : Nat} (hpage : r.page = p) (hnum : r.num = n)
include hpage hnum

theorem ring_setRing_of_names : (s.setRing r).ring p n = r := by
  subst hpage hnum
  exact ring_setRing s r

/-- A ring refused keeps its context, but for ERROR. -/
theorem ring_ringError (e : Nat) : ((s.setRing r).ringError r e).ring p n = { r with error := e } := by
  unfold State.ringError
  split
  · next he => rw [ring_setRing_of_names s hpage hnum, ← he]
  · exact ring_setRing_of_names (r := { r with error := e }) (s.setRing r) hpage hnum

end

/-! ## RING_CFG (R140) -/

section
variable {s : State} {p n : Nat} {r : Ring} (hsel : (s.page p).ringSel = n) (hr : s.ring p n = r) (hcount : n < s.ringCount p)
include hsel hr hcount

/-- A ring of a type that needs no completion ring is activated where its table lies in granules of its owner and PD3 is on (R140). -/
theorem ring_opRingEnable_of_allowed (v : Nat) (hactive : r.active = false)
    (htype : 2 ≤ (r.configured v).type ∧ (r.configured v).type ≤ 6)
    (htable : s.ownsRun p r.base (32 * (r.configured v).size) = true) (hready : s.domReady 3 = true) :
    (s.opRingEnable p v).ring p n = (r.configured v).activated (s.host.gens + 1) := by
  obtain ⟨hpage, hnum⟩ := hr ▸ ring_names s p n
  have hinactive : (r.active || decide (s.ringCount p ≤ r.num)) = false := by simp [hactive, hnum, hcount]
  have hstored := ring_setRing_of_names (r := (r.configured v).activated (s.host.gens + 1)) s hpage hnum
  have hlow : 1 ≤ (r.configured v).type := by omega
  have hplain : ((r.configured v).type != 1) = true := by
    rw [bne_iff_ne]
    omega
  obtain ⟨-, hhigh⟩ := htype
  simp only [Ring.configured] at hlow hplain hhigh htable
  simp only [State.opRingEnable, hsel, hr, hinactive, hlow, hplain, hhigh, htable, hready, decide_true, Bool.and_true, Bool.true_or,
    Bool.false_eq_true, if_false, if_true]
  split <;> exact hstored

/-- With PD3 off the ring stays inactive, with ERROR NO_SUCH_OBJECT (R140). -/
theorem ring_opRingEnable_of_pd3Off (v : Nat) (hactive : r.active = false) (hoff : s.domReady 3 = false) :
    (s.opRingEnable p v).ring p n = { r.configured v with error := stNO_SUCH_OBJECT } := by
  obtain ⟨hpage, hnum⟩ := hr ▸ ring_names s p n
  have hinactive : (r.active || decide (s.ringCount p ≤ r.num)) = false := by simp [hactive, hnum, hcount]
  have hrefused : s.opRingEnable p v = (s.setRing (r.configured v)).ringError (r.configured v) stNO_SUCH_OBJECT := by
    simp only [State.opRingEnable, hsel, hr, hinactive, hoff, Bool.and_false, Bool.false_eq_true, if_false]
    rfl
  rw [hrefused]
  exact ring_ringError (r := r.configured v) s hpage hnum _

/-- An active ring drains (R140). -/
theorem opRingDisable_of_active (v : Nat) (hactive : r.active = true) : s.opRingDisable p v = s.setRing { r with draining := true } := by
  have hnum : r.num = n := hr ▸ (ring_names s p n).2
  simp only [State.opRingDisable, hsel, hr, hnum, Nat.not_le.2 hcount, hactive, if_false, if_true]

end

/-! ## HOST_IDX (R141) -/

/-- On an open ring that is no completion ring, HOST_IDX offers descriptors: no fewer than stand offered, no more than the ring
holds. -/
theorem opHostIdx_of_open {s : State} {p n v : Nat} (hv : v < 2 ^ 13) (hactive : (s.ring p n).active = true)
    (hopen : (s.ring p n).closing = false) (htype : (s.ring p n).type ≠ 2) : s.opHostIdx p n v =
    if v < 2 * (s.ring p n).size ∧ (s.ring p n).ready ≤ (s.ring p n).dist (s.ring p n).devIdx v ∧
      (s.ring p n).dist (s.ring p n).devIdx v ≤ (s.ring p n).size
    then s.setRing { s.ring p n with hostIdx := v } else s.ringError (s.ring p n) stDENIED := by
  simp only [State.opHostIdx, Nat.mod_eq_of_lt hv, hactive, hopen, htype, Bool.not_true, Bool.or_self, Bool.false_eq_true, if_false,
    Bool.and_eq_true, decide_eq_true_eq]

/-! ## Tenant resets and re-grants (R150, R152) -/

/-- A tenant's reset that is due ends with READY staged for the Commit (R150). -/
theorem exec_tenantResetComplete {s : State} {n due : Nat} (hreset : alookup n s.host.resets = some due)
    (hpower : s.sys.power = .running) (hphase : s.sys.phase ≠ .gather) (hdue : due ≤ s.sys.stroke) :
    exec (.tenantResetComplete n) s = .next (s.stage (plainUnit 0x0D400000 [.tenantReady n] [])) := by
  simp [exec, execTenantResetComplete, hreset, hpower, hphase, hdue]

/-- A re-grant moves once every closing ring is idle, or 8 strokes after phase 1 (R152). -/
theorem exec_regrantMoved {s : State} {pos first : Nat} (hregrant : s.host.regrants = [(pos, first)]) (hw : s.working = true)
    (hdue : ((s.host.rings.filter (·.closing)).all (·.idle)) = true ∨ first + 8 ≤ s.sys.stroke) :
    exec .regrantMoved s = .next (s.stage (plainUnit 0x0E000000
      [.regrantMove, .inflight pos (s.closed (s.phased (s.inflightAt pos) 2) 2 stOK)] [])) := by
  have hmoves : ((s.host.rings.filter (·.closing)).all (·.idle) || decide (first + 8 ≤ s.sys.stroke)) = true := by
    simpa only [Bool.or_eq_true, decide_eq_true_eq] using hdue
  simp only [exec, execRegrantMoved, hregrant, hw, hmoves, Bool.true_and, if_true, List.map_cons, List.map_nil]

/-! ## The ring commands (R139-R141) -/

theorem exec_ringEnable {s : State} {p : Nat} (h : RegAccess s p) {v : Nat} (hv : v < 2 ^ 32) :
    exec (.ringEnable p v) s = .next (s.opRingEnable p (v ||| 1)) := by
  have hword : (v ||| 1) % 2 ^ 32 = v ||| 1 := Nat.mod_eq_of_lt (Nat.or_lt_two_pow hv (by decide))
  have henable : (v ||| 1).testBit 0 = true := by simp
  exact congrArg Host.Outcome.next (by rw [regWrite_ringCfg h, if_pos henable, hword])

theorem exec_ringDisable {s : State} {p : Nat} (h : RegAccess s p) (v : Nat) :
    exec (.ringDisable p v) s = .next (s.opRingDisable p (setBit v 0 false % 2 ^ 32)) := by
  have hclear : ¬ (setBit v 0 false).testBit 0 = true := by
    rw [testBit_setBit, if_pos rfl]
    exact Bool.false_ne_true
  exact congrArg Host.Outcome.next (by rw [regWrite_ringCfg h, if_neg hclear])

/-- A draining ring is inactive once its descriptors have completed (R140). -/
theorem exec_ringDrained {s : State} {p n : Nat} (hdraining : (s.ring p n).draining = true) (htaken : (s.ring p n).taken = []) :
    exec (.ringDrained p n) s = .next (s.setRing { s.ring p n with draining := false, active := false }) := by
  simp [exec, execRingDrained, hdraining, htaken]

theorem exec_hostIdxWrite {s : State} {p n v : Nat} (h : RegAccess s p) (hn : n < 128) (hcount : n < s.ringCount p)
    (hv : v < 2 ^ 13) : exec (.hostIdxWrite p n v) s = .next (s.opHostIdx p n v) := by
  have hword : v % 2 ^ 32 = v := Nat.mod_eq_of_lt (hv.trans (by decide))
  show Host.Outcome.next (s.regWrite p (0x200 + 4 * (n % 128)) v) = _
  rw [Nat.mod_eq_of_lt hn, regWrite_hostIdx h v hn hcount, hword]

/-- Settles O20: the register writes go by what their word does to the ring, the other commands by their own conditions. -/
theorem ringsAndTenants : Obligations.RingsAndTenants := by
  unfold Obligations.RingsAndTenants
  refine ⟨⟨fun s p v h hv hcount hactive => ⟨fun htype htable hready => ?_, fun hoff => ?_⟩, fun s p v h hcount hactive => ?_,
    fun s p n => exec_ringDrained, fun s p n v h hn hcount hv hactive hopen htype => ?_⟩,
    fun s n due => exec_tenantResetComplete, fun s pos first => exec_regrantMoved⟩
  · refine ⟨_, exec_ringEnable h hv, ring_opRingEnable_of_allowed rfl rfl hcount (v ||| 1) hactive ?_ htable hready⟩
    show 2 ≤ bits ((v ||| 1) &&& 0x7F01FE) 3 1 ∧ bits ((v ||| 1) &&& 0x7F01FE) 3 1 ≤ 6
    omega
  · have hring := ring_opRingEnable_of_pd3Off rfl rfl hcount (v ||| 1) hactive hoff
    exact ⟨_, exec_ringEnable h hv, hring ▸ hactive, hring ▸ rfl⟩
  · rw [exec_ringDisable h, opRingDisable_of_active rfl rfl hcount _ hactive]
  · rw [exec_hostIdxWrite h hn hcount hv, opHostIdx_of_open hv hactive hopen htype]
    exact ⟨fun hpos hlow hhigh => by rw [if_pos ⟨hpos, hlow, hhigh⟩], fun hout => by rw [if_neg (by omega)]⟩

end Sys2Proof.Machine
end

section
/-!
PROOFS. KeyWriteUnits: what one unit stages for an accepted KEY_LOAD, KEY_LOAD_PROTECTED and KEY_ERASE (R190-R193).
-/

namespace Sys2Proof.Machine

/-! ## A write that is let through and refused (R107, R108) -/

/-- The one refused entry of a transaction gives its overall status (R108). -/
theorem overall_of_refused {st : Nat} (k : Nat) (hr : isRefusal st = true) : overall [⟨st, k, []⟩] = st := by
  have hmem : st ∈ refusalOrder := by simpa [isRefusal] using hr
  have hfound : firstRefusal [st] = st := by
    unfold firstRefusal
    cases hfind : refusalOrder.find? ([st].contains ·) with
    | none => simpa using List.find?_eq_none.1 hfind st hmem
    | some c => simpa using List.find?_some hfind
  have hok : st ≠ stOK := by
    rintro rfl
    exact absurd hr (by decide)
  simp [overall, hfound, hok]

/-- A write whose operation is refused, but neither with DENIED nor for want of entropy, stages that response alone. -/
theorem execWrite_of_refused {s : State} {r : Requester} {k st : Nat} {v : Bytes} (h : s.takes r k v) (hk : plainlyWritten k = true)
    (ho : s.opWrite r k v = (.refuse st, s)) (hr : isRefusal st = true) (hd : st ≠ stDENIED) (hov : st ≠ stOVERRUN) :
    ∃ u m, execWrite r k v s = .next (s.stage u) ∧ u.effs = [.respond r false st m] ∧ u.pairs = [] := by
  have hrun := runEntries_of_refused h hk ho hr hd
  obtain ⟨body, hnow⟩ := writeNow_eq_transact h hk
  obtain ⟨hw, -⟩ := h
  obtain ⟨-, -, -, d, hdef, -, h2⟩ := plainlyWritten_iff.1 hk
  have hprot : [(⟨true, k, v⟩ : LEntry)].any LEntry.protected = false := by simpa [LEntry.protected, hdef] using h2
  have htr := transact_ordinary s (requestItem r [⟨true, k, v⟩]).key r false body [⟨true, k, v⟩] hprot (by rw [hrun]; simpa using hov)
  rw [hrun] at htr
  have hx : execWrite r k v s = .next (Option.getD (some _) _) :=
    (if_pos hw).trans (congrArg Host.Outcome.next (hnow.trans (congrArg (Option.getD · _) htr)))
  have hst := overall_of_refused k hr
  exact ⟨_, _, hx, (settle_plain r _ _ [] rfl).trans (by rw [hst]; rfl), rfl⟩

section
variable {s : State} {r : Requester} {v : Bytes} {pos : Nat}

/-- Only the host and firmware write KEY_LOAD and KEY_ERASE (R191, R193). -/
theorem cls_of_takes_key {k : Nat} (h : s.takes r k v) (hk : k = 0x381001 ∨ k = 0x381002) : r.cls = 0 ∨ r.cls = 4 := by
  obtain ⟨-, -, -, -, -, hb, -⟩ := h
  rcases hk with rfl | rfl <;> simpa [classBarred, or_iff_not_imp_left] using hb

/-! ## KEY_LOAD, KEY_LOAD_PROTECTED (R191, R192) -/

/-- The effects of a key load: its entry opened, the load kept, its install queued on queue 3 (R192). -/
def State.keyLoadEffects (s : State) (r : Requester) (v : Bytes) (p : Nat) : List Effect :=
  [.inflight p (s.newEntry 5 2 (loadSlot v) 0 r), .keyLoad ⟨p, loadSlot v, loadExpect v, v, false⟩,
    .quillQueue ⟨3, 5, 0, loadSlot v, none, [], [], v, [], 0, [p]⟩]

/-- A key load that no reason refuses starts in the entry that is free (R191, R192). -/
theorem opKeyLoad_of_legal {prot : Bool} (hcls : prot = true ∨ r.cls = 0 ∨ r.cls = 4) (hslot : slotAllowed prot (loadSlot v) = true)
    (hlegal : loadLegal v = true) (hexp : loadExpect v = (s.slotView (loadSlot v)).gen)
    (hgen : (s.slotView (loadSlot v)).gen ≠ 2 ^ 32 - 1) (hplain : loadWrapped v = true ∨ s.num 0x380008 ≠ 0)
    (hp : s.inflightSlot = some pos) : s.opKeyLoad prot r v = .start (s.keyLoadEffects r v pos) := by
  have hclass : (!prot && r.cls != 0 && r.cls != 4) = false := by
    rcases hcls with h | h | h <;> simp [h]
  have hwrap : (!loadWrapped v && s.num 0x380008 == 0) = false := by
    rcases hplain with h | h <;> simp [h]
  have hlast : ((s.slotView (loadSlot v)).gen == 2 ^ 32 - 1) = false := by simpa using hgen
  unfold State.opKeyLoad
  simp only [hclass, hslot, hlegal, hexp, hlast, hwrap, hp, bne_self_eq_false, Bool.not_true, Bool.or_self, Bool.false_eq_true, if_false]
  rw [← hexp]
  rfl

theorem keyLoad_stages (h : s.takes r 0x381001 v) (hslot : slotAllowed false (loadSlot v) = true) (hlegal : loadLegal v = true)
    (hexp : loadExpect v = (s.slotView (loadSlot v)).gen) (hgen : (s.slotView (loadSlot v)).gen ≠ 2 ^ 32 - 1)
    (hplain : loadWrapped v = true ∨ s.num 0x380008 ≠ 0) (hp : s.inflightSlot = some pos) : Stages (.keyLoad r v) s fun u =>
      u.carries (.inflight pos (s.newEntry 5 2 (loadSlot v) 0 r)) ∧ u.carries (.keyLoad ⟨pos, loadSlot v, loadExpect v, v, false⟩) ∧
        u.carries (.quillQueue ⟨3, 5, 0, loadSlot v, none, [], [], v, [], 0, [pos]⟩) ∧ u.answers r stPENDING := by
  have hop := opKeyLoad_of_legal (.inr (cls_of_takes_key h (.inl rfl))) hslot hlegal hexp hgen hplain hp
  obtain ⟨h0, h3, hq, d, hd, h1, h2⟩ := plainlyWritten_iff.1 (show plainlyWritten 0x381001 = true by decide)
  obtain ⟨u, hu, hc, -, -, -, ha⟩ := stages_write (c := .keyLoad r v) s r 0x381001 v d _ rfl h h0 hd h1 h2 h3 hq
    (congrArg (·, s) hop) (.inr rfl) rfl
  exact ⟨u, hu, hc _ (by simp [OpResult.start, State.keyLoadEffects]), hc _ (by simp [OpResult.start, State.keyLoadEffects]),
    hc _ (by simp [OpResult.start, State.keyLoadEffects]), ha⟩

/-- A countersigned load starts behind its own entry, in the next one that is free (R110, R191). -/
theorem keyLoadProtected_stages (h : s.takesSigned r 0x381003 v pos) (hslot : slotAllowed true (loadSlot v) = true)
    (hlegal : loadLegal v = true) (hexp : loadExpect v = (s.slotView (loadSlot v)).gen)
    (hgen : (s.slotView (loadSlot v)).gen ≠ 2 ^ 32 - 1) (hplain : loadWrapped v = true ∨ s.num 0x380008 ≠ 0)
    (hfree : (s.stage (plainUnit 0 [.inflight pos (s.signedEntry r)] [])).inflightSlot ≠ none) :
    StagesSigned (.keyLoadProtected r v) s r pos fun u => ∃ p, u.carries (.inflight p (s.newEntry 5 2 (loadSlot v) 0 r)) ∧
      u.carries (.keyLoad ⟨p, loadSlot v, loadExpect v, v, false⟩) ∧ u.answers r stPENDING := by
  obtain ⟨p, hp⟩ := Option.ne_none_iff_exists'.1 hfree
  have hop := opKeyLoad_of_legal (s := s.applying r 0x381003 v pos) (r := r) (.inl rfl) hslot hlegal hexp hgen hplain
    ((applying_inflightSlot s r 0x381003 v pos).trans hp)
  refine (stagesSigned_of_opWrite h (by decide) rfl (congrArg (·, s.applying r 0x381003 v pos) hop) (.inr rfl) rfl).imp fun u hu => ?_
  obtain ⟨heffs, -, hans⟩ := hu
  exact ⟨p, heffs _ List.mem_cons_self, heffs _ (List.mem_cons_of_mem _ List.mem_cons_self), hans⟩

/-! ## KEY_ERASE (R190, R193) -/

/-- What an erase stages: the entry at PHASE 1, the slot emptied at the next generation, and the record of its KEY_STATE (R193). -/
def State.keyEraseResult (s : State) (r : Requester) (v : Bytes) (pos : Nat) : OpResult :=
  { OpResult.start [.inflight pos (s.newEntry 5 2 (byteAt v 0) 1 r), .keyErase (byteAt v 0) pos ((byteAt v 1).testBit 0)] with
    recs := [s.keyRec (byteAt v 0) 0 r.cls r.idx]
    pairs := s.keyWrites (byteAt v 0) { s.slotView (byteAt v 0) with key := [], state := 0, gen := beNat (slice v 4 4) + 1 } }

/-- An erase that no reason denies is refused at the slot's last generation alone, or for want of an entry (R190, R193). -/
theorem opKeyErase_of_legal (hcls : r.cls = 0 ∨ r.cls = 4) (hslot : slotAllowed false (byteAt v 0) = true) (hflags : byteAt v 1 < 2)
    (hz : slice v 2 2 = zeros 2) (hexp : beNat (slice v 4 4) = (s.slotView (byteAt v 0)).gen) :
    s.opKeyErase r v = if beNat (slice v 4 4) = 2 ^ 32 - 1 then .refuse stCOUNTER_STUCK
      else s.inflightSlot.elim (.refuse stBUSY) (s.keyEraseResult r v) := by
  have hclass : (r.cls != 0 && r.cls != 4) = false := by
    rcases hcls with h | h <;> simp [h]
  have hbits : (byteAt v 1 / 2 != 0) = false := by simpa using hflags
  unfold State.opKeyErase State.keyEraseResult
  simp only [hclass, hslot, hbits, hz, hexp, bne_self_eq_false, Bool.not_true, Bool.or_self, Bool.false_eq_true, if_false]
  cases s.inflightSlot <;> rfl

theorem keyErase_stages (h : s.takes r 0x381002 v) (hslot : slotAllowed false (byteAt v 0) = true) (hflags : byteAt v 1 < 2)
    (hz : slice v 2 2 = zeros 2) (hexp : beNat (slice v 4 4) = (s.slotView (byteAt v 0)).gen)
    (hgen : beNat (slice v 4 4) ≠ 2 ^ 32 - 1) (hp : s.inflightSlot = some pos) : Stages (.keyErase r v) s fun u =>
      u.carries (.inflight pos (s.newEntry 5 2 (byteAt v 0) 1 r)) ∧ u.carries (.keyErase (byteAt v 0) pos ((byteAt v 1).testBit 0)) ∧
        u.answers r stPENDING ∧ u.recs = [s.keyRec (byteAt v 0) 0 r.cls r.idx] ∧
        u.pairs = s.keyWrites (byteAt v 0)
          { s.slotView (byteAt v 0) with key := [], state := 0, gen := beNat (slice v 4 4) + 1 } := by
  have hop : s.opKeyErase r v = s.keyEraseResult r v pos := by
    rw [opKeyErase_of_legal (cls_of_takes_key h (.inr rfl)) hslot hflags hz hexp, if_neg hgen, hp]
    rfl
  obtain ⟨h0, h3, hq, d, hd, h1, h2⟩ := plainlyWritten_iff.1 (show plainlyWritten 0x381002 = true by decide)
  obtain ⟨u, hu, hc, hr, -, hpairs, ha⟩ := stages_write (c := .keyErase r v) s r 0x381002 v d _ rfl h h0 hd h1 h2 h3 hq
    (congrArg (·, s) hop) (.inr rfl) rfl
  exact ⟨u, hu, hc _ List.mem_cons_self, hc _ (List.mem_cons_of_mem _ List.mem_cons_self), ha, hr, hpairs⟩

/-- A generation sticks at its last value: the slot is not erased (R190). -/
theorem keyErase_of_lastGen (h : s.takes r 0x381002 v) (hslot : slotAllowed false (byteAt v 0) = true) (hflags : byteAt v 1 < 2)
    (hz : slice v 2 2 = zeros 2) (hexp : beNat (slice v 4 4) = (s.slotView (byteAt v 0)).gen)
    (hgen : beNat (slice v 4 4) = 2 ^ 32 - 1) : Completes (.keyErase r v) s fun t => ∃ u, t.staged = s.staged ++ [u] ∧
      u.answers r stCOUNTER_STUCK ∧ u.pairs = [] := by
  have hop : s.opKeyErase r v = .refuse stCOUNTER_STUCK := by
    rw [opKeyErase_of_legal (cls_of_takes_key h (.inr rfl)) hslot hflags hz hexp, if_pos hgen]
  obtain ⟨u, m, hx, he, hpairs⟩ := execWrite_of_refused h (by decide) (congrArg (·, s) hop) (by decide) (by decide) (by decide)
  exact ⟨_, hx, u, rfl, ⟨m, by simp [he]⟩, hpairs⟩

end

/-- Settles O23, object by object. -/
theorem writesOfKeys : Obligations.WritesOfKeys := by
  unfold Obligations.WritesOfKeys
  exact fun s r v pos => ⟨keyLoad_stages, keyLoadProtected_stages, fun h hslot hflags hz hexp =>
    ⟨keyErase_stages h hslot hflags hz hexp, keyErase_of_lastGen h hslot hflags hz hexp⟩⟩

end Sys2Proof.Machine
end

section
/-!
PROOFS. QuillLanes: how a lane takes an operation and how one leaves it, by completion, parity fault or quarantine; the entropy fault and
the reseed (R183, R184, R194, R197, R198, R202-R205).
-/

namespace Sys2Proof.Machine

/-! ## What a completion leaves of Quill (R145, R198, R199) -/

@[simp] theorem bufWrite_quill (s : State) (p addr : Nat) (b : Bytes) : (s.bufWrite p addr b).quill = s.quill := by
  unfold State.bufWrite
  split <;> rfl

@[simp] theorem intComplete_quill (s : State) (r : IntReq) (status tag gen : Nat) (out : Bytes) :
    (s.intComplete r status tag gen out).quill = s.quill := by
  have hkey (c : Prop) [Decidable c] : (if c then { s with radio := { s.radio with keyPort := some out } } else s).quill = s.quill := by
    split <;> rfl
  have hcmac (t : State) (c : Prop) [Decidable c] (fid cycle : Nat) : (if c then t.ridgeCmac fid cycle out else t).quill = t.quill := by
    split <;> rfl
  unfold State.intComplete
  dsimp only
  split <;> rw [offer_quill, hcmac, hkey]

/-- A completion of a ring is written, or held where no position is free (R145). -/
theorem putCompletion_quill (s : State) (p ring : Nat) (b : Bytes) :
    (s.putCompletion p ring b).quill = { s.quill with held := (s.putCompletion p ring b).quill.held } := by
  unfold State.putCompletion
  dsimp only
  split
  · split <;> simp
  · rfl

/-- Of Quill an operation that ends changes only the completions held: its lane is freed apart (R198). -/
theorem finish_quill (s : State) (op : QOp) (status : Nat) :
    (s.finish op status).quill = { s.quill with held := (s.finish op status).quill.held } := by
  unfold State.finish
  split
  case h_1 => simp
  case h_2 =>
    dsimp only
    rw [putCompletion_quill]
    simp
  case h_3 => simp [State.pageComplete, State.irq]

@[simp] theorem finish_lanes (s : State) (op : QOp) (status : Nat) : (s.finish op status).quill.lanes = s.quill.lanes := by
  rw [finish_quill]

@[simp] theorem countTag_quill (s : State) (op : QOp) : (s.countTag op).quill = s.quill := by
  unfold State.countTag
  split <;> rfl

@[simp] theorem freeLane_lanes (s : State) (lane : Nat) : (s.freeLane lane).quill.lanes = aerase lane s.quill.lanes := rfl

/-- With no completion held there is none to write (R145). -/
theorem drainHeld_of_none {s : State} (h : s.quill.held = []) : s.drainHeld = s := by
  simp only [State.drainHeld, h, List.foldl_nil]
  rw [← h]

/-! ## Operations aborted (R204, R205) -/

/-- One running operation aborted with a status. -/
def State.abortLane (status : Nat) (s : State) (l : Nat × QOp) : State := (s.freeLane l.1).finish l.2 status

theorem abortLanes_eq (s : State) (which : QOp → Bool) (status : Nat) :
    s.abortLanes which status = (s.quill.lanes.filter fun l => which l.2).foldl (State.abortLane status) s := rfl

/-- Aborts change no more of Quill than its lanes and the completions held. -/
theorem foldl_abortLane_quill (status : Nat) (ops : List (Nat × QOp)) (s : State) :
    (ops.foldl (State.abortLane status) s).quill = { s.quill with
      lanes := (ops.foldl (State.abortLane status) s).quill.lanes, held := (ops.foldl (State.abortLane status) s).quill.held } := by
  induction ops generalizing s with
  | nil => rfl
  | cons l ops ih =>
    rw [List.foldl_cons, ih, State.abortLane, finish_quill]
    rfl

/-- A lane still runs what it ran before, and is none of those aborted. -/
theorem mem_lanes_of_aborted {status : Nat} {ops : List (Nat × QOp)} {s : State} {x : Nat × QOp}
    (hx : x ∈ (ops.foldl (State.abortLane status) s).quill.lanes) : x ∈ s.quill.lanes ∧ ∀ l ∈ ops, x.1 ≠ l.1 := by
  induction ops generalizing s with
  | nil => exact ⟨hx, by simp⟩
  | cons l ops ih =>
    obtain ⟨hrun, hrest⟩ := ih hx
    rw [State.abortLane, finish_lanes, freeLane_lanes, aerase, List.mem_filter] at hrun
    obtain ⟨hmem, hne⟩ := hrun
    exact ⟨hmem, List.forall_mem_cons.2 ⟨by simpa using hne, hrest⟩⟩

theorem abortLanes_quill (s : State) (which : QOp → Bool) (status : Nat) : (s.abortLanes which status).quill = { s.quill with
    lanes := (s.abortLanes which status).quill.lanes, held := (s.abortLanes which status).quill.held } :=
  foldl_abortLane_quill status _ s

/-- With every running operation aborted no lane runs (R205). -/
theorem abortLanes_all_lanes (s : State) (status : Nat) : (s.abortLanes (fun _ => true) status).quill.lanes = [] := by
  rw [List.eq_nil_iff_forall_not_mem]
  intro x hx
  obtain ⟨hrun, hne⟩ := mem_lanes_of_aborted (abortLanes_eq s _ status ▸ hx)
  exact hne x (by simpa using hrun) rfl

theorem quarantine_of_quarantined {s : State} (cause : Nat) (h : s.quill.state = 1) : s.quarantine cause = s := if_pos h

/-- Quill not quarantined yet is so with the cause, and no lane runs (R205). -/
theorem quarantine_quill {s : State} (cause : Nat) (h : s.quill.state ≠ 1) : (s.quarantine cause).quill = { s.quill with
    state := 1, cause := cause, lanes := [], held := (s.quarantine cause).quill.held } := by
  have hq : (s.quarantine cause).quill = (State.abortLanes { s with quill := { s.quill with state := 1, cause := cause } }
      (fun _ => true) stQUARANTINED).quill := by
    simp [State.quarantine, h, State.offerEvent]
  rw [hq, abortLanes_quill, abortLanes_all_lanes]

/-! ## Operations taken (R183, R184, R194) -/

/-- A lane that may start its next operation does so under the command of its mode alone. -/
theorem laneStart_of_nextOp {s s' : State} {lane : Nat} {op : QOp} (hup : s.quillUp = true) (hlane : lane < 4)
    (hfree : alookup lane s.quill.lanes = none) (hnext : s.nextOp lane = some (op, s')) (mode : Nat) :
    s.laneStart mode lane = if op.mode = mode then
      { s' with quill := { s'.quill with lanes := ainsert lane op s'.quill.lanes } } else s := by
  simp [State.laneStart, hup, hlane, hfree, hnext]

/-- Settles O32: each command is a start of its own mode on the lane. -/
theorem quillModesStart : Obligations.QuillModesStart := by
  unfold Obligations.QuillModesStart
  intro s lane op s' hup hlane hfree hnext
  have hstart (mode : Nat) := congrArg (Host.Outcome.next : State → Out) (laneStart_of_nextOp hup hlane hfree hnext mode)
  exact ⟨hstart 1, hstart 2, hstart 3, hstart 4, hstart 5, hstart 6, hstart 7, hstart 8, hstart 9, hstart 10⟩

/-! ## Completions (R197, R198) -/

section
variable {s : State} {lane : Nat} {op : QOp} (hheld : s.quill.held = [])
include hheld

theorem exec_quillCompletion_of_running (hrun : alookup lane s.quill.lanes = some op) :
    exec (.quillCompletion lane) s = .next (((s.freeLane lane).countTag op).finish op op.status) := by
  show execQuillCompletion lane s = _
  unfold execQuillCompletion
  simp only [drainHeld_of_none hheld, hrun]

/-- A request of no mode starts and completes at once (R192, R197). -/
theorem exec_quillCompletion_of_noMode {s' : State} (hfree : alookup lane s.quill.lanes = none) (hup : s.quillUp = true)
    (hlane : lane < 4) (hnext : s.nextOp lane = some (op, s')) (hmode : op.mode = 0 ∨ 10 < op.mode) :
    exec (.quillCompletion lane) s = .next ((s'.countTag op).finish op op.status) := by
  show execQuillCompletion lane s = _
  unfold execQuillCompletion
  simp only [drainHeld_of_none hheld, hfree, hup, hlane, hnext, hmode, decide_true, Bool.and_self, if_true]

end

/-! ## Parity faults (R204, R205) -/

/-- The parity faults of the running sheet, one more counted, up to 3 (R204). -/
def State.sheetFaultsNext (s : State) : Nat :=
  if s.quill.sheet = s.sys.stroke / 64 then min 3 (s.quill.sheetFaults + 1) else 1

/-- A parity fault frees its lane and is counted; the third of a sheet quarantines Quill with cause 1 (R204, R205). -/
theorem exec_parityFault_of_running {s : State} {lane : Nat} {op : QOp} (hrun : alookup lane s.quill.lanes = some op) :
    ∃ t : State, exec (.parityFault lane) s = .next (if 3 ≤ s.sheetFaultsNext then t.quarantine 1 else t) ∧ t.quill = { s.quill with
      sheet := s.sys.stroke / 64, sheetFaults := s.sheetFaultsNext, lastFault := s.stamp, lanes := aerase lane s.quill.lanes
      held := t.quill.held } := by
  have hexec : exec (.parityFault lane) s = execParityFault lane s := rfl
  unfold execParityFault at hexec
  simp only [hrun] at hexec
  refine ⟨_, hexec, ?_⟩
  rw [State.offerEvent, offer_quill, finish_quill]
  rfl

theorem parityFault_completes {s : State} {lane : Nat} {op : QOp} (hrun : alookup lane s.quill.lanes = some op) :
    Completes (.parityFault lane) s fun t => alookup lane t.quill.lanes = none ∧ t.quill.lastFault = s.stamp ∧
      t.quill.sheet = s.sys.stroke / 64 ∧ t.quill.sheetFaults = s.sheetFaultsNext ∧
      (t.quill.sheetFaults < 3 → t.quill.state = s.quill.state ∧ t.quill.cause = s.quill.cause) ∧
      (t.quill.sheetFaults = 3 → s.quill.state ≠ 1 → t.quill.state = 1 ∧ t.quill.cause = 1 ∧ t.quill.lanes = []) := by
  obtain ⟨t, hexec, hquill⟩ := exec_parityFault_of_running hrun
  refine ⟨_, hexec, ?_⟩
  dsimp only
  by_cases hthird : 3 ≤ s.sheetFaultsNext
  · rw [if_pos hthird]
    by_cases hstate : s.quill.state = 1
    · rw [quarantine_of_quarantined 1 (by rw [hquill]; exact hstate), hquill]
      exact ⟨alookup_aerase _ _, rfl, rfl, rfl, fun _ => ⟨rfl, rfl⟩, fun _ hne => absurd hstate hne⟩
    · rw [quarantine_quill 1 (by rw [hquill]; exact hstate), hquill]
      exact ⟨rfl, rfl, rfl, rfl, fun hlt => absurd hlt (Nat.not_lt.2 hthird), fun _ _ => ⟨rfl, rfl, rfl⟩⟩
  · rw [if_neg hthird, hquill]
    exact ⟨alookup_aerase _ _, rfl, rfl, rfl, fun _ => ⟨rfl, rfl⟩, fun h3 => absurd (Nat.le_of_eq h3.symm) hthird⟩

/-! ## The entropy source (R202, R203) -/

theorem entropyFault_completes {s : State} (hon : s.domOn 5 = true) : Completes .entropyFault s fun t =>
    t.quill.drbgOk = false ∧ (s.quill.state ≠ 1 → t.quill.state = 1 ∧ t.quill.cause = 2 ∧ t.quill.lanes = []) := by
  have hexec : exec .entropyFault s = execEntropyFault s := rfl
  unfold execEntropyFault at hexec
  rw [if_pos hon] at hexec
  refine ⟨_, hexec, ?_⟩
  dsimp only
  rw [State.offerEvent, offer_quill]
  refine ⟨rfl, fun hstate => ?_⟩
  rw [quarantine_quill (s := s.countUp 16 1) 2 hstate]
  exact ⟨rfl, rfl, rfl⟩

theorem exec_drbgReseed {s : State} (hok : s.quill.drbgOk = true) (hend : s.sys.stroke % 64 = 63) :
    exec .drbgReseed s = .next { s with quill := { s.quill with drawn := s.quill.drawn + 1 } } := if_pos ⟨hok, hend⟩

/-- Settles O33: by what ends the operation, and for a parity fault by its sheet. -/
theorem quillLanesEnd : Obligations.QuillLanesEnd := by
  unfold Obligations.QuillLanesEnd
  refine ⟨fun s lane op hheld hrun => ⟨exec_quillCompletion_of_running hheld hrun, by simp⟩,
    fun s s' lane op hheld hfree hup hlane => exec_quillCompletion_of_noMode hheld hfree hup hlane, fun s lane op hrun => ?_,
    fun s => entropyFault_completes, fun s => exec_drbgReseed⟩
  obtain ⟨t, hexec, hlane, hlast, hsheet, hfaults, hfew, hthird⟩ := parityFault_completes hrun
  refine ⟨t, hexec, hlane, hlast, hsheet, fun hsame => ?_, fun hnew => ?_, hfew, hthird⟩
  · rw [hfaults, State.sheetFaultsNext, if_pos hsame]
  · rw [hfaults, State.sheetFaultsNext, if_neg hnew]

end Sys2Proof.Machine
end

section
/-!
PROOFS. KeyInstalls: what a gathered install completion stages, and when the entry of a stored load or an erase closes (R192, R193).
-/

namespace Sys2Proof.Machine

/-- The completion of an install on queue 3 (R36, R192). -/
def Item.isInstall (i : Item) : Bool := i.cls == 5 && i.idx == 3 && i.aux.getD 1 0 == 5 && i.aux.head? == some 100

/-- The effects that refuse a load: its entry closed REFUSED, the load dropped (R192). -/
def State.loadRefused (s : State) (l : KeyLoadOp) (res : Nat) : List Effect :=
  [.inflight l.pos (s.closed (s.inflightAt l.pos) 6 res), .keyDrop l.pos]

/-- The unit of a verified install: the key stored and the generation raised at PHASE 1 (R192). -/
def State.installUnit (s : State) (i : Item) (l : KeyLoadOp) : Staged :=
  let e := s.inflightAt l.pos
  let k := s.slotView l.slot
  { plainUnit i.key [.inflight l.pos (s.phased e 1), .keyStore l.pos (installOf i).2] [] with
    need := .txn, pairs := s.keyWrites l.slot { k with key := (installOf i).2, state := 1, gen := k.gen + 1 }
    held := s.loadRefused l stINKWELL_LOW_HOLD, recs := [s.keyRec l.slot 1 e.cls e.req] }

/-- In a stroke that has staged nothing an install is stored or refused by its status and its slot's generation (R192). -/
theorem exec_keyInstall {s : State} {i : Item} {l : KeyLoadOp} (hw : s.working = true) (hnone : s.staged = [])
    (hfound : s.gathered.find? Item.isInstall = some i) (hload : s.quill.loads.find? (fun m => m.pos == (installOf i).1) = some l) :
    exec .keyInstall s = .next ((s.consume i).stage
      (if byteAt i.val 0 = stOK ∧ (s.slotView l.slot).gen = l.expect ∧ (s.slotView l.slot).gen < 2 ^ 32 - 1 then s.installUnit i l
        else plainUnit i.key (s.loadRefused l (if byteAt i.val 0 = stQUARANTINED then stQUARANTINED else stDENIED)) [])) := by
  have hexec : exec .keyInstall s = execKeyInstall s := rfl
  unfold execKeyInstall at hexec
  change s.gathered.find? (fun i => i.cls == 5 && i.idx == 3 && i.aux.getD 1 0 == 5 && i.aux.head? == some 100) = some i at hfound
  simp only [hfound, hw, hload, hnone, List.any_nil, and_true, Bool.not_true, Bool.false_eq_true, if_false] at hexec
  rw [hexec]
  split <;> rfl

section
variable {s : State} {i : Item} {l : KeyLoadOp} (hw : s.working = true) (hnone : s.staged = [])
  (hfound : s.gathered.find? Item.isInstall = some i) (hload : s.quill.loads.find? (fun m => m.pos == (installOf i).1) = some l)
include hw hnone hfound hload

theorem keyInstall_stores (hok : byteAt i.val 0 = stOK) (hexp : (s.slotView l.slot).gen = l.expect)
    (hlast : (s.slotView l.slot).gen < 2 ^ 32 - 1) : Completes .keyInstall s fun t => ∃ u, t = (s.consume i).stage u ∧
      u.carries (.keyStore l.pos (installOf i).2) ∧ u.carries (.inflight l.pos (s.phased (s.inflightAt l.pos) 1)) ∧
      u.pairs = s.keyWrites l.slot { s.slotView l.slot with
        key := (installOf i).2, state := 1, gen := (s.slotView l.slot).gen + 1 } := by
  have hexec := exec_keyInstall hw hnone hfound hload
  rw [if_pos ⟨hok, hexp, hlast⟩] at hexec
  exact ⟨_, hexec, _, rfl, List.mem_cons_of_mem _ List.mem_cons_self, List.mem_cons_self, rfl⟩

theorem keyInstall_refuses (hbad : byteAt i.val 0 ≠ stOK ∨ (s.slotView l.slot).gen ≠ l.expect) :
    Completes .keyInstall s fun t => ∃ u, t = (s.consume i).stage u ∧ u.carries (.keyDrop l.pos) ∧ u.pairs = [] ∧
      u.carries (.inflight l.pos
        (s.closed (s.inflightAt l.pos) 6 (if byteAt i.val 0 = stQUARANTINED then stQUARANTINED else stDENIED))) := by
  have hexec := exec_keyInstall hw hnone hfound hload
  rw [if_neg fun ⟨hok, hexp, _⟩ => hbad.elim (· hok) (· hexp)] at hexec
  exact ⟨_, hexec, _, rfl, List.mem_cons_of_mem _ List.mem_cons_self, rfl, List.mem_cons_self⟩

end

/-- With no operation left that holds the old copy, a stored load or an erase is DONE (R192, R193). -/
theorem exec_keySettled {s : State} {pos : Nat} (hw : s.working = true) (hnone : s.effects = []) (hop : (s.inflightAt pos).op = 5)
    (hopen : (s.inflightAt pos).isOpen = true) (hphase : (s.inflightAt pos).phase = 1)
    (hold : s.holdsOld (s.inflightAt pos).inst (s.slotGen (s.inflightAt pos).inst) = false) :
    exec (.keySettled pos) s = .next (s.stage (plainUnit 0x05030000
      [.inflight pos (s.closed (s.phased (s.inflightAt pos) 2) 2 stOK), .keyDrop pos] [])) := by
  have hexec : exec (.keySettled pos) s = execKeySettled pos s := rfl
  unfold execKeySettled at hexec
  simpa only [hw, hnone, hop, hopen, hphase, hold, List.any_nil, beq_self_eq_true, Bool.not_false, Bool.and_self, if_true] using hexec

/-- Settles O34: by the status and the generation an install finds, and the entry that nothing holds open. -/
theorem keyOperations : Obligations.KeyOperations := by
  unfold Obligations.KeyOperations
  exact ⟨fun s i l hw hnone hfound hload => ⟨keyInstall_stores hw hnone hfound hload, keyInstall_refuses hw hnone hfound hload⟩,
    fun s pos => exec_keySettled⟩

end Sys2Proof.Machine
end

section
/-!
PROOFS. CabinWrites: what one unit stages for an accepted write of an LF, start, Learn record, countersign or commissioning object (R223,
R259, R290, R293, R294, R300, R307).
-/

namespace Sys2Proof.Machine

section
variable {s : State} {r : Requester} {v : Bytes} {pos : Nat}

/-- A write of an object written as it stands, of an operation with plain effects that draws nothing, stages its effects and cells and
its response. -/
theorem stages_of_opWrite {c : Instr} {k : Nat} {o : OpResult} (h : s.takes r k v) (hk : plainlyWritten k = true)
    (hx : exec c s = execWrite r k v s) (ho : s.opWrite r k v = (o, s)) (hst : o.status = stOK ∨ o.status = stPENDING)
    (he : plainEffects o.effs = true) :
    Stages c s fun u => (∀ e ∈ o.effs, u.carries e) ∧ u.cells = o.cells ∧ u.answers r o.status := by
  obtain ⟨h0, h3, hq, d, hd, h1, h2⟩ := plainlyWritten_iff.1 hk
  obtain ⟨u, hu, hc, -, hcells, -, ha⟩ := stages_write s r k v d o hx h h0 hd h1 h2 h3 hq ho hst he
  exact ⟨u, hu, hc, hcells, ha⟩

/-! ## LF_CHANNEL_CLEAR, LEARN_RECORD, LEARN_RECORD_CLEAR (R223, R300) -/

theorem plainlyWritten_lfChannelClear (c : Nat) (hc : c < 8) : plainlyWritten (0x200C01 + c) = true := by
  revert c
  decide +kernel

theorem opWrite_lfChannelClear (c : Nat) (hc : c < 8) : s.opWrite r (0x200C01 + c) v = (opLfChannelClear c v, s) := by
  have hi : (0x200C01 + c) / 256 = 0x200C := by omega
  have hsub : (0x200C01 + c) % 256 - 1 = c := by omega
  unfold State.opWrite
  simp only [hi, hsub]

theorem lfChannelClear_stages (n : Nat) (h : s.takes r (0x200C01 + n % 8) v) (hv : beNat v = 1) :
    Stages (.lfChannelClear r n v) s fun u => u.carries (.lfClear (n % 8)) ∧ u.answers r stOK := by
  have hn : n % 8 < 8 := Nat.mod_lt _ (by decide)
  have hop : opLfChannelClear (n % 8) v = .ok [.lfClear (n % 8)] := by rw [opLfChannelClear, if_pos hv]
  obtain ⟨u, hu, hc, -, ha⟩ := stages_of_opWrite h (plainlyWritten_lfChannelClear _ hn) (c := .lfChannelClear r n v) rfl
    ((opWrite_lfChannelClear _ hn).trans (congrArg (·, s) hop)) (.inl rfl) rfl
  exact ⟨u, hu, hc _ List.mem_cons_self, ha⟩

theorem plainlyWritten_learnRecord (n : Nat) (hn : n < 64) : plainlyWritten (0x302001 + n) = true := by
  revert n
  decide +kernel

theorem opWrite_learnRecord (n : Nat) (hn : n < 64) : s.opWrite r (0x302001 + n) v = (s.opLearnRecord n v, s) := by
  have hi : (0x302001 + n) / 256 = 0x3020 := by omega
  have hsub : (0x302001 + n) % 256 - 1 = n := by omega
  unfold State.opWrite
  simp only [hi, hsub]

theorem learnRecord_stages (n : Nat) (h : s.takes r (0x302001 + n % 64) v) (hl : s.learning = false) :
    Stages (.learnRecord r n v) s fun u => u.carries (.learnRecord (n % 64) v) ∧ u.answers r stOK := by
  have hn : n % 64 < 64 := Nat.mod_lt _ (by decide)
  have hop : s.opLearnRecord (n % 64) v = .ok [.learnRecord (n % 64) v] := by
    simp only [State.opLearnRecord, hl, Bool.false_eq_true, if_false]
  obtain ⟨u, hu, hc, -, ha⟩ := stages_of_opWrite h (plainlyWritten_learnRecord _ hn) (c := .learnRecord r n v) rfl
    ((opWrite_learnRecord _ hn).trans (congrArg (·, s) hop)) (.inl rfl) rfl
  exact ⟨u, hu, hc _ List.mem_cons_self, ha⟩

theorem learnRecordClear_stages (h : s.takes r 0x301004 v) (hv : beNat v = 1) (hl : s.learning = false) :
    Stages (.learnRecordClear r v) s fun u => u.carries .learnClear ∧ u.answers r stOK := by
  have hop : s.opLearnClear v = .ok [.learnClear] := by
    simp only [State.opLearnClear, hv, hl, ne_eq, not_true_eq_false, Bool.false_eq_true, if_false]
  obtain ⟨u, hu, hc, -, ha⟩ := stages_of_opWrite h (by decide) (c := .learnRecordClear r v) rfl
    (congrArg (·, s) hop) (.inl rfl) rfl
  exact ⟨u, hu, hc _ List.mem_cons_self, ha⟩

/-! ## START_REQUEST (R25, R259) -/

section
variable (hv : beNat v = 1) (hrel : s.released = false) (hing : s.releasing = false) (hwait : s.tether.waiting = none)
  (hhold : s.holdBlocks = false) (hp : s.inflightSlot = some pos)
include hv hrel hing hwait hhold hp

/-- A start request while another exchange runs is held (R25). -/
theorem opStartRequest_of_running (hrun : s.tether.run ≠ none) (hbc : s.bivouac = true → s.hasCradle = true) :
    s.opStartRequest r v = (.start [.inflight pos (s.newEntry 2 3 0 0 r), .holdStart (some ⟨some pos, 0⟩)], s) := by
  obtain ⟨x, hx⟩ := Option.ne_none_iff_exists'.1 hrun
  have hcradle : (s.bivouac && !s.hasCradle) = false := by
    cases hb : s.bivouac <;> simp [hbc, hb]
  simp only [State.opStartRequest, hv, hrel, hcradle, hing, hwait, hhold, hp, hx, ne_eq, not_true_eq_false, Option.isSome_none,
    Bool.or_self, Bool.false_eq_true, if_false]

/-- With nothing running and no telegram held a start request opens its listen window (R259). -/
theorem opStartRequest_of_idle (hrun : s.tether.run = none) (hb : s.bivouac = false) (hn : s.newestWake = none) :
    s.opStartRequest r v = (.start (.inflight pos (s.newEntry 2 3 0 0 r) ::
      s.listenEffects (s.newExchange 2 0xFE (s.num 0x2C0004) (some pos) [])), s) := by
  simp only [State.opStartRequest, State.begin, hv, hrel, hb, hing, hwait, hhold, hp, hrun, hn, ne_eq, not_true_eq_false,
    Option.isSome_none, Bool.false_and, Bool.and_false, Bool.or_self, Bool.false_eq_true, if_false]

theorem startRequest_of_idle (h : s.takes r 0x2C0201 v) (hrun : s.tether.run = none) (hb : s.bivouac = false)
    (hn : s.newestWake = none) : Stages (.startRequest r v) s fun u =>
      u.carries (.inflight pos (s.newEntry 2 3 0 0 r)) ∧ u.answers r stPENDING ∧
        u.carries (.exchange (some { s.newExchange 2 0xFE (s.num 0x2C0004) (some pos) [] with phase := .listening })) ∧
        u.carries (.radioList ⟨[s.uhfEntry 1 (s.sys.stroke + 1) 0 [] (1000 * s.num 0x2C0003)], false⟩) := by
  obtain ⟨u, hu, hc, -, ha⟩ := stages_of_opWrite h (by decide) (c := .startRequest r v) rfl
    (opStartRequest_of_idle hv hrel hing hwait hhold hp hrun hb hn) (.inr rfl) rfl
  exact ⟨u, hu, hc _ List.mem_cons_self, ha, hc _ (by simp [OpResult.start, State.listenEffects]),
    hc _ (by simp [OpResult.start, State.listenEffects])⟩

theorem startRequest_of_running (h : s.takes r 0x2C0201 v) (hrun : s.tether.run ≠ none)
    (hbc : s.bivouac = true → s.hasCradle = true) : Stages (.startRequest r v) s fun u =>
      u.carries (.inflight pos (s.newEntry 2 3 0 0 r)) ∧ u.carries (.holdStart (some ⟨some pos, 0⟩)) ∧ u.answers r stPENDING := by
  obtain ⟨u, hu, hc, -, ha⟩ := stages_of_opWrite h (by decide) (c := .startRequest r v) rfl
    (opStartRequest_of_running hv hrel hing hwait hhold hp hrun hbc) (.inr rfl) rfl
  exact ⟨u, hu, hc _ List.mem_cons_self, hc _ (List.mem_cons_of_mem _ List.mem_cons_self), ha⟩

end

/-! ## CS_AUTH, CS_TOKEN_AUTH (R293, R294) -/

/-- A host principal's authentication of a waiting proposal queues its MAC check on queue 3 (R293). -/
theorem csAuth_stages (q : Proposal) (h : s.takes r 0x681001 v)
    (hfind : s.proposalsNow.find? (·.num == beNat (slice v 0 2)) = some q) (hhost : 0x40 ≤ byteAt v 2)
    (hmem : s.isMember (byteAt v 2) = true) : Stages (.csAuth r v) s fun u => u.answers r stOK ∧
      u.carries (.quillQueue ⟨3, 3, 9, byteAt v 2, none, [], [],
        [0x31] ++ beBytes 1 (byteAt v 2) ++ beBytes 2 (beNat (slice v 0 2)) ++ q.digest ++ q.challenge, slice v 4 16, 0,
        [beNat (slice v 0 2), byteAt v 2]⟩) := by
  have hop : s.opCsAuth v = .ok [.quillQueue ⟨3, 3, 9, byteAt v 2, none, [], [],
      [0x31] ++ beBytes 1 (byteAt v 2) ++ beBytes 2 (beNat (slice v 0 2)) ++ q.digest ++ q.challenge, slice v 4 16, 0,
      [beNat (slice v 0 2), byteAt v 2]⟩] := by
    simp only [State.opCsAuth, hfind, hhost, hmem, decide_true, Bool.and_self, Bool.not_true, Bool.false_eq_true, if_false]
  obtain ⟨u, hu, hc, -, ha⟩ := stages_of_opWrite h (by decide) (c := .csAuth r v) rfl (congrArg (·, s) hop) (.inl rfl) rfl
  exact ⟨u, hu, ha, hc _ List.mem_cons_self⟩

/-- With 8 random bytes left a countersign exchange of a proposal begins: those bytes are its DN, and its telegram goes out in the
next stroke with C′ (R294). -/
theorem beginCountersign_of_entropy (q : Proposal) (he : s.sys.entropyTaken + 8 ≤ 128) :
    ∃ x, s.beginCountersign q = some ({ s with sys := { s.sys with entropyTaken := s.sys.entropyTaken + 8 } },
        [.exchange (some x), .lfSchedule ⟨2, 0, s.sys.stroke + 1, 200, [0x21] ++ s.carId ++ x.dn, q.cPrime⟩]) ∧
      x.kind = 4 ∧ x.proposal = q.num ∧ x.c = q.cPrime ∧ x.dn.length = 8 := by
  obtain ⟨b, hb, hte⟩ := takeEntropy_of_le s 8 he
  have hdn : (b.take 8).length = 8 := by rw [List.take_of_length_le hb.le, hb]
  simp only [State.beginCountersign, State.startCradle, Option.isSome_some, if_true, hte]
  exact ⟨_, rfl, rfl, rfl, rfl, hdn⟩

section
variable {q : Proposal} (h : s.takes r 0x681002 v) (hfind : s.proposalsNow.find? (·.num == beNat v) = some q)
  (hcradle : s.hasCradle = true) (hwait : s.tether.waiting = none)
include h hfind hcradle hwait

/-- A token's countersign while another exchange runs is held (R25, R294). -/
theorem csTokenAuth_of_running (hrun : s.tether.run ≠ none) : Stages (.csTokenAuth r v) s fun u =>
    u.carries (.holdStart (some ⟨none, beNat v⟩)) ∧ u.answers r stOK := by
  obtain ⟨x, hx⟩ := Option.ne_none_iff_exists'.1 hrun
  have hop : s.opCsTokenAuth v = (.ok [.holdStart (some ⟨none, beNat v⟩)], s) := by
    simp only [State.opCsTokenAuth, hfind, hcradle, hwait, hx, Bool.not_true, Option.isSome_none, Bool.false_eq_true, if_false]
  obtain ⟨u, hu, hc, -, ha⟩ := stages_of_opWrite h (by decide) (c := .csTokenAuth r v) rfl hop (.inl rfl) rfl
  exact ⟨u, hu, hc _ List.mem_cons_self, ha⟩

/-- With nothing running a token's countersign begins its exchange (R294). -/
theorem csTokenAuth_of_idle (hrun : s.tether.run = none) (he : s.sys.entropyTaken + 8 ≤ 128) :
    Completes (.csTokenAuth r v) s fun t => t.sys.entropyTaken = s.sys.entropyTaken + 8 ∧ ∃ u x, t.staged = s.staged ++ [u] ∧
      u.answers r stOK ∧ u.carries (.exchange (some x)) ∧ x.kind = 4 ∧ x.proposal = q.num ∧ x.c = q.cPrime ∧ x.dn.length = 8 ∧
      u.carries (.lfSchedule ⟨2, 0, s.sys.stroke + 1, 200, [0x21] ++ s.carId ++ x.dn, q.cPrime⟩) := by
  obtain ⟨x, hbegin, hkind, hprop, hc, hdn⟩ := beginCountersign_of_entropy q he
  have hop : s.opCsTokenAuth v = (.ok [.exchange (some x),
      .lfSchedule ⟨2, 0, s.sys.stroke + 1, 200, [0x21] ++ s.carId ++ x.dn, q.cPrime⟩],
      { s with sys := { s.sys with entropyTaken := s.sys.entropyTaken + 8 } }) := by
    simp only [State.opCsTokenAuth, hfind, hcradle, hwait, hrun, hbegin, Bool.not_true, Option.isSome_none, Bool.false_eq_true, if_false]
  obtain ⟨h0, h3, hq, d, hd, h1, h2⟩ := plainlyWritten_iff.1 (show plainlyWritten 0x681002 = true by decide)
  obtain ⟨u, m, hx, heffs, -⟩ := execWrite_takes s r 0x681002 v d _ _ h h0 hd h1 h2 h3 hq hop rfl rfl
  have heffs' := heffs.trans (settle_plain _ _ _ _ rfl)
  refine ⟨_, hx, rfl, u, x, rfl, ⟨m, ?_⟩, ?_, hkind, hprop, hc, hdn, ?_⟩
  · rw [heffs']
    exact List.mem_append_right _ (List.mem_singleton.2 rfl)
  · rw [Staged.carries, heffs']
    exact List.mem_cons_self
  · rw [Staged.carries, heffs']
    exact List.mem_cons_of_mem _ List.mem_cons_self

end

/-! ## PROTECTION_SEAL, COMMISSION_START (R290, R307) -/

/-- The host seals an open device of two members by raising Tally counter 11 (R290). -/
theorem protectionSeal_stages (h : s.takes r 0x680004 v) (hv : beNat v = 1) (hr : r.cls = 0) (hopen : s.isSealed = false)
    (hm : 2 ≤ s.members) : Stages (.protectionSeal r v) s fun u => u.cells = [.tally 11 1] ∧ u.answers r stOK := by
  have hop : s.opProtectionSeal r v = { OpResult.ok [] with cells := [.tally 11 1] } := by
    simp only [State.opProtectionSeal, hv, hr, hopen, Nat.not_lt.2 hm, ne_eq, not_true_eq_false, Bool.false_eq_true, or_self, if_false]
  obtain ⟨u, hu, -, hcells, ha⟩ := stages_of_opWrite h (by decide) (c := .protectionSeal r v) rfl
    (congrArg (·, s) hop) (.inl rfl) rfl
  exact ⟨u, hu, hcells, ha⟩

theorem commissionStart_stages (h : s.takes r 0x2C2001 v) (hb : s.bivouac = false) (hnone : s.openEntry 7 = none)
    (hp : s.inflightSlot = some pos) : Stages (.commissionStart r v) s fun u =>
      u.carries (.inflight pos (s.newEntry 7 2 0 1 r)) ∧ u.carries (.commission (byteAt v 1)) ∧
        u.carries (.obj 0x2C2101 (commissionEmpty (byteAt v 0))) ∧ u.answers r stPENDING := by
  have hop : s.opCommissionStart r v = .start [.inflight pos (s.newEntry 7 2 0 1 r), .commission (byteAt v 1),
      .obj 0x2C2101 (commissionEmpty (byteAt v 0))] := by
    simp only [State.opCommissionStart, hb, hnone, hp, Option.isSome_none, Bool.false_eq_true, if_false]
  obtain ⟨u, hu, hc, -, ha⟩ := stages_of_opWrite h (by decide) (c := .commissionStart r v) rfl
    (congrArg (·, s) hop) (.inr rfl) rfl
  exact ⟨u, hu, hc _ List.mem_cons_self, hc _ (by simp [OpResult.start]), hc _ (by simp [OpResult.start]), ha⟩

end

/-- Settles O24, object by object. -/
theorem writesOfTheCabin : Obligations.WritesOfTheCabin := by
  unfold Obligations.WritesOfTheCabin
  exact fun s r v pos => ⟨lfChannelClear_stages,
    fun h hv hrel hing hwait hhold hp => ⟨startRequest_of_idle hv hrel hing hwait hhold hp h,
      startRequest_of_running hv hrel hing hwait hhold hp h⟩,
    learnRecord_stages, learnRecordClear_stages, csAuth_stages,
    fun q h hfind hcradle hwait => ⟨csTokenAuth_of_running h hfind hcradle hwait, csTokenAuth_of_idle h hfind hcradle hwait⟩,
    protectionSeal_stages, commissionStart_stages⟩

end Sys2Proof.Machine
end

section
/-!
PROOFS. PoleParts: what an admitted slave does with the parts of the master's plan, each repeated down the chain (R219, R239, R304, R422,
R425, R433, R435, R439, R441).
-/

namespace Sys2Proof.Machine

section
variable {s : State}

/-- A slave that serves repeats a frame of the master down the chain (R422). -/
theorem repeated_of_served (hs : s.served = true) (f : PoleFrame) : s.repeated f = s.sendFrame f := by
  have hup : (s.isSlave && s.poleUp) = true := by
    simp only [State.served, Bool.and_eq_true] at hs ⊢
    obtain ⟨⟨⟨hpole, hslave⟩, -⟩, -⟩ := hs
    exact ⟨hslave, hpole⟩
  rw [State.repeated, if_pos hup]

/-- A slave that serves goes on serving when it has repeated a frame. -/
theorem served_repeated (hs : s.served = true) (f : PoleFrame) : (s.repeated f).served = true := by
  rw [repeated_of_served hs]
  exact hs

/-- Repeating a frame deposits no item, so that one deposited after it stands behind those of the state before (R34, R35). -/
theorem offered_repeated_offer (hs : s.served = true) (f : PoleFrame) (cls idx : Nat) (v : Bytes) (aux : List Nat) :
    Offered s ((s.repeated f).offer cls idx v aux) cls idx v := by
  rw [repeated_of_served hs]
  exact offered_offer (s.sendFrame f) cls idx v aux

/-- What a slave repeats of a part of the master's plan (R422, R425). -/
abbrev State.partFrame (s : State) (type : Nat) (p : Bytes) : PoleFrame := ⟨type, s.sys.cascId, false, s.masterStroke, p⟩

variable (hs : s.served = true) (b : Bytes)
include hs

/-! ## Schedules, lists and aborts (R219, R239, R433) -/

/-- An LF part in time becomes the pending schedule, from the running stroke on (R219, R433). -/
theorem exec_lfSchedule_of_served : exec (.lfSchedule b false) s = .next { s.repeated (s.partFrame 4 b) with
    lf := { s.lf with next := some ⟨3, 0, s.sys.stroke, 200, b, []⟩ } } := by
  simp only [exec, execLfSchedule, served_repeated hs, Bool.not_true, Bool.false_eq_true, if_false]
  rw [repeated_of_served hs]
  rfl

/-- A radio part in time becomes the pending list; a late one is counted (R239, R433). -/
theorem exec_radioList_of_served (late : Bool) : exec (.radioList b late) s = .next (if late = true then
    (s.repeated (s.partFrame 5 b)).countUp 147 1
      else (s.repeated (s.partFrame 5 b)).listApply ⟨(s.repeated (s.partFrame 5 b)).partEntries 32 b, true⟩) := by
  simp only [exec, execRadioList, served_repeated hs, Bool.not_true, Bool.false_eq_true, if_false]
  cases late <;> rfl

/-- Bit 0 of an abort ends the LF activity, bit 1 the radios' (R425, R433). -/
theorem exec_abortActivity_of_served (which : Nat) : exec (.abortActivity which) s = .next
    (let t := if which.testBit 0 then (s.repeated (s.partFrame 6 (beBytes 1 which))).lfAbortNow
        else s.repeated (s.partFrame 6 (beBytes 1 which))
      if which.testBit 1 then t.radioAbortNow else t) := by
  simp only [exec, execAbortActivity, served_repeated hs, Bool.not_true, Bool.false_eq_true, if_false]

/-! ## KEY_CONTEXT (R435) -/

/-- A key context is queued for derivation on the slave's own queue 0 (R435). -/
theorem keyContext_queues (hq : s.quillUp = true) : Completes (.keyContext b) s fun t => ∃ r, t.quill.queue = s.quill.queue ++ [r] ∧
    r.queue = 0 ∧ r.mode = 10 ∧ r.slot = byteAt b 0 ∧ r.expect = some (beNat (slice b 1 4)) := by
  have hq' : (s.sendFrame (s.partFrame 7 b)).quillUp = true := hq
  have hserved : (s.sendFrame (s.partFrame 7 b)).served = true := hs
  simp only [Completes, exec, execKeyContext, repeated_of_served hs, hserved, hq', Bool.not_true, Bool.false_eq_true, if_false, if_true]
  exact ⟨_, rfl, _, rfl, rfl, rfl, rfl, rfl⟩

/-! ## LEARN_PAGE, LEARN_COMMIT (R304, R439) -/

/-- The unit of a Learn page: the page written into the staged bank under the slave's own EPOCH, the header page bringing the check of
the bank (R304, R439). -/
def State.learnPageUnit (s : State) (b : Bytes) : Staged :=
  let check : List Effect := if byteAt b 0 % 14 = 0 then [.poleCheck] else []
  { learnUnit check with
    need := .phase, held := check
    pairs := [⟨0, bankPair (s.epoch + 1) + byteAt b 0 % 14, ownEpoch (byteAt b 0 % 14) (s.epoch + 1) (slice b 2 240)⟩] }

theorem exec_learnPage_of_served : exec (.learnPage b) s = .next ((s.repeated (s.partFrame 8 b)).stage (s.learnPageUnit b)) := by
  simp only [exec, execLearnPage, served_repeated hs, Bool.not_true, Bool.false_eq_true, if_false]
  rw [repeated_of_served hs]
  rfl

theorem learnPage_stages_page (hp : byteAt b 0 % 14 ≠ 0) : Completes (.learnPage b) s fun t => ∃ u,
    t = (s.repeated (s.partFrame 8 b)).stage u ∧ u.need = .phase ∧ u.effs = [] ∧
      u.pairs = [⟨0, bankPair (s.epoch + 1) + byteAt b 0 % 14, ownEpoch (byteAt b 0 % 14) (s.epoch + 1) (slice b 2 240)⟩] :=
  ⟨_, exec_learnPage_of_served hs b, s.learnPageUnit b, rfl, rfl, if_neg hp, rfl⟩

theorem learnPage_stages_header (hp : byteAt b 0 % 14 = 0) : Completes (.learnPage b) s fun t => ∃ u,
    t = (s.repeated (s.partFrame 8 b)).stage u ∧ u.effs = [.poleCheck] ∧ u.pairs ≠ [] :=
  ⟨_, exec_learnPage_of_served hs b, s.learnPageUnit b, rfl, if_pos hp, List.cons_ne_nil _ _⟩

/-- A commit of the staged digest that comes before the group raises LEARN_EPOCH in it (R439). -/
theorem learnCommit_stages (hd : s.pole.self.staged = some (b.take 8)) (hph : s.sys.phase ≠ .commit) :
    Completes (.learnCommit b) s fun t => ∃ u, t = (s.repeated (s.partFrame 9 b)).stage u ∧ u.need = .phase ∧
      u.cells = [.tally 8 (s.epoch + 1)] ∧ u.carries .checkSet := by
  have hd' : (s.sendFrame (s.partFrame 9 b)).pole.self.staged = some (b.take 8) := hd
  have hknown : ((s.sendFrame (s.partFrame 9 b)).pole.self.staged == some (b.take 8) &&
      (s.sendFrame (s.partFrame 9 b)).sys.phase != .commit) = true := by
    simpa using And.intro hd' hph
  have hserved : (s.sendFrame (s.partFrame 9 b)).served = true := hs
  simp only [Completes, exec, execLearnCommit, repeated_of_served hs, hserved, hknown, Bool.not_true, Bool.false_eq_true, if_false,
    if_true]
  exact ⟨_, rfl, _, rfl, rfl, rfl, List.mem_cons_self⟩

/-! ## RELAY (R441) -/

/-- A relayed request is gathered as an item of source 0 (R441). -/
theorem relay_offers (prot : Nat) : Completes (.relay prot b) s fun t => t.staged = s.staged ∧ Offered s t 10 0 (b.take (msgLen b)) := by
  let f := s.partFrame 11 (beBytes 1 prot ++ b)
  have hexec : exec (.relay prot b) s = .next ((s.repeated f).offer 10 0 (b.take (msgLen b)) [4, 4, prot]) := by
    simp only [exec, execRelay, f, served_repeated hs, Bool.not_true, Bool.false_eq_true, if_false]
  refine ⟨_, hexec, ?_, offered_repeated_offer hs f 10 0 _ _⟩
  rw [offer_staged, repeated_of_served hs, State.sendFrame_staged]

end

/-- Settles O55, frame by frame. -/
theorem poleParts : Obligations.PoleParts := by
  unfold Obligations.PoleParts
  exact fun s b hs => ⟨exec_lfSchedule_of_served hs b, exec_radioList_of_served hs b false, exec_radioList_of_served hs b true,
    exec_abortActivity_of_served hs 0, exec_abortActivity_of_served hs 1, exec_abortActivity_of_served hs 2, keyContext_queues hs b,
    learnPage_stages_page hs b, learnPage_stages_header hs b, learnCommit_stages hs b, relay_offers hs b⟩

end Sys2Proof.Machine
end

section
/-!
PROOFS. ExchangeAnswered: the stroke of an exchange's response, over the air and over the cradle (R264, R267, R277, R278, R435).
-/

namespace Sys2Proof.Machine

/-- What the response stroke writes in an exchange of either kind: the answer it found and the stroke of its decision (R264, R274). -/
def State.answered (s : State) (x : Exchange) : Exchange :=
  { x with phase := .answered, answer := x.response, due := some (s.sys.stroke + 6) }

/-- The check of the answer's MAC under the generation the exchange started with; `y` is the exchange with its answer taken (R265, R278). -/
def State.macRequest (s : State) (y : Exchange) (p : Bytes) : IntReq :=
  ⟨0, 1, 9, answerSlot p, some y.gen, [], [], s.macMessage y p, answerMac p, 0, []⟩

/-- The derivation of the UWB session key (R267). -/
def Exchange.kdfRequest (x : Exchange) : IntReq :=
  ⟨0, 2, 10, x.slot, some x.gen, [], [], stsLabel ++ [0] ++ x.c ++ x.nonce, [], 32, []⟩

/-- The MAC check an answered exchange queues: none without an answer, and none in lockout (R264, R278). -/
def State.macCheck (s : State) (y : Exchange) : List Effect :=
  match y.answer with
  | some p => if y.lockout then [] else [.quillQueue (s.macRequest y p)]
  | none => []

/-- The key context for every ACTIVE slave with an anchor of the exchange (R435). -/
def State.keyContexts (s : State) (x : Exchange) : List Effect :=
  ((x.anchors.map (· / 32)).filter fun n => n != s.sys.cascId && s.slaveUp n).map fun n =>
    .poleSend ⟨7, n, false, s.sys.stroke + 1, beBytes 1 x.slot ++ beBytes 4 x.gen ++ x.c ++ x.nonce⟩

theorem macCheck_of_lockout (s : State) {y : Exchange} (h : y.lockout = true) : s.macCheck y = [] := by
  unfold State.macCheck
  split
  · rw [if_pos h]
  · rfl

theorem macCheck_of_answer (s : State) {y : Exchange} {p : Bytes} (ha : y.answer = some p) (hl : y.lockout = false) :
    s.macCheck y = [.quillQueue (s.macRequest y p)] := by
  simp [State.macCheck, ha, hl]

section
variable {s : State} {x : Exchange} (hw : s.working = true) (hr : s.tether.run = some x) (hph : x.phase = .running)
  (hf : x.found = true) (hresp : x.resp = some s.sys.stroke)
include hw hph hf hresp

/-- What the model asks of a running exchange before it takes the answer (R264). -/
theorem responseGathered_guard : (s.working && x.phase == .running && x.found && x.resp == some s.sys.stroke) = true := by
  simp [hw, hph, hf, hresp]

include hr

/-- Over the air, the response stroke stages the answered exchange, its MAC check, its key derivation and the slaves' key contexts. -/
theorem exec_responseGathered_of_air (hc : x.cradle = false) :
    exec .responseGathered s = .next (s.stage (plainUnit 0x08000000
      ((.exchange (some (s.answered x)) :: s.macCheck (s.answered x) ++ [.quillQueue x.kdfRequest]) ++ s.keyContexts x) [])) := by
  have hdue := responseGathered_guard hw hph hf hresp
  have hkind : (x.kind == 3 || x.kind == 4) = false := hc
  simp only [exec, execResponseGathered, hr, hdue, Exchange.cradle, hkind, Bool.false_eq_true, if_true, if_false]
  rfl

/-- Over the cradle, it stages the answered exchange and its MAC check alone. -/
theorem exec_responseGathered_of_cradle (hc : x.cradle = true) :
    ∃ y, exec .responseGathered s = .next (s.stage (plainUnit 0x08000000 (.exchange (some y) :: s.macCheck y) [])) ∧
      y.phase = .answered ∧ y.answer = x.response ∧ y.due = some (s.sys.stroke + 6) ∧ y.lockout = x.lockout := by
  have hdue := responseGathered_guard hw hph hf hresp
  have hkind : (x.kind == 3 || x.kind == 4) = true := hc
  refine ⟨{ s.answered x with slot := x.response.elim 0xFF answerSlot
                              badAtA := x.response.elim x.badAtA fun p => s.tokenState (answerSlot p) != 1
                              tn := ((x.uplinks.head?.bind uplinkPayload).getD []).drop 5 }, ?_, rfl, rfl, rfl, rfl⟩
  simp only [exec, execResponseGathered, hr, hdue, if_true, Exchange.cradle, hkind, List.append_nil]
  rfl

end

/-- Settles O40, by whether the exchange runs over the air or over the cradle. -/
theorem exchangeAnswered : Obligations.ExchangeAnswered := by
  unfold Obligations.ExchangeAnswered
  intro s x hw hr hph hf hresp
  cases hc : x.cradle with
  | false =>
    refine ⟨_, exec_responseGathered_of_air hw hr hph hf hresp hc, ⟨s.answered x, ?_, rfl, rfl, rfl⟩, ?mac, fun _ => ?kdf, ?lockout⟩
    · simp [Staged.carries, plainUnit]
    case mac =>
      intro p hp hl _
      rw [macCheck_of_answer s (y := s.answered x) hp hl]
      exact List.mem_cons_of_mem _ List.mem_cons_self
    case kdf =>
      show Effect.quillQueue x.kdfRequest ∈ _
      simp [plainUnit]
    case lockout =>
      intro hl r hq
      rw [macCheck_of_lockout s (y := s.answered x) hl] at hq
      have hkdf : r = x.kdfRequest := by simpa [Staged.carries, plainUnit, State.keyContexts] using hq
      have hmode : x.kdfRequest.mode = 10 := rfl
      rw [hkdf, hmode]
      decide
  | true =>
    obtain ⟨y, hx, hphase, hans, hdue, hlock⟩ := exec_responseGathered_of_cradle hw hr hph hf hresp hc
    refine ⟨_, hx, ⟨y, List.mem_cons_self, hphase, hans, hdue⟩, nofun, nofun, fun hl r hq => ?_⟩
    rw [macCheck_of_lockout s (hlock.trans hl)] at hq
    simp [Staged.carries, plainUnit] at hq

end Sys2Proof.Machine
end

section
/-!
PROOFS. AnchorsOfExchange: the anchors an exchange takes from its zone maps, and the ranging round of each (R261, R268, R433).
-/

namespace Sys2Proof.Machine

/-! ## The anchors of a pattern (R268) -/

theorem byteAt_lt (b : Bytes) (i : Nat) : byteAt b i < 256 := BitVec.isLt _

/-- An anchor that an entry of a zone map of the pattern names; 0xFF names none. -/
def State.NamesAnchor (s : State) (p a : Nat) : Prop := a < 255 ∧ ∃ z ∈ s.zoneMaps p, ∃ k, k < 8 ∧ (zoneAnchor z k).1 = a

/-- The anchors the zone maps of a pattern name, as the model lists them: map by map, with repetitions. -/
def State.mapAnchors (s : State) (p : Nat) : List Nat :=
  (s.zoneMaps p).flatMap fun z => ((List.range 8).map fun k => (zoneAnchor z k).1).filter (· != 0xFF)

theorem mem_mapAnchors (s : State) (p a : Nat) : a ∈ s.mapAnchors p ↔ s.NamesAnchor p a := by
  have hlt (z : Bytes) (k : Nat) : (zoneAnchor z k).1 < 256 := byteAt_lt _ _
  simp only [State.mapAnchors, State.NamesAnchor, List.mem_flatMap, List.mem_filter, List.mem_map, List.mem_range, bne_iff_ne]
  constructor
  · rintro ⟨z, hz, ⟨k, hk, rfl⟩, hne⟩
    exact ⟨by have := hlt z k; omega, z, hz, k, hk, rfl⟩
  · rintro ⟨ha, z, hz, k, hk, rfl⟩
    exact ⟨z, hz, ⟨k, hk, rfl⟩, by omega⟩

/-- The anchors named, ascending, none twice. -/
def State.namedAnchors (s : State) (p : Nat) : List Nat := (List.range 256).filter fun a => (s.mapAnchors p).contains a

theorem mem_namedAnchors (s : State) (p a : Nat) : a ∈ s.namedAnchors p ↔ s.NamesAnchor p a := by
  simp only [State.namedAnchors, List.mem_filter, List.mem_range, List.contains_iff_mem, mem_mapAnchors]
  exact ⟨And.right, fun h => ⟨h.1.trans (by decide), h⟩⟩

theorem namedAnchors_pairwise_lt (s : State) (p : Nat) : (s.namedAnchors p).Pairwise (· < ·) := List.pairwise_lt_range.filter _

theorem exchangeAnchors_of_not_commissioning {s : State} {p : Nat} (h : s.commissioning p = false) :
    s.exchangeAnchors p = (s.namedAnchors p).take s.anchorLimit := by
  simp only [State.exchangeAnchors, h, Bool.false_eq_true, if_false]
  rfl

theorem anchorLimit_eq (s : State) : s.anchorLimit = if s.sys.len = 0 then 2 else if s.sys.len = 1 then 5 else 8 := by
  unfold State.anchorLimit
  split <;> simp_all

/-- What the first `n` of an ascending list leave out, they leave out for want of room, and it is above all of them. -/
theorem lt_of_mem_take_of_not_mem_take {l : List Nat} (hl : l.Pairwise (· < ·)) {n a : Nat} (ha : a ∈ l) (hn : a ∉ l.take n) :
    (l.take n).length = n ∧ ∀ b ∈ l.take n, b < a := by
  have hsplit := hl
  rw [← List.take_append_drop n l, List.pairwise_append] at hsplit
  obtain ⟨-, -, hlt⟩ := hsplit
  have hdrop : a ∈ l.drop n := by
    rw [← List.take_append_drop n l, List.mem_append] at ha
    exact ha.resolve_left hn
  refine ⟨List.length_take_of_le ?_, fun b hb => hlt b hb a hdrop⟩
  have hpos := List.length_pos_of_mem hdrop
  rw [List.length_drop] at hpos
  omega

/-! ## The round of an anchor (R261, R433) -/

theorem entryBytes_ne_nil (e : RadioEntry) : entryBytes e ≠ [] := by
  have h : 0 < (entryBytes e).length := by
    simp only [entryBytes, List.length_append, beBytes_length]
    omega
  exact List.ne_nil_of_length_pos h

/-- The bytes that one element gives stand somewhere among those of the whole list. -/
theorem exists_flatMap_eq_append {α : Type} (f : α → Bytes) {l : List α} {y : α} (h : y ∈ l) :
    ∃ before after, l.flatMap f = before ++ f y ++ after := by
  obtain ⟨l₁, l₂, rfl⟩ := List.append_of_mem h
  exact ⟨l₁.flatMap f, l₂.flatMap f, by simp⟩

section
variable (s : State) {x : Exchange} {k a : Nat} (hk : x.anchors[k]? = some a)
include hk

/-- An anchor of this device has its round in the device's own schedule list. -/
theorem planEffects_own_round (ha : a / 32 = s.sys.cascId) :
    ∃ l, Effect.radioList l ∈ s.planEffects x ∧ s.roundEntry (s.responseStroke x.a x.pattern) k ∈ l.entries := by
  have hround : (a, k) ∈ x.anchors.zipIdx := List.mk_mem_zipIdx_iff_getElem?.mpr hk
  refine ⟨_, List.mem_append_left _ (List.mem_cons_of_mem _ List.mem_cons_self), List.mem_append_right _ ?_⟩
  exact List.mem_map.mpr ⟨(a, k), List.mem_filter.mpr ⟨hround, by simp [ha]⟩, rfl⟩

/-- An anchor of an ACTIVE slave has its round in the schedule list sent to that slave. -/
theorem planEffects_slave_round (hne : a / 32 ≠ s.sys.cascId) (hlt : a / 32 < 8) (hup : s.slaveUp (a / 32) = true) :
    ∃ before after, Effect.poleSend ⟨5, a / 32, false, x.a + 1,
      before ++ entryBytes (s.roundEntry (s.responseStroke x.a x.pattern) k) ++ after⟩ ∈ s.planEffects x := by
  have hround : (a, k) ∈ x.anchors.zipIdx.filter fun y => y.1 / 32 == a / 32 :=
    List.mem_filter.mpr ⟨List.mk_mem_zipIdx_iff_getElem?.mpr hk, by simp⟩
  have hslave : a / 32 ∈ (List.range 8).filter fun n => n != s.sys.cascId && s.slaveUp n :=
    List.mem_filter.mpr ⟨List.mem_range.mpr hlt, by simp [hne, hup]⟩
  obtain ⟨before, after, hrs⟩ :=
    exists_flatMap_eq_append (fun y : Nat × Nat => entryBytes (s.roundEntry (s.responseStroke x.a x.pattern) y.2)) hround
  have hnil : before ++ entryBytes (s.roundEntry (s.responseStroke x.a x.pattern) k) ++ after ≠ [] := by
    simp [entryBytes_ne_nil]
  refine ⟨before, after, List.mem_append_right _ (List.mem_flatMap.mpr ⟨a / 32, hslave, List.mem_append_right _ ?_⟩)⟩
  rw [hrs, if_neg hnil]
  exact List.mem_cons_self

end

/-- Settles O60: the anchors are the first of the ascending list of those named, and each round is found in the plan by its anchor's device. -/
theorem anchorsOfExchange : Obligations.AnchorsOfExchange := by
  unfold Obligations.AnchorsOfExchange
  refine fun s p => ⟨fun hc => ?anchors, fun x k a hk => ⟨planEffects_own_round s hk, planEffects_slave_round s hk⟩⟩
  case anchors =>
    simp only [exchangeAnchors_of_not_commissioning hc, ← anchorLimit_eq]
    exact ⟨(namedAnchors_pairwise_lt s p).take, fun a ha => (mem_namedAnchors s p a).mp (List.mem_of_mem_take ha),
      List.length_take_le _ _, fun a ha hn =>
        lt_of_mem_take_of_not_mem_take (namedAnchors_pairwise_lt s p) ((mem_namedAnchors s p a).mpr ha) hn⟩

end Sys2Proof.Machine
end

section
/-!
PROOFS. LearnPhases: a Learn from its staged pages through its check, its epoch and its scrub to its end, and what rolls it back (R302-R305,
R439).
-/

namespace Sys2Proof.Machine

/-! ## Pages in steps of four (R302, R305) -/

/-- A step of four out of `m` pages goes on from `n` to `n + 4`, and no further than the last. -/
theorem add_length_take_drop {α : Type} {pages : List α} {m n : Nat} (hm : pages.length = m) (h : n < m) :
    n + ((pages.drop n).take 4).length = min m (n + 4) := by
  rw [List.length_take, List.length_drop, hm]
  omega

theorem add_length_scrubPages {n : Nat} (h : n + 4 < 30) : n + (((List.range 30).drop n).take 4).length = n + 4 := by
  rw [add_length_take_drop List.length_range (by omega)]
  omega

/-- What a Learn does to its entry is staged where it has one (R302). -/
theorem mem_learnEntry (s : State) {l : Learn} (hpos : l.pos < 16) (f : Inflight → Inflight) :
    .inflight l.pos (f (s.inflightAt l.pos)) ∈ s.learnEntry l f := by
  rw [State.learnEntry, if_pos hpos]
  exact List.mem_singleton_self _

/-- What the model asks of a Learn before it scrubs (R302). -/
theorem learnScrub_guard {s : State} {l : Learn} (hw : s.working = true) (hgroup : s.staged.any (fun u => u.need == .phase) = false)
    (hph : s.learnPhaseOf l = 3) : (s.working && s.learnPhaseOf l == 3 && !s.staged.any (fun u => u.need == .phase)) = true := by
  simp [hw, hph, hgroup]

section
variable {s : State} {l : Learn} (hw : s.working = true) (hl : s.learnNow = some l)
include hw hl

/-! ## LEARN_STAGE (R302, R304) -/

/-- With every key there and no other group in the stroke, up to four pages of the staged bank are written, the header page last. -/
theorem learnStage_stages_pages (hgroup : s.staged.any (fun u => u.need == .phase) = false) (hph : s.learnPhaseOf l = 0)
    (hwr : l.written < 14) (hkeys : l.awaiting = []) (hok : l.failed = false) (hitems : s.gathered.filter Item.isUnwrap = []) :
    Stages .learnStage s fun u => u.need = .phase ∧
      (∃ l', u.carries (.learn (some l')) ∧ l'.written = min 14 (l.written + 4) ∧ l'.refused = 0) ∧
      u.pairs = (((List.range 14).map fun i => (i + 1) % 14).drop l.written |>.take 4).map fun i =>
        (⟨0, bankPair (l.epoch + 1) + i, slice (s.stagedBank l) (240 * i) 240⟩ : PairWrite) := by
  have htake : l.take [] = l := rfl
  have hrun : ¬ (s.learnPhaseOf l ≠ 0 ∨ 14 ≤ l.written) := by omega
  have hready : ¬ (l.awaiting ≠ [] ∨ s.staged.any (fun u => u.need == .phase) = true) := by simp [hkeys, hgroup]
  simp only [Stages, exec, execLearnStage, hw, hl, hitems, htake, if_neg hrun, if_neg hready, hok, List.foldl_nil, Bool.not_true,
    Bool.false_eq_true, if_true, if_false]
  exact ⟨_, rfl, rfl, ⟨_, List.mem_cons_self, add_length_take_drop (by simp) hwr, rfl⟩, rfl⟩

/-! ## LEARN_VERIFY, LEARN_SLAVE_TIMEOUT (R302, R304) -/

/-- A staged bank that fails its check rolls the Learn back. -/
theorem exec_learnVerify_of_invalid (hph : s.learnPhaseOf l = 1) (hpos : l.pos < 16) (hnew : l.checked = none)
    (hbad : s.bankValid ((l.epoch + 1) % 2) (l.epoch + 1) = false) :
    exec .learnVerify s = .next (s.stage (learnUnit (s.learnFails l stDENIED))) := by
  simp [exec, execLearnVerify, hl, hw, hph, hpos, hnew, hbad]

/-- A staged bank that passes brings PHASE 2 once every slave that is up has reported or is left out. -/
theorem learnVerify_stages_phase (hph : s.learnPhaseOf l = 1) (hpos : l.pos < 16)
    (hvalid : s.bankValid ((l.epoch + 1) % 2) (l.epoch + 1) = true) (hslaves : ∀ n, n ∈ s.slavesUp → n ∈ l.reports ∨ n ∈ l.left) :
    Stages .learnVerify s fun u => u.carries (.inflight l.pos (s.phased (s.inflightAt l.pos) 2)) := by
  have hguard : (s.working && s.learnPhaseOf l == 1 && decide (l.pos < 16)) = true := by simp [hw, hph, hpos]
  have hall : (s.slavesUp.all fun n => l.reports.contains n || l.left.contains n) = true := by simpa using hslaves
  simp only [Stages, exec, execLearnVerify, hl, hguard, hvalid, hall, Bool.not_true, Bool.and_false, Bool.false_eq_true, if_true, if_false]
  exact ⟨_, rfl, List.mem_cons_of_mem _ (mem_learnEntry s (l := { l with checked := _ }) hpos fun e => s.phased e 2)⟩

/-- A slave without a report 32 strokes after the check is left out and staged again later. -/
theorem exec_learnSlaveTimeout_of_late {c n : Nat} (hph : s.learnPhaseOf l = 1) (hc : l.checked = some c) (hlate : c + 32 ≤ s.sys.stroke)
    (hup : s.slavesUp.contains n = true) (hnone : l.reports.contains n = false) : exec (.learnSlaveTimeout n) s =
      .next (s.stage (learnUnit [.learn (some { l with left := l.left ++ [n] }), .slaveRestage n true])) := by
  have hguard : (s.working && s.learnPhaseOf l == 1 && decide (c + 32 ≤ s.sys.stroke) && s.slavesUp.contains n &&
      !l.reports.contains n) = true := by simp only [hw, hph, hlate, hup, hnone]; rfl
  simp only [exec, execLearnSlaveTimeout, hl, hc, hguard, if_true]

/-! ## LEARN_PHASE_COMMIT (R302, R304) -/

/-- The epoch is raised by one cell word in the group that records PHASE 3. -/
theorem learnPhaseCommit_stages (hgroup : s.staged.any (fun u => u.need == .phase) = false) (hph : s.learnPhaseOf l = 2)
    (hpos : l.pos < 16) : Stages .learnPhaseCommit s fun u => u.need = .phase ∧ u.cells = [.tally 8 (l.epoch + 1)] ∧
      u.carries .checkSet ∧ u.carries (.inflight l.pos (s.phased (s.inflightAt l.pos) 3)) := by
  have hguard : (s.working && s.learnPhaseOf l == 2 && decide (l.pos < 16) && !s.staged.any (fun u => u.need == .phase)) = true := by
    simp [hw, hph, hpos, hgroup]
  simp only [Stages, exec, execLearnPhaseCommit, hl, hguard, if_true]
  exact ⟨_, rfl, rfl, rfl, List.mem_cons_of_mem _ List.mem_cons_self,
    List.mem_append_right _ (mem_learnEntry s hpos fun e => s.phased e 3)⟩

/-! ## LEARN_SCRUB (R302, R305) -/

/-- While pages remain, four more are scrubbed: the pages it writes are those of the old bank, and it writes them empty. -/
theorem learnScrub_stages_step (hgroup : s.staged.any (fun u => u.need == .phase) = false) (hph : s.learnPhaseOf l = 3)
    (hmore : l.scrub + 4 < 30) : Stages .learnScrub s fun u => u.need = .phase ∧
      u.carries (.learn (some { l with scrub := l.scrub + 4 })) ∧
      (∀ w ∈ u.pairs, bankPair l.epoch ≤ w.pair ∧ w.pair < bankPair l.epoch + 14 ∧ w.payload = zeros 240) := by
  have hguard := learnScrub_guard hw hgroup hph
  have hdone : decide (30 ≤ l.scrub + 4) = false := decide_eq_false (by omega)
  simp only [Stages, exec, execLearnScrub, hl, hguard, hdone, add_length_scrubPages hmore, Bool.false_and, Bool.false_eq_true, if_true,
    if_false]
  refine ⟨_, rfl, rfl, List.mem_cons_self, fun w hmem => ?_⟩
  obtain ⟨i, hi, rfl⟩ := List.mem_map.1 hmem
  have hlt : i < 14 := of_decide_eq_true (List.mem_filter.1 hi).2
  exact ⟨Nat.le_add_right _ _, Nat.add_lt_add_left hlt _, rfl⟩

/-- The last pages scrubbed bring PHASE 4. -/
theorem learnScrub_stages_phase (hgroup : s.staged.any (fun u => u.need == .phase) = false) (hph : s.learnPhaseOf l = 3)
    (hpos : l.pos < 16) (hlast : 30 ≤ l.scrub + 4) :
    Stages .learnScrub s fun u => u.carries (.inflight l.pos (s.phased (s.inflightAt l.pos) 4)) := by
  have hguard := learnScrub_guard hw hgroup hph
  simp only [Stages, exec, execLearnScrub, hl, hguard, hlast, decide_true, if_true]
  exact ⟨_, rfl, List.mem_cons_of_mem _ (mem_learnEntry s hpos fun e => s.phased e 4)⟩

/-! ## LEARN_DONE, LEARN_HOLD_TIMEOUT (R302) -/

/-- After the scrub the entry closes DONE, the Learn is over and the image is zeroed. -/
theorem learnDone_stages (hph : s.learnPhaseOf l = 4) (hpos : l.pos < 16) : Stages .learnDone s fun u =>
    u.carries .learnClear ∧ u.carries (.learn none) ∧ u.carries (objN 0x301003 stOK) ∧
      u.carries (.inflight l.pos (s.closed (s.phased (s.inflightAt l.pos) 5) 2 stOK)) := by
  have hguard : (s.working && s.learnPhaseOf l == 4) = true := by simp [hw, hph]
  simp only [Stages, exec, execLearnDone, hl, hguard, if_true]
  exact ⟨_, rfl, List.mem_append_right _ (List.mem_cons_of_mem _ List.mem_cons_self), List.mem_append_right _ List.mem_cons_self,
    List.mem_append_right _ (List.mem_cons_of_mem _ (List.mem_cons_of_mem _ List.mem_cons_self)),
    List.mem_append_left _ (mem_learnEntry s hpos fun e => s.closed (s.phased e 5) 2 stOK)⟩

/-- 1,000 refusals in a row before COMMIT roll the Learn back. -/
theorem exec_learnHoldTimeout_of_refused (hph : s.learnPhaseOf l < 3) (hrefused : 1000 ≤ l.refused) :
    exec .learnHoldTimeout s = .next (s.stage (learnUnit (s.learnFails l stINKWELL_LOW_HOLD))) := by
  simp [exec, execLearnHoldTimeout, hl, hw, hph, hrefused]

end

/-- Settles O43, phase by phase. -/
theorem learnPhases : Obligations.LearnPhases := by
  unfold Obligations.LearnPhases
  exact fun s l hw hl hgroup => ⟨learnStage_stages_pages hw hl hgroup, exec_learnVerify_of_invalid hw hl, learnVerify_stages_phase hw hl,
    fun c n => exec_learnSlaveTimeout_of_late hw hl, learnPhaseCommit_stages hw hl hgroup,
    fun hph _ => learnScrub_stages_step hw hl hgroup hph, learnScrub_stages_phase hw hl hgroup, learnDone_stages hw hl,
    exec_learnHoldTimeout_of_refused hw hl⟩

end Sys2Proof.Machine
end

section
/-!
PROOFS. Countersigning: a host principal's authentication counted or failed, and what expires (R293, R295, R296, R298).
-/

namespace Sys2Proof.Machine

/-! ## AUTHENTICATION (R293, R295, R296) -/

/-- The first gathered verification is taken for the proposal and the principal it names. -/
theorem exec_authentication_of_gathered {s : State} {i : Item} {num principal : Nat} (hw : s.working = true)
    (hi : s.gathered.find? (fun i => i.authentication.isSome) = some i) (ha : i.authentication = some (num, principal)) :
    exec .authentication s = .next ((s.consume i).authenticate i num principal) := by
  simp only [exec, execAuthentication, hw, hi, ha, Bool.not_true, Bool.false_eq_true, if_false]

section
variable {s : State} {i : Item} {num principal : Nat} {p : Proposal}
  (hp : s.proposalsNow.find? (fun q => q.num == num) = some p) (hran : byteAt i.val 0 = stOK)
include hp hran

/-- A MAC that matches counts. -/
theorem authenticate_of_match (hmatch : byteAt i.val 1 = 0) : s.authenticate i num principal = s.countAuth i.key p principal := by
  simp only [State.authenticate, hp, hran, hmatch, and_self, if_true]

/-- A MAC that does not match fails the authentication, which is recorded with reason 5. -/
theorem authenticate_of_mismatch (hmatch : byteAt i.val 1 ≠ 0) :
    s.authenticate i num principal = s.failAuth i.key p [s.authRec 0x05 principal] := by
  simp only [State.authenticate, hp, hran, hmatch, and_false, if_true, if_false]

end

/-! ### Counted (R295) -/

/-- The first authentication sets STATE 2, FIRST and 30 s for the second. -/
theorem countAuth_first (s : State) (key principal : Nat) {p : Proposal} (hst : p.state = 1) :
    s.countAuth key p principal = s.stage (plainUnit key
      [.proposal { p with state := 2, first := principal, closes := s.sys.stroke + s.secStrokes 30 }] []) := if_pos hst

/-- The second, by another member and in time, applies the proposal while the first is a member still. -/
theorem countAuth_second (s : State) (key : Nat) {principal : Nat} {p : Proposal} (hst : p.state = 2) (hother : p.first ≠ principal)
    (hopen : s.sys.stroke ≤ p.closes) (hfirst : s.isMember p.first = true) (hsecond : s.isMember principal = true) :
    s.countAuth key p principal = s.applyProposal key p := by
  have hne : p.state ≠ 1 := by omega
  simp only [State.countAuth, if_neg hne, if_neg hother, if_neg (Nat.not_lt.2 hopen), hfirst, hsecond, Bool.and_self, if_true]

/-! ### Failed (R296) -/

/-- A failed authentication stages one unit that counts it in CS_FAILURES. -/
theorem failAuth_eq_stage (s : State) (key : Nat) (p : Proposal) (recs : List NewRec) :
    s.failAuth key p recs = s.stage { plainUnit key (if p.fails + 1 < 3 then [Effect.proposal { p with fails := p.fails + 1 }]
      else s.discardProposal { p with fails := p.fails + 1 }) recs with
        cells := [.tally 10 (min (2 ^ 48 - 1) (s.tallyNow 10 + 1))] } := rfl

/-- A discarded proposal frees its slot, and its requester is answered DENIED. -/
theorem discardProposal_ends (s : State) (p : Proposal) :
    .proposalFree p.slot ∈ s.discardProposal p ∧ ∃ m, .respond p.req false stDENIED m ∈ s.discardProposal p :=
  ⟨List.mem_cons_self, _, List.mem_append_right _ List.mem_cons_self⟩

/-- Before the third failure the proposal stays held, with one failure more. -/
theorem failAuth_of_few (s : State) (key : Nat) {p : Proposal} (recs : List NewRec) (hfew : p.fails < 2) :
    ∃ u, s.failAuth key p recs = s.stage u ∧ u.effs = [.proposal { p with fails := p.fails + 1 }] ∧
      u.cells = [.tally 10 (min (2 ^ 48 - 1) (s.tallyNow 10 + 1))] :=
  ⟨_, failAuth_eq_stage s key p recs, if_pos (by omega), rfl⟩

/-- The third failure discards it. -/
theorem failAuth_of_third (s : State) (key : Nat) {p : Proposal} (recs : List NewRec) (hthird : 2 ≤ p.fails) :
    ∃ u m, s.failAuth key p recs = s.stage u ∧ u.carries (.proposalFree p.slot) ∧ u.carries (.respond p.req false stDENIED m) := by
  obtain ⟨hfree, m, hanswer⟩ := discardProposal_ends s { p with fails := p.fails + 1 }
  have hno : ¬ p.fails + 1 < 3 := by omega
  refine ⟨_, m, failAuth_eq_stage s key p recs, ?_⟩
  rw [if_neg hno]
  exact ⟨hfree, hanswer⟩

/-! ## PROPOSAL_EXPIRY, DEBUG_UNLOCK_EXPIRY (R295, R298) -/

/-- A proposal held to CLOSES is discarded. -/
theorem exec_proposalExpiry_of_closed (s : State) (num : Nat) (p : Proposal) (hw : s.working = true)
    (hp : s.proposalsNow.find? (fun q => q.num == num) = some p) (hclosed : p.closes ≤ s.sys.stroke) :
    exec (.proposalExpiry num) s = .next (s.stage (plainUnit 0x0E000000 (s.discardProposal p) [])) := by
  simp only [exec, execProposalExpiry, hp, hw, hclosed, decide_true, Bool.and_self, if_true]

/-- The debug permission ends with its seconds. -/
theorem exec_debugUnlockExpiry_of_past (s : State) (u : Nat) (hd : s.people.debugUntil = some u) (hpast : u ≤ s.sys.stroke) :
    exec .debugUnlockExpiry s = .next { s with people := { s.people with debugUntil := none } } := by
  simp only [exec, execDebugUnlockExpiry, hd, hpast, if_true]

/-- Settles O44: taking the verification out of the gathered items leaves the proposals, the members and CS_FAILURES as they were, so the
outcome of its MAC is judged on them. -/
theorem countersigning : Obligations.Countersigning := by
  unfold Obligations.Countersigning
  refine ⟨fun s i num principal p hw hi ha hp => ?_, exec_proposalExpiry_of_closed, exec_debugUnlockExpiry_of_past⟩
  have hexec := exec_authentication_of_gathered hw hi ha
  have hp' : (s.consume i).proposalsNow.find? (fun q => q.num == num) = some p := hp
  refine ⟨fun hran hmatch hst => ?first, fun hran hmatch hst hother hopen hfirst hsecond => ?second, fun hran hbad hfew => ?failed,
    fun hran hbad hthird => ?discarded⟩
  case first =>
    rw [hexec, authenticate_of_match hp' hran hmatch, countAuth_first _ _ _ hst]
    rfl
  case second =>
    rw [hexec, authenticate_of_match hp' hran hmatch, countAuth_second (s.consume i) _ hst hother hopen hfirst hsecond]
  case failed =>
    exact ⟨_, hexec.trans (congrArg _ (authenticate_of_mismatch hp' hran hbad)), failAuth_of_few _ _ _ hfew⟩
  case discarded =>
    exact ⟨_, hexec.trans (congrArg _ (authenticate_of_mismatch hp' hran hbad)), failAuth_of_third _ _ _ hthird⟩

end Sys2Proof.Machine
end

section
/-!
PROOFS. FeedStates: the states of Feed from start to stop, its failures, its configuration, its PLL and the load step (R312-R329, R344).
-/

namespace Sys2Proof.Machine

/-- Counting one shadow counter leaves the others (R178). -/
theorem shadow_countUp_ne (s : State) {n m : Nat} (k : Nat) (h : m ≠ n) : (s.countUp n k).shadow m = s.shadow m := by
  rw [State.shadow, State.countUp, alookup_ainsert_ne _ _ _ _ h, State.shadow]

/-! ## Start and stop (R317-R327) -/

theorem exec_feedEnable_of_idle {s : State} (hen : s.feedEn = true) (hlocked : s.feed.locked = true) (hidle : s.feed.state = 1) :
    exec .feedEnable s = .next s.feedStart :=
  if_pos (by simp [hen, hlocked, hidle])

/-- TRACK_IN holds Feed in RAMP only where the configuration tracks (R319). -/
theorem exec_switchingBegins_of_tracked {s : State} {track : Nat} (hramp : s.feed.state = 3) (h : s.feedCfg 8 = 2 ∨ 50 ≤ track) :
    exec (.switchingBegins track) s = .next { s with feed := { s.feed with switching := true } } :=
  if_pos ⟨hramp, fun hheld => h.elim hheld.1 (Nat.not_le.2 hheld.2)⟩

/-- In RUN and TRANSITION power good comes back without a change of state (R325). -/
theorem exec_pgDelay_of_running {s : State} (h : s.feed.state = 5 ∨ s.feed.state = 6) :
    exec .pgDelay s = .next { s with feed := { s.feed with pg := true } } := by
  have hwait : s.feed.state ≠ 4 := by omega
  exact (if_neg hwait).trans (if_pos h)

theorem exec_feedDisable_of_started {s : State} (hoff : s.feedEn = false) (h2 : 2 ≤ s.feed.state) (h6 : s.feed.state ≤ 6) :
    exec .feedDisable s = .next { s with feed := { s.feed.dropPg with state := 7 } } :=
  (if_neg (by simp [hoff])).trans (if_pos ⟨h2, h6⟩)

theorem exec_feedDisable_of_hiccup {s : State} (hoff : s.feedEn = false) (hh : s.feed.state = 8) :
    exec .feedDisable s = .next { s with feed := { s.feed with state := 1 } } :=
  (if_neg (by simp [hoff])).trans ((if_neg (by omega)).trans (if_pos hh))

theorem exec_stopComplete_of_stopping {s : State} (h : s.feed.state = 7) : exec .stopComplete s = .next { s with feed := s.feed.off 1 } :=
  if_pos h

/-! ## Undervoltage (R321, R323) -/

/-- A failed start or undervoltage ends in LATCHED_OFF or HICCUP with the watch disarmed, and counts no undervoltage of its own. -/
theorem feedFails_ends (s : State) (cause : Nat) : (s.feedFails cause).shadow 40 = s.shadow 40 ∧ (s.feedFails cause).feed.watch = false ∧
    ((s.feedFails cause).feed.state = 8 ∨ (s.feedFails cause).feed.state = 9) := by
  unfold State.feedFails
  split
  next => exact ⟨rfl, rfl, .inr rfl⟩
  next =>
    split
    next => exact ⟨rfl, rfl, .inr rfl⟩
    next => exact ⟨shadow_countUp_ne s 1 (by decide), rfl, .inl rfl⟩

theorem exec_undervoltageEvent_of_watched {s : State} (h : s.feed.watch = true) :
    exec .undervoltageEvent s = .next (State.feedFails { s.countUp 40 1 with feed := s.feed.stick 3 } 1) :=
  if_pos h

theorem undervoltageEvent_completes {s : State} (h : s.feed.watch = true) : Completes .undervoltageEvent s fun t =>
    t.shadow 40 = (s.shadow 40 + 1) % 2 ^ 32 ∧ t.feed.watch = false ∧ (t.feed.state = 8 ∨ t.feed.state = 9) := by
  obtain ⟨hcount, hwatch, hstate⟩ := feedFails_ends { s.countUp 40 1 with feed := s.feed.stick 3 } 1
  exact ⟨_, exec_undervoltageEvent_of_watched h, hcount.trans (shadow_countUp s 40 1), hwatch, hstate⟩

/-- An applied configuration is no longer pending (R327). -/
theorem feedPending_feedApply (s : State) : s.feedApply.feedPending = false := by
  have hcfg : s.feedApply.feed.cfg = s.feedApply.feedCommitted := rfl
  simp [State.feedPending, hcfg]

/-! ## Synchronisation (R313, R314) -/

theorem exec_syncInLoss_of_locked {s : State} (hlocked : s.feed.locked = true) (hlost : s.feed.lost = false) :
    exec .syncInLoss s = .next { s.countUp 43 1 with feed := { s.feed with lost := true } } :=
  if_pos (by simp [hlocked, hlost])

theorem exec_relock_of_lost {s : State} (f : Nat) (hlocked : s.feed.locked = true) (hlost : s.feed.lost = true) (hmeets : s.syncMeets f = true) :
    exec (.relock f) s = .next { s with feed := { s.feed with lost := false, fsync := f } } :=
  if_pos (by simp [hlocked, hlost, hmeets])

/-! ## Load steps (R317) -/

/-- The phases in rotation from the pointer. -/
abbrev State.rotation (s : State) : List Nat :=
  (List.range (max 1 (s.feedCfg 0))).map fun i => (s.feed.pointer + i) % max 1 (s.feedCfg 0)

/-- The first ready phase in rotation fires, and the pointer moves past it. -/
theorem exec_loadStep_of_ready {s : State} {ready p : Nat} (hstate : s.feed.state = 5 ∨ s.feed.state = 6) (hon : s.feedCfg 19 ≠ 0)
    (harmed : s.feed.lsArmed = true) (hfirst : s.rotation.find? (Nat.testBit ready) = some p) :
    exec (.loadStep ready) s = .next { s.countUp 44 1 with
      feed := { s.feed.stick 6 with pointer := (p + 1) % max 1 (s.feedCfg 0), lsArmed := false } } := by
  refine (if_pos ⟨hstate, hon, harmed⟩).trans ?_
  rw [show (List.map _ _).find? ready.testBit = some p from hfirst]

/-- Settles O45, command by command. -/
theorem feedStates : Obligations.FeedStates := by
  unfold Obligations.FeedStates
  refine ⟨fun s => ⟨?enable, fun h => if_pos h, fun _ hramp h => exec_switchingBegins_of_tracked hramp h, fun h hsw => if_pos ⟨h, hsw⟩,
      fun h => if_pos h, exec_pgDelay_of_running, fun h2 h4 => if_pos ⟨h2, h4⟩, ?hiccup, fun h => if_pos h⟩,
    fun s => ⟨fun h => if_pos h, exec_feedDisable_of_started, exec_feedDisable_of_hiccup, ?stop, undervoltageEvent_completes, ?apply⟩,
    fun s => ⟨fun _ h0 hunlocked hmeets => if_pos ⟨h0, hunlocked, hmeets⟩, exec_syncInLoss_of_locked, exec_relock_of_lost,
      fun _ _ => exec_loadStep_of_ready, rfl⟩⟩
  case enable => exact fun hen hlocked hidle => ⟨_, exec_feedEnable_of_idle hen hlocked hidle, rfl, rfl⟩
  case hiccup => exact fun hh hen => ⟨_, if_pos ⟨hh, hen⟩, rfl, rfl⟩
  case stop => exact fun h => ⟨_, exec_stopComplete_of_stopping h, rfl, rfl, rfl⟩
  case apply => exact fun h => ⟨_, if_pos h, rfl, feedPending_feedApply s⟩

end Sys2Proof.Machine
end

section
/-!
PROOFS. RepeatedSetVid: what a Feed item and a valid request leave of Feed, and the answer to a repeated SET_VID (R333, R335, R337).
-/

namespace Sys2Proof.Machine

/-- A Feed item changes nothing of Feed but the queue of its items (R328). -/
theorem feedItem_feed (s : State) (v : Bytes) : (s.feedItem v).feed = { s.feed with queue := (s.feedItem v).feed.queue } := by
  unfold State.feedItem
  split
  next => rw [offer_feed]
  next =>
    dsimp only
    split
    next => split <;> rfl
    next => split <;> rfl

/-- Of Feed a valid request changes the link and the queue of items alone (R337). -/
theorem linkValid_feed (s : State) (ref : Nat) :
    (s.linkValid ref).feed = { s.feed with link := (s.linkValid ref).feed.link, queue := (s.linkValid ref).feed.queue } := by
  unfold State.linkValid
  dsimp only
  split
  next =>
    split
    next => rw [State.linkItem, feedItem_feed]
    next => rfl
  next => rfl

theorem crc8_lt (b : Bytes) : crc8 b < 2 ^ 8 := by
  unfold crc8
  induction nums b using List.reverseRecOn with
  | nil => decide
  | append_singleton l x _ =>
    rw [List.foldl_concat]
    exact crcMsbByte_lt 8 _ _ _

/-- STATE and ACCEPTED as they stand in the response (R333). -/
theorem response_fields (f : Feed) (cmd seq : Nat) (accepted refused : Bool) (h : f.state < 16) :
    f.response cmd seq accepted refused / 2 ^ 11 % 2 = b2n accepted ∧ f.response cmd seq accepted refused / 2 ^ 12 % 16 = f.state := by
  have hbit (b : Bool) : b2n b ≤ 1 := by cases b <;> decide
  have ha := hbit accepted
  have hr := hbit refused
  have hk := hbit f.ack
  have hp := hbit f.pg
  unfold Feed.response
  dsimp only
  have hcrc := crc8_lt (beBytes 3 (2 ^ 22 + cmd % 8 * 2 ^ 19 + seq % 8 * 2 ^ 16 + f.vid * 2 ^ 8 + f.state * 16 + b2n accepted * 8 +
    b2n refused * 4 + b2n f.ack * 2 + b2n f.pg))
  generalize crc8 _ = c at hcrc ⊢
  constructor <;> omega

theorem exec_setVid_of_repeat {s : State} {seq vid slew : Nat} (ref : Nat) (h0 : s.feed.state ≠ 0) (hseq : seq < 8)
    (hlast : s.feed.last = some (seq, vid, slew)) :
    exec (.setVid seq vid slew ref) s = .next ((s.linkValid ref).linkReply 2 seq true false) := by
  have hmod : seq % 8 = seq := Nat.mod_eq_of_lt hseq
  have hrepeat : (s.linkValid ref).feed.last = some (seq % 8, vid, slew) := by rw [linkValid_feed, hmod, hlast]
  have hx : exec (.setVid seq vid slew ref) s = .next ((s.linkValid ref).linkReply 2 (seq % 8) true false) :=
    (if_neg h0).trans (if_pos hrepeat)
  rwa [hmod] at hx

/-- Settles O58: a valid request changes only the link and its items, so the response shows the state it found. -/
theorem repeatedSetVid : Obligations.RepeatedSetVid := by
  unfold Obligations.RepeatedSetVid
  intro s seq vid slew ref h0 hlt hseq hlast
  have hfeed := linkValid_feed s ref
  have hstate : (s.linkValid ref).feed.state = s.feed.state := by rw [hfeed]
  have hack : (s.linkValid ref).feed.ack = s.feed.ack := by rw [hfeed]
  have hvid : (s.linkValid ref).feed.vid = s.feed.vid := by rw [hfeed]
  have hkept : (s.linkValid ref).feed.last = s.feed.last := by rw [hfeed]
  obtain ⟨hacc, hst⟩ := response_fields (s.linkValid ref).feed 2 seq true false (hstate ▸ hlt)
  exact ⟨_, exec_setVid_of_repeat ref h0 hseq hlast, rfl, hacc, hst.trans hstate, hstate, hack, hvid, hkept⟩

end Sys2Proof.Machine
end

section
/-!
PROOFS. PortWrites: what one unit stages for an accepted write of a Feed, Ridgeline, CAN, Pole or Folio object (R326, R345, R397, R403,
R405, R417, R441, R460, R463).
-/

namespace Sys2Proof.Machine

section
variable {s : State} {r : Requester} {v : Bytes}

/-! ## FEED_FAULT_CLEAR, IGNITION_OFF (R326, R345) -/

theorem feedFaultClear_stages (h : s.takes r 0x480004 v) (hv : beNat v = 1) (hoff : s.feedEn = false) :
    Stages (.feedFaultClear r v) s fun u => u.carries .feedClear ∧ u.answers r stOK := by
  have hop : s.opFeedFaultClear v = .ok [.feedClear] := by
    simp only [State.opFeedFaultClear, hv, hoff, ne_eq, not_true_eq_false, Bool.false_eq_true, if_false]
  obtain ⟨u, hu, hc, -, ha⟩ := stages_of_opWrite h (by decide) (c := .feedFaultClear r v) rfl (congrArg (·, s) hop) (.inl rfl) rfl
  exact ⟨u, hu, hc _ List.mem_cons_self, ha⟩

/-- An abandoned release asks no slave for standby (R342). -/
theorem plainEffects_abandonRelease (s : State) : plainEffects s.abandonRelease.1 = true := by
  unfold State.abandonRelease
  split <;> rfl

/-- With the latch set both fields clear, whatever is abandoned and published besides, and the record says so (R345). -/
theorem opIgnitionOff_of_set (hv : beNat v = 1) (hset : s.released = true ∨ s.feedEn = true) :
    (s.opIgnitionOff v).status = stOK ∧ plainEffects (s.opIgnitionOff v).effs = true ∧
      .latch .clear ∈ (s.opIgnitionOff v).effs ∧ s.recLatch (s.latchByte 0) 3 ∈ (s.opIgnitionOff v).recs := by
  have hon : (s.released || s.feedEn) = true := by simpa using hset
  have hsome : (!s.released && !s.feedEn) = false := by rw [← Bool.not_or, hon, Bool.not_true]
  have hpub : plainEffects (if s.released then s.publishLock 2 0 else ([], [])).1 = true := by split <;> rfl
  have hab := plainEffects_abandonRelease s
  simp only [State.opIgnitionOff, hv, hsome, hon, ne_eq, not_true_eq_false, Bool.false_and, Bool.true_or, Bool.false_eq_true, if_false,
    if_true]
  refine ⟨trivial, ?_, List.mem_cons_self, List.mem_append_left _ (List.mem_append_left _ (List.mem_singleton.2 rfl))⟩
  simp only [plainEffects] at hab hpub ⊢
  simp only [List.cons_append, List.all_cons, List.all_append, hab, hpub, Bool.and_self]

theorem ignitionOff_stages (h : s.takes r 0x482001 v) (hv : beNat v = 1) (hset : s.released = true ∨ s.feedEn = true) :
    Stages (.ignitionOff r v) s fun u => u.carries (.latch .clear) ∧ u.answers r stOK ∧ s.recLatch (s.latchByte 0) 3 ∈ u.recs := by
  obtain ⟨hok, hplain, hclear, hrec⟩ := opIgnitionOff_of_set hv hset
  obtain ⟨u, hu, hc, hrecs, ha⟩ := stages_of_opWrite_ok h (by decide) (c := .ignitionOff r v) rfl rfl hok hplain
  exact ⟨u, hu, hc _ hclear, ha, hrecs ▸ hrec⟩

/-! ## RIDGE_ISOLATE, RIDGE_REQUEST, RIDGE_GUARD_CLEAR (R397, R403, R405) -/

theorem ridgeIsolate_stages (h : s.takes r 0x50000C v) :
    Stages (.ridgeIsolate r v) s fun u => u.carries (.obj 0x50000C v) ∧ u.answers r stOK := by
  obtain ⟨u, hu, hc, -, ha⟩ := stages_of_opWrite h (by decide) (c := .ridgeIsolate r v) (o := .ok [.obj 0x50000C v]) rfl rfl (.inl rfl) rfl
  exact ⟨u, hu, hc _ List.mem_cons_self, ha⟩

theorem ridgeRequest_stages (h : s.takes r 0x50000B v) (hb : s.bivouac = false) :
    Stages (.ridgeRequest r v) s fun u => u.carries (.obj 0x50000B v) ∧ u.answers r stOK := by
  have hop : s.opWrite r 0x50000B v = (.ok [.obj 0x50000B v], s) :=
    congrArg (·, s) (if_neg (by rw [hb]; decide) : (if s.bivouac = true then OpResult.refuse stNOT_IN_BIVOUAC else _) = _)
  obtain ⟨u, hu, hc, -, ha⟩ := stages_of_opWrite h (by decide) (c := .ridgeRequest r v) rfl hop (.inl rfl) rfl
  exact ⟨u, hu, hc _ List.mem_cons_self, ha⟩

theorem ridgeGuardClear_stages (h : s.takes r 0x50000D v) (hv : beNat v = 1) :
    Stages (.ridgeGuardClear r v) s fun u => u.carries .ridgeGuardClear ∧ u.answers r stOK := by
  have hop : State.opGuardClear v = .ok [.ridgeGuardClear] := if_pos hv
  obtain ⟨u, hu, hc, -, ha⟩ := stages_of_opWrite h (by decide) (c := .ridgeGuardClear r v) rfl (congrArg (·, s) hop) (.inl rfl) rfl
  exact ⟨u, hu, hc _ List.mem_cons_self, ha⟩

/-! ## CAN_RECOVER (R417) -/

theorem plainlyWritten_canRecover (k : Nat) (hk : k < 2) : plainlyWritten (0x58000E + k * 0x1000) = true := by
  revert k
  decide +kernel

theorem opWrite_canRecover (k : Nat) (hk : k < 2) : s.opWrite r (0x58000E + k * 0x1000) v = (s.opCanRecover k v, s) := by
  obtain rfl | rfl : k = 0 ∨ k = 1 := by omega
  · rfl
  · rfl

theorem canRecover_stages (n : Nat) (h : s.takes r (0x58000E + n % 2 * 0x1000) v) (hv : beNat v = 1) (hoff : (s.can (n % 2)).state = 4)
    (hmode : s.canObj (n % 2) 0x0C = 1) : Stages (.canRecover r n v) s fun u => u.carries (.canRecover (n % 2)) ∧ u.answers r stOK := by
  have hn : n % 2 < 2 := Nat.mod_lt _ (by decide)
  have hop : s.opCanRecover (n % 2) v = .ok [.canRecover (n % 2)] := by
    rw [State.opCanRecover, if_pos ⟨hv, hoff, hmode⟩, Nat.mod_mod]
  obtain ⟨u, hu, hc, -, ha⟩ := stages_of_opWrite h (plainlyWritten_canRecover _ hn) (c := .canRecover r n v) rfl
    ((opWrite_canRecover _ hn).trans (congrArg (·, s) hop)) (.inl rfl) rfl
  exact ⟨u, hu, hc _ List.mem_cons_self, ha⟩

/-! ## POLE_RELAY (R441) -/

theorem plainlyWritten_poleRelay (n : Nat) (h7 : n ≤ 7) (h1 : 1 ≤ n) : plainlyWritten (0x601000 + n) = true := by
  revert n
  decide +kernel

theorem opWrite_poleRelay (n : Nat) (h7 : n ≤ 7) : s.opWrite r (0x601000 + n) v = (s.opPoleRelay n 0 v, s) := by
  have hi : (0x601000 + n) / 256 = 0x6010 := by omega
  have hsub : (0x601000 + n) % 256 = n := by omega
  unfold State.opWrite
  simp only [hi, hsub]

theorem poleRelay_stages (n : Nat) (h1 : 1 ≤ n) (h7 : n ≤ 7) (h : s.takes r (0x601000 + n) v) (hb : s.bivouac = false)
    (hu : s.slaveUp n = true) (hr : (s.slaveRec n).relay = none) (he : ∀ x, Effect.slaveRelay n (some x) ∉ s.effects) :
    Stages (.poleRelay r n v) s fun u => u.carries (.slaveRelay n (some (s.sys.stroke, beNat (slice v 2 2)))) ∧ u.answers r stOK ∧
      u.carries (.poleSend ⟨11, n, false, s.sys.stroke + 1, beBytes 1 0 ++ padTo 240 v⟩) := by
  have hx : exec (.poleRelay r n v) s = execWrite r (0x601000 + n) v s := by
    have hn : 1 + (n + 6) % 7 = n := by omega
    show execWrite r (0x601000 + (1 + (n + 6) % 7)) v s = _
    rw [hn]
  obtain ⟨u, hstage, hc, -, ha⟩ := stages_of_opWrite h (plainlyWritten_poleRelay n h7 h1) hx
    ((opWrite_poleRelay n h7).trans (congrArg (·, s) (opPoleRelay_of_free 0 hb hu hr he))) (.inl rfl) rfl
  exact ⟨u, hstage, hc _ List.mem_cons_self, ha, hc _ (List.mem_cons_of_mem _ List.mem_cons_self)⟩

/-! ## FOLIO_ACK, FOLIO_NOTE (R460, R463) -/

theorem folioAck_stages (h : s.takes r 0x440004 v) (hn : byteAt v 0 < 16) (hz : slice v 1 7 = zeros 7)
    (hmatch : (s.stream (byteAt v 0)).delivered.any (fun d => d.last == beNat (slice v 8 8) && d.tag == slice v 16 8) = true) :
    Stages (.folioAck r v) s fun u => u.carries (.folioAck (byteAt v 0) (beNat (slice v 8 8))) ∧ u.answers r stOK := by
  have hop : s.opFolioAck v = .ok [.folioAck (byteAt v 0) (beNat (slice v 8 8))] := by
    simp only [State.opFolioAck, hn, hz, hmatch, decide_true, beq_self_eq_true, Bool.and_self, if_true]
  obtain ⟨u, hu, hc, -, ha⟩ := stages_of_opWrite h (by decide) (c := .folioAck r v) rfl (congrArg (·, s) hop) (.inl rfl) rfl
  exact ⟨u, hu, hc _ List.mem_cons_self, ha⟩

/-- A byte string that is taken without a clamp has the length of its object (R104). -/
theorem length_of_takes_oct {k n : Nat} {d : ObjDef} (h : s.takes r k v) (hd : objDef k = some d) (ht : d.ty = .oct n) : v.length = n := by
  obtain ⟨-, -, -, -, -, -, -, d', hd', hc⟩ := h
  cases hd.symm.trans hd'
  by_contra hlen
  simp only [State.clampSteps, ht, hlen, if_false, List.map_cons, List.map_nil, Option.some.injEq, reduceCtorEq] at hc

/-- FOLIO_NOTE of stream `13 + i` is a byte string of 200 bytes. -/
theorem objDef_folioNote (i : Nat) (hi : i < 3) : ∃ d, objDef (0x440901 + i) = some d ∧ d.ty = .oct 200 := by
  revert i
  decide +kernel

theorem plainlyWritten_folioNote (i : Nat) (hi : i < 3) : plainlyWritten (0x440901 + i) = true := by
  revert i
  decide +kernel

theorem opWrite_folioNote (i : Nat) (hi : i < 3) : s.opWrite r (0x440901 + i) v = (s.opFolioNote r i v, s) := by
  have hidx : (0x440901 + i) / 256 = 0x4409 := by omega
  have hsub : (0x440901 + i) % 256 - 1 = i := by omega
  unfold State.opWrite
  simp only [hidx, hsub]

theorem folioNote_stages (n : Nat) (h13 : 13 ≤ n) (h15 : n ≤ 15) (h : s.takes r (0x440901 + (n - 13)) v) :
    Stages (.folioNote r n v) s fun u => u.answers r stOK ∧
      u.recs = [⟨n, 0x15, s.stamp, 0x80, beBytes 1 r.cls ++ beBytes 1 r.idx ++ beBytes 1 v.length ++ v⟩] := by
  have hi : n - 13 < 3 := by omega
  obtain ⟨d, hd, hty⟩ := objDef_folioNote _ hi
  have hlen : v.take 200 = v := List.take_of_length_le (length_of_takes_oct h hd hty).le
  have hx : exec (.folioNote r n v) s = execWrite r (0x440901 + (n - 13)) v s := by
    have hsub : (n + 2) % 3 = n - 13 := by omega
    show execWrite r (0x440901 + (n + 2) % 3) v s = _
    rw [hsub]
  obtain ⟨u, hu, -, hrecs, ha⟩ := stages_of_opWrite_ok h (plainlyWritten_folioNote _ hi) hx (opWrite_folioNote _ hi) rfl rfl
  have hn : 13 + (n - 13) = n := by omega
  refine ⟨u, hu, ha, hrecs.trans ?_⟩
  simp only [State.opFolioNote, hlen, hn]

end

/-- Settles O25, object by object. -/
theorem writesOfThePorts : Obligations.WritesOfThePorts := by
  unfold Obligations.WritesOfThePorts
  exact fun s r v => ⟨feedFaultClear_stages, ignitionOff_stages, ridgeIsolate_stages, ridgeRequest_stages, ridgeGuardClear_stages,
    canRecover_stages, poleRelay_stages, folioAck_stages, folioNote_stages⟩

end Sys2Proof.Machine
end

section
/-!
PROOFS. RingFramesIn: what one copy of another node's frame counts, and what a node that listens or is in synchronism makes of it (R364,
R379, R382, R389).
-/

namespace Sys2Proof.Machine

/-! ## Counting a copy (R354, R362) -/

/-- A copy of another node's frame is counted and changes nothing else. -/
theorem countCopy_of_foreign {s : State} {x : RidgeRx} (repeated : Bool) (hn : fSource x.frame ≠ s.node) :
    ∃ ink, s.countCopy repeated x = { s with ink := ink } := by
  unfold State.countCopy
  dsimp only
  split_ifs
  any_goals exact ⟨_, rfl⟩
  all_goals exact absurd ‹fSource x.frame = _› hn

/-- Of a copy that ends without a violation and whose HOPS stay in range where its input is repeated, a failed CRC alone is counted. -/
theorem countCopy_of_bad_crc {s : State} {x : RidgeRx} {repeated : Bool} (hv : x.violations = 0) (he : x.ended = true)
    (hcrc : x.frame.drop (x.frame.length - 4) ≠ frameCrc (x.frame.take (x.frame.length - 4)))
    (hhops : repeated = false ∨ fHops x.frame + 2 < s.num 0x500003) :
    s.countCopy repeated x = (s.countUp 50 0).countUp 51 1 := by
  have hkept : (repeated && decide (2 ≤ x.frame.length) && fSource x.frame != (s.countUp 50 0).node &&
      decide ((s.countUp 50 0).num 0x500003 ≤ fHops x.frame + 2)) = false := by
    obtain rfl | hh := hhops
    · rfl
    · have hnum : (s.countUp 50 0).num 0x500003 = s.num 0x500003 := rfl
      rw [hnum, decide_eq_false (Nat.not_le.2 hh), Bool.and_false]
  have hne : (x.frame.drop (x.frame.length - 4) != frameCrc (x.frame.take (x.frame.length - 4))) = true := bne_iff_ne.2 hcrc
  simp only [State.countCopy, hv, he, hkept, hne, bne_self_eq_false, Bool.not_true, Bool.or_self, Bool.false_eq_true, if_false, if_true]

/-! ## One copy on the first input (R364, R379-R389) -/

theorem filter_of_not_isolated {s : State} (x : RidgeRx) (hi : s.isolated 0 = false) :
    (some x).filter (fun _ => !s.isolated 0) = some x := by
  rw [Option.filter_some, hi, Bool.not_false, if_pos rfl]

section
variable {s t : State} {slot : Nat} {x : RidgeRx} (h0 : s.ridge.state ≠ 0) (hi : s.isolated 0 = false)
  (hcount : s.countCopy (decide (s.ridge.topology < 2)) x = t)
include h0 hi hcount

/-- A copy that is not whole, outside a dynamic slot, is counted and nothing else comes of it (R364). -/
theorem exec_frameReceived_of_broken (hw : copyWhole x = false) (hcold : t.ridge.state ≠ 2)
    (hslot : (t.slotOf t.ridge.active t.ridge.cycle slot == 2) = false) :
    exec (.frameReceived slot (some x) none) s = .next t := by
  have hbroken : (some x).filter (fun y => copyWhole y && fSource y.frame != t.node) = none := by simp [hw]
  have hstay : t.withdraw slot = t := by rw [State.withdraw, hslot, Bool.and_false, Bool.false_and, if_neg Bool.false_ne_true]
  show execFrameReceived slot (some x) none s = _
  unfold execFrameReceived
  rw [if_neg h0, filter_of_not_isolated x hi]
  simp only [Option.toList_some, Option.filter_none, Option.toList_none, List.foldl_cons, List.foldl_nil, hcount, hcold, false_and, if_false,
    hbroken, Option.orElse_none, hstay, ite_self]

variable (hn : fSource x.frame ≠ t.node)
include hn

/-- A node that listens and hears an integration frame whole enters the ring on it (R382). -/
theorem exec_frameReceived_of_listening (hw : copyWhole x = true) (hlisten : t.ridge.state = 1) (hint : t.integrates x.frame = true) :
    exec (.frameReceived slot (some x) none) s =
      .next (State.integrate { t with ridge := { t.ridge with listenFrom := t.sys.stroke } } x.frame) := by
  have hwhole : (some x).filter (fun y => copyWhole y && fSource y.frame != t.node) = some x := by simp [hw, hn]
  show execFrameReceived slot (some x) none s = _
  unfold execFrameReceived
  rw [if_neg h0, filter_of_not_isolated x hi]
  simp only [Option.toList_some, Option.filter_none, Option.toList_none, List.foldl_cons, List.foldl_nil, hcount, hlisten,
    OfNat.one_ne_ofNat, false_and, if_false, hwhole, Option.orElse_some, if_true]
  exact if_pos hint

/-- In SYNC a frame of its slot that agrees with the schedule yields its item, whether or not its deviation is taken (R364, R389). -/
theorem exec_frameReceived_of_agreeing (hw : copyWhole x = true) (hsync : t.ridge.state = 5)
    (hagrees : t.agrees t.ridge.active t.ridge.cycle slot x.frame = true) (hcycle : fCycle x.frame = t.ridge.cycle)
    (hkind : fKind x.frame ≠ 3) : ∃ u : State, exec (.frameReceived slot (some x) none) s = .next (u.frameItem x.frame 0) ∧
      u.gq = t.gq ∧ u.seqs = t.seqs ∧ u.ridge.seen = true ∧ u.ridge.state = 5 := by
  have hwhole : (some x).filter (fun y => copyWhole y && fSource y.frame != t.node) = some x := by simp [hw, hn]
  have hused (l : Nat) : (some x).filter (fun y => State.agrees { t with ridge := { t.ridge with listenFrom := l } } t.ridge.active
      t.ridge.cycle slot y.frame && fCycle y.frame == t.ridge.cycle) = some x := by
    have hl : State.agrees { t with ridge := { t.ridge with listenFrom := l } } t.ridge.active t.ridge.cycle slot x.frame = true := hagrees
    simp [hl, hcycle]
  have h1 : t.ridge.state ≠ 1 := by omega
  have h2 : t.ridge.state ≠ 2 := by omega
  have h3 : (t.ridge.state == 3) = false := by simp [hsync]
  show ∃ u : State, execFrameReceived slot (some x) none s = _ ∧ _
  unfold execFrameReceived
  rw [if_neg h0, filter_of_not_isolated x hi]
  simp only [Option.toList_some, Option.filter_none, Option.toList_none, List.foldl_cons, List.foldl_nil, hcount, h1, h2, h3,
    hkind, false_and, if_false, hwhole, Option.orElse_some, hused, Option.isSome_some, if_true, Bool.false_eq_true]
  refine ⟨_, rfl, ?_⟩
  split <;> exact ⟨rfl, rfl, rfl, hsync⟩

end

/-- On entering the ring a node that listened is INTEGRATING on the frame's cycle, sheet and schedule (R379, R382). -/
theorem integrate_ridge {s : State} (f : Bytes) (hlisten : s.ridge.state = 1) : (s.integrate f).ridge.state = 3 ∧
    (s.integrate f).ridge.cycle = fCycle f ∧ (s.integrate f).ridge.sheet = beNat (slice (fPayload f) 0 4) ∧
      (s.integrate f).ridge.active = byteAt (fPayload f) 4 := by
  have hto : (s.ridgeTo 3).ridge.state = 3 := by
    simp [State.ridgeTo, State.ridgeEnter, State.ridgeItem, State.offerEvent, hlisten]
  exact ⟨hto, rfl, rfl, rfl⟩

/-- A data frame's item leaves the ring as it was and waits for Gather under its source (R389). -/
theorem frameItem_of_data {u : State} {f : Bytes} (hkind : fKind f = 0) (chan : Nat) : (u.frameItem f chan).ridge = u.ridge ∧
    Offered u (u.frameItem f chan) 0x0B (fSource f)
      ([0] ++ beBytes 1 chan ++ beBytes 1 (b2n (fAuth f)) ++ f.take 5 ++ fPayload f) := by
  rw [State.frameItem, hkind, if_neg (by omega)]
  exact ⟨offer_ridge .., offered_offer ..⟩

/-- An item offered is offered to every state with the same queue of Gather and sequence numbers (R35). -/
theorem offered_of_same_queue {s t u : State} {cls idx : Nat} {v : Bytes} (hgq : t.gq = s.gq) (hseqs : t.seqs = s.seqs)
    (h : Offered t u cls idx v) : Offered s u cls idx v := by
  simpa only [Offered, hgq, hseqs] using h

/-- Settles O49: the copy is counted first, and the node's state then decides what becomes of it. -/
theorem ringFramesIn : Obligations.RingFramesIn := by
  unfold Obligations.RingFramesIn
  refine ⟨fun s slot x h1 hi hw hn hint => ?listens, fun s slot x h5 hi hw hn hagrees hcycle hkind => ?synchronised,
    fun s slot x h5 hv he hw hn hslot hcrc hi hhops => ?broken⟩
  case listens =>
    obtain ⟨ink, hink⟩ := countCopy_of_foreign (decide (s.ridge.topology < 2)) hn
    exact ⟨_, exec_frameReceived_of_listening (by omega) hi hink hn hw h1 hint, integrate_ridge x.frame h1⟩
  case synchronised =>
    obtain ⟨ink, hink⟩ := countCopy_of_foreign (decide (s.ridge.topology < 2)) hn
    obtain ⟨u, hx, hgq, hseqs, hseen, hstate⟩ :=
      exec_frameReceived_of_agreeing (by omega) hi hink hn hw h5 hagrees hcycle (by omega)
    obtain ⟨hridge, hitem⟩ := frameItem_of_data (u := u) hkind 0
    exact ⟨_, hx, hridge ▸ hseen, hridge ▸ hstate, offered_of_same_queue hgq hseqs hitem⟩
  case broken =>
    have hrep : decide (s.ridge.topology < 2) = false ∨ fHops x.frame + 2 < s.num 0x500003 :=
      hhops.imp_left fun h => decide_eq_false (Nat.not_lt.2 h)
    exact exec_frameReceived_of_broken (by omega) hi (countCopy_of_bad_crc hv he hcrc hrep) hw (by simp [h5]) hslot

end Sys2Proof.Machine
end

section
/-!
PROOFS. RingSchedules: verified frames, the decision and the switch of a schedule, and the adoption of another (R394-R399).
-/

namespace Sys2Proof.Machine

/-! ## FRAME_VERIFIED (R395, R396) -/

/-- The gathered completion is that of a frame's verification. -/
def Item.isFrameCheck (i : Item) : Bool := i.cls == 5 && i.idx == 1 && i.aux.head? == some 100 && i.aux.getD 1 0 == 7

/-- Header and payload of the frame that was verified, as its request kept them. -/
abbrev Item.checkedFrame (i : Item) : Bytes := toBytes ((i.aux.drop 2).takeWhile (· < 256))

section
variable {s : State} {i : Item} (hw : s.working = true) (hi : s.gathered.find? Item.isFrameCheck = some i)
include hw hi

theorem exec_frameVerified_of_gathered : exec .frameVerified s = .next (
    if byteAt i.val 0 = stOK ∧ byteAt i.val 1 = 0 then (s.consume i).ridgeAct i i.checkedFrame
    else if byteAt i.val 0 = stQUARANTINED then s.consume i
    else ((s.consume i).countUp 59 1).stage (plainUnit i.key []
      [s.recItem 8 { i with val := [fSource i.checkedFrame, byteAt i.checkedFrame 3].map (BitVec.ofNat 8) }])) := by
  have hi' : s.gathered.find? (fun i => i.cls == 5 && i.idx == 1 && i.aux.head? == some 100 && i.aux.getD 1 0 == 7) = some i := hi
  show execFrameVerified s = _
  simp only [execFrameVerified, hi', hw, Bool.not_true, Bool.false_eq_true, if_false]
  split_ifs <;> rfl

theorem exec_frameVerified_of_match (hok : byteAt i.val 0 = stOK) (hmatch : byteAt i.val 1 = 0) :
    exec .frameVerified s = .next ((s.consume i).ridgeAct i i.checkedFrame) := by
  rw [exec_frameVerified_of_gathered hw hi, if_pos ⟨hok, hmatch⟩]

theorem exec_frameVerified_of_quarantined (hq : byteAt i.val 0 = stQUARANTINED) : exec .frameVerified s = .next (s.consume i) := by
  have hran : ¬ (byteAt i.val 0 = stOK ∧ byteAt i.val 1 = 0) := fun h => absurd (h.1.symm.trans hq) (by decide)
  rw [exec_frameVerified_of_gathered hw hi, if_neg hran, if_pos hq]

/-- A frame whose MAC does not match is counted and recorded, and does nothing (R396). -/
theorem frameVerified_of_mismatch (hok : byteAt i.val 0 = stOK) (hbad : byteAt i.val 1 ≠ 0) : Completes .frameVerified s fun t =>
    ∃ u, t.staged = s.staged ++ [u] ∧ u.effs = [] ∧ u.recs ≠ [] ∧ t.shadow 59 = (s.shadow 59 + 1) % 2 ^ 32 := by
  have hq : ¬ byteAt i.val 0 = stQUARANTINED := fun h => absurd (hok.symm.trans h) (by decide)
  have hx := exec_frameVerified_of_gathered hw hi
  rw [if_neg (fun h => hbad h.2), if_neg hq] at hx
  exact ⟨_, hx, _, rfl, rfl, List.cons_ne_nil _ _, shadow_countUp (s.consume i) 59 1⟩

end

/-! ## SCHEDULE_DECISION, SCHEDULE_SWITCH, SCHEDULE_ADOPTION (R398, R399) -/

/-- Every member of the sheet before last has voted in the last one: this node by a vote of its own, another by one received. -/
theorem members_voted {s : State} {k : Nat} (hown : (s.ridge.ownVotes.filter fun o => o.1 == s.sheetBack 1) = [(s.sheetBack 1, k)])
    (hothers : ∀ n ∈ s.membership (s.sheetBack 2), n ≠ s.node → ∃ v ∈ s.ridge.votes, v.sheet = s.sheetBack 1 ∧ v.node = n) :
    ((s.membership (s.sheetBack 2)).all fun n => if n = s.node then
        !((s.ridge.ownVotes.filter fun o => o.1 == s.sheetBack 1).map (·.2)).isEmpty
      else s.ridge.votes.any fun w => w.sheet == s.sheetBack 1 && w.node == n) = true := by
  rw [List.all_eq_true, hown]
  intro n hn
  by_cases hself : n = s.node
  · rw [if_pos hself]
    rfl
  · obtain ⟨v, hv, hsheet, hnode⟩ := hothers n hn hself
    rw [if_neg hself, List.any_eq_true]
    exact ⟨v, hv, by simp [hsheet, hnode]⟩

/-- In cycle 1 complete votes of one mind for a schedule held alike decide the switch to it (R398). -/
theorem exec_scheduleDecision_of_agreement {s : State} {w : Vote} (hw : s.working = true) (hsync : s.ridgeSync = true)
    (hcycle : s.ridge.cycle = 1) (hvotes : s.votesOf (s.sheetBack 1) = [w])
    (hown : (s.ridge.ownVotes.filter fun o => o.1 == s.sheetBack 1) = [(s.sheetBack 1, byteAt w.payload 5)])
    (hothers : ∀ n ∈ s.membership (s.sheetBack 2), n ≠ s.node → ∃ v ∈ s.ridge.votes, v.sheet = s.sheetBack 1 ∧ v.node = n)
    (hdigest : slice w.payload 6 4 = (s.schDigest (byteAt w.payload 5)).take 4) (hvalid : s.schValid (byteAt w.payload 5) = true)
    (hnew : byteAt w.payload 5 ≠ s.ridge.active) :
    exec .scheduleDecision s = .next { s with ridge := { s.ridge with switchTo := some (byteAt w.payload 5) } } := by
  have hall := members_voted hown hothers
  have hne : (byteAt w.payload 5 != s.ridge.active) = true := bne_iff_ne.2 hnew
  rw [hown] at hall
  show execScheduleDecision s = _
  simp only [List.map_cons, List.map_nil, List.isEmpty_cons, Bool.not_false] at hall
  simp only [execScheduleDecision, hw, hsync, hcycle, hown, hvotes, List.map_cons, List.map_nil, hall, hvalid, hne, hdigest, List.all_cons,
    List.all_nil, List.isEmpty_cons, Bool.not_false, beq_self_eq_true, Bool.and_self, if_true]

theorem exec_scheduleSwitch_of_decided {s : State} (k : Nat) (hk : s.ridge.switchTo = some k) (hw : s.working = true)
    (hsync : s.ridgeSync = true) (hcycle : s.ridge.cycle = 63) :
    exec .scheduleSwitch s = .next (s.stage (ridgeTimed [.ridgeActive k false, objN 0x50000B 0xFF, .count 62 1])) := by
  show execScheduleSwitch s = _
  simp only [execScheduleSwitch, hk, hw, hsync, hcycle, beq_self_eq_true, Bool.and_self, if_true]

/-- A sheet of which every other member's vote names another schedule, held alike here, has it adopted (R399). -/
theorem exec_scheduleAdoption_of_vote {s : State} (w : Vote) (hvotes : (s.votesOf (s.sheetBack 1)).filter (fun v => v.node != s.node) = [w])
    (hw : s.working = true) (hstate : s.ridge.state = 5) (hcycle : s.ridge.cycle = 63) (hnone : s.ridge.switchTo = none)
    (hnew : byteAt w.payload 4 ≠ s.ridge.active) (hvalid : s.schValid (byteAt w.payload 4) = true) (hreq : byteAt w.payload 5 = 0xFF)
    (hdigest : slice w.payload 6 4 = (s.schDigest (byteAt w.payload 4)).take 4) :
    exec .scheduleAdoption s = .next (s.stage (ridgeTimed [.ridgeActive (byteAt w.payload 4) true])) := by
  have hne : (byteAt w.payload 4 != s.ridge.active) = true := bne_iff_ne.2 hnew
  show execScheduleAdoption s = _
  simp only [execScheduleAdoption, hvotes, hw, hstate, hcycle, hnone, hne, hvalid, hreq, hdigest, Option.isNone_none, List.all_cons,
    List.all_nil, beq_self_eq_true, Bool.and_self, if_true]

/-- Settles O52, command by command. -/
theorem ringSchedules : Obligations.RingSchedules := by
  unfold Obligations.RingSchedules
  exact ⟨fun s i hw hi => ⟨exec_frameVerified_of_match hw hi, exec_frameVerified_of_quarantined hw hi, frameVerified_of_mismatch hw hi⟩,
    fun s w => exec_scheduleDecision_of_agreement, fun s => exec_scheduleSwitch_of_decided, fun s => exec_scheduleAdoption_of_vote⟩

end Sys2Proof.Machine
end

section
/-!
PROOFS. CanControllers: what a controller's state and counters become, the frames it takes in and sends, its transmit lifetimes, bus-off and
recovery (R408-R417).
-/

namespace Sys2Proof.Machine

/-! ## A controller replaced -/

@[simp] theorem can_setCan (s : State) (k : Nat) (c : CanCtl) : (s.setCan k c).can k = c := by
  by_cases h : k = 0 <;> simp [State.can, State.setCan, h]

/-- The other of the two controllers stays. -/
theorem can_setCan_other (s : State) {k : Nat} (c : CanCtl) (hk : k < 2) : (s.setCan k c).can (1 - k) = s.can (1 - k) := by
  obtain rfl | rfl : k = 0 ∨ k = 1 := by omega
  · rfl
  · rfl

theorem setCan_eq (s : State) (k : Nat) (c : CanCtl) :
    s.setCan k c = { s with can0 := if k = 0 then c else s.can0, can1 := if k = 0 then s.can1 else c } := by
  unfold State.setCan
  split <;> rfl

@[simp] theorem setCan_gq (s : State) (k : Nat) (c : CanCtl) : (s.setCan k c).gq = s.gq := by rw [setCan_eq]

@[simp] theorem setCan_seqs (s : State) (k : Nat) (c : CanCtl) : (s.setCan k c).seqs = s.seqs := by rw [setCan_eq]

@[simp] theorem setCan_ink (s : State) (k : Nat) (c : CanCtl) : (s.setCan k c).ink = s.ink := by rw [setCan_eq]

@[simp] theorem canObj_setCan (s : State) (k j sub : Nat) (c : CanCtl) : (s.setCan k c).canObj j sub = s.canObj j sub := by
  rw [setCan_eq]
  rfl

@[simp] theorem can_countUp (s : State) (n d k : Nat) : (s.countUp n d).can k = s.can k := rfl

/-! ## Items and states (R413, R416) -/

@[simp] theorem can_canItem (s : State) (j k kind flags : Nat) (id data : Bytes) (aux : List Nat) :
    (s.canItem k kind flags id data aux).can j = s.can j := by
  simp [State.can, State.canItem]

@[simp] theorem canItem_ink (s : State) (k kind flags : Nat) (id data : Bytes) (aux : List Nat) :
    (s.canItem k kind flags id data aux).ink = s.ink := by
  simp [State.canItem]

theorem offered_canItem {s t : State} (k kind flags : Nat) (id data : Bytes) (aux : List Nat) (hgq : t.gq = s.gq) (hseqs : t.seqs = s.seqs) :
    Offered s (t.canItem k kind flags id data aux) 0x0C (k % 2)
      (beBytes 1 kind ++ beBytes 1 flags ++ id ++ beBytes 1 data.length ++ padTo 64 data) :=
  offered_of_same_queue hgq hseqs (offered_offer ..)

/-- A change to another state deposits the item that says so, with the error counters (R416). -/
theorem canTo_of_other {s : State} {k st : Nat} (h : (s.can k).state ≠ st) : s.canTo k st =
    (s.setCan k { s.can k with state := st }).canItem k 1 st (beBytes 2 (s.can k).tec ++ beBytes 1 (s.can k).rxc ++ [0]) [] [11] :=
  if_neg h

/-- A change of state, or none, leaves the controller in that state with all else as it was. -/
@[simp] theorem can_canTo (s : State) (k st : Nat) : (s.canTo k st).can k = { s.can k with state := st } := by
  unfold State.canTo
  dsimp only
  split
  next h => rw [← h]
  next => rw [can_canItem, can_setCan]

@[simp] theorem canTo_ink (s : State) (k st : Nat) : (s.canTo k st).ink = s.ink := by
  unfold State.canTo
  dsimp only
  split
  next => rfl
  next => rw [canItem_ink, setCan_ink]

/-- The error counters set decide between error-active and error-passive (R416). -/
theorem can_canErrors (s : State) (k tec rxc : Nat) : (s.canErrors k tec rxc).can k =
    { s.can k with tec := tec, rxc := rxc, state := if 128 ≤ tec ∨ 128 ≤ rxc then 3 else 2 } := by
  rw [State.canErrors, can_canTo, can_setCan]

/-- An error-active controller whose counters stay below 128 changes them and nothing else. -/
theorem canErrors_of_active {s : State} {k tec rxc : Nat} (htec : tec < 128) (hrxc : rxc < 128) (hst : (s.can k).state = 2) :
    s.canErrors k tec rxc = s.setCan k { s.can k with tec := tec, rxc := rxc } := by
  have hsame : ¬ (128 ≤ tec ∨ 128 ≤ rxc) := by omega
  simp only [State.canErrors, State.canTo, hsame, if_false, can_setCan, hst, if_true]

theorem shadow_of_ink {s t : State} (h : t.ink = s.ink) (n : Nat) : t.shadow n = s.shadow n := by
  rw [State.shadow, h, State.shadow]

/-- Discarding reassemblies leaves the controllers, and of the shadow counters all but the one it counts in (R121). -/
theorem dropReasm_frame (s : State) (src : Nat) {n : Nat} (hn : n ≠ 5) :
    (∀ k, (s.dropReasm src).can k = s.can k) ∧ (s.dropReasm src).shadow n = s.shadow n := by
  unfold State.dropReasm
  split
  next =>
    rw [countObj_reassemblies]
    exact ⟨fun _ => rfl, shadow_countUp_ne s 1 hn⟩
  next => exact ⟨fun _ => rfl, rfl⟩

/-! ## CAN_FRAME_RECEIVED (R412, R413) -/

/-- A controller after a frame received well in the active range: REC one less. -/
abbrev State.canHeard (s : State) (k : Nat) : State := s.setCan k { s.can k with rxc := (s.can k).rxc - 1 }

/-- Data frames of the receive ring not gathered yet. -/
abbrev State.canWaiting (s : State) (k : Nat) : Nat :=
  (s.gq.filter fun i => i.cls == 0x0C && i.idx == k % 2 && byteAt i.val 0 == 0).length

section
variable {s : State} {k flags id : Nat} {data : Bytes} (hact : (s.can k).active = true) (hfd : flags.testBit 1 = true → s.canObj k 2 ≠ 0)
  (hide : flags.testBit 0 = (s.canObj k 3 == 1)) (hid : id ≠ noId) (hrxc : (s.can k).rxc < 128) (htec : (s.can k).tec < 128)
  (hre : (s.can k).reinit = false) (hst : (s.can k).state = 2)
include hact hfd hide hid hrxc htec hre hst

/-- An error-active controller takes a legal frame by its identifier. -/
theorem exec_canFrameReceived_of_legal : exec (.canFrameReceived k flags id data) s = .next (
    if id = s.canObj k 4 then
      if 64 ≤ s.canWaiting k then (s.canHeard k).countUp (canCount k 3) 1
      else ((s.canHeard k).countUp (canCount k 1) 1).canItem k 0 (flags % 16) (beBytes 4 id) (data.take 64) []
    else if id = s.canObj k 5 ∨ id = s.canObj k 6 then
      ((s.canHeard k).countUp (canCount k 6) 1).canItem k 2 (flags % 16) (beBytes 4 id) [] [11]
    else s.canHeard k) := by
  have hless : (s.can k).rxc - 1 < 128 := by omega
  have hclassic : ¬ (flags.testBit 1 = true ∧ s.canObj k 2 = 0) := fun h => hfd h.1 h.2
  have hlegal : (flags.testBit 0 != (s.canObj k 3 == 1) || id == noId) = false := by simp [hide, hid]
  show execCanFrameReceived k flags id data s = _
  simp only [execCanFrameReceived, State.recAfter, hact, hclassic, hrxc, canErrors_of_active htec hless hst, canObj_setCan, setCan_gq, hlegal,
    Bool.not_true, Bool.false_eq_true, if_false, if_true]
  refine congrArg Host.Outcome.next (if_neg ?_)
  split_ifs <;> simp [hre]

theorem canFrameReceived_of_request (hreq : id = s.canObj k 4) (hroom : s.canWaiting k < 64) :
    Completes (.canFrameReceived k flags id data) s fun t => (t.can k).rxc = (s.can k).rxc - 1 ∧
      Offered s t 0x0C (k % 2) (beBytes 1 0 ++ beBytes 1 (flags % 16) ++ beBytes 4 id ++ beBytes 1 (data.take 64).length ++
        padTo 64 (data.take 64)) ∧ t.shadow (canCount k 1) = (s.shadow (canCount k 1) + 1) % 2 ^ 32 := by
  have hx := exec_canFrameReceived_of_legal (data := data) hact hfd hide hid hrxc htec hre hst
  rw [if_pos hreq, if_neg (by omega)] at hx
  refine ⟨_, hx, ?_, offered_canItem _ _ _ _ _ _ (setCan_gq ..) (setCan_seqs ..), ?_⟩
  · rw [can_canItem, can_countUp, can_setCan]
  · rw [shadow_of_ink (canItem_ink ..), shadow_countUp, shadow_of_ink (setCan_ink ..)]

theorem canFrameReceived_of_conflict (hreq : id ≠ s.canObj k 4) (hown : id = s.canObj k 5) :
    Completes (.canFrameReceived k flags id data) s fun t =>
      Offered s t 0x0C (k % 2) (beBytes 1 2 ++ beBytes 1 (flags % 16) ++ beBytes 4 id ++ [0] ++ zeros 64) ∧
        t.shadow (canCount k 6) = (s.shadow (canCount k 6) + 1) % 2 ^ 32 := by
  have hx := exec_canFrameReceived_of_legal (data := data) hact hfd hide hid hrxc htec hre hst
  rw [if_neg hreq, if_pos (.inl hown)] at hx
  refine ⟨_, hx, offered_canItem _ _ _ _ _ _ (setCan_gq ..) (setCan_seqs ..), ?_⟩
  rw [shadow_of_ink (canItem_ink ..), shadow_countUp, shadow_of_ink (setCan_ink ..)]

theorem canFrameReceived_of_other (hreq : id ≠ s.canObj k 4) (hown : id ≠ s.canObj k 5) (hexp : id ≠ s.canObj k 6) :
    Completes (.canFrameReceived k flags id data) s fun t => t.gq = s.gq := by
  have hx := exec_canFrameReceived_of_legal (data := data) hact hfd hide hid hrxc htec hre hst
  rw [if_neg hreq, if_neg (not_or_intro hown hexp)] at hx
  exact ⟨_, hx, setCan_gq ..⟩

end

/-! ## CAN_FRAME_SENT, TX_LIFETIME_EXPIRY (R414, R415) -/

/-- A controller that has sent the only frame of a message: the message has left the ring. -/
abbrev CanCtl.sent (c : CanCtl) (i : Nat) (m : CanTx) : CanCtl :=
  { c with tx := c.tx.eraseIdx i, line := m.parts.headD [], offered := c.offered + b2n m.isExport }

section
variable {s : State} {k i : Nat} {m : CanTx} (hact : (s.can k).active = true) (hmode : s.canObj k 1 = 1) (hhead : s.canHead k = some i)
  (hm : (s.can k).tx[i]? = some m) (hone : m.parts.length = 1) (htec : (s.can k).tec < 128) (hrxc : (s.can k).rxc < 128)
  (hst : (s.can k).state = 2) (hre : (s.can k).reinit = false)
include hact hmode hhead hm hone htec hrxc hst hre

/-- A message of one frame leaves the ring with it, and TEC falls by one. -/
theorem exec_canFrameSent_of_single : exec (.canFrameSent k) s = .next (((s.countUp (canCount k 2) 1).setCan k ((s.can k).sent i m)).setCan k
    { (s.can k).sent i m with tec := (s.can k).tec - 1 }) := by
  have hless : (s.can k).tec - 1 < 128 := by omega
  have hlast : m.parts.drop 1 = [] := List.drop_eq_nil_of_le hone.le
  show execCanFrameSent k s = _
  simp only [execCanFrameSent, hact, hmode, hhead, hm, hlast, beq_self_eq_true, Bool.and_self, if_true]
  rw [canErrors_of_active hless hrxc (by rw [can_setCan, hst])]
  refine congrArg Host.Outcome.next ((if_neg ?_).trans (by rw [can_setCan]))
  simp [hre]

theorem canFrameSent_completes : Completes (.canFrameSent k) s fun t => (t.can k).tx = (s.can k).tx.eraseIdx i ∧
    (t.can k).line = m.parts.headD [] ∧ (t.can k).tec = (s.can k).tec - 1 ∧
      t.shadow (canCount k 2) = (s.shadow (canCount k 2) + 1) % 2 ^ 32 ∧ t.gq = s.gq := by
  refine ⟨_, exec_canFrameSent_of_single hact hmode hhead hm hone htec hrxc hst hre, ?_, ?_, ?_, ?_, ?_⟩
  · rw [can_setCan]
  · rw [can_setCan]
  · rw [can_setCan]
  · rw [shadow_of_ink (setCan_ink ..), shadow_of_ink (setCan_ink ..), shadow_countUp]
  · rw [setCan_gq, setCan_gq, State.countUp_gq]

end

/-- What stays in the ring is every block of Folio, and every other message within its lifetime. -/
theorem txLifetimeExpiry_completes (s : State) {k : Nat} (hk : k < 2) : Completes (.txLifetimeExpiry k) s fun t =>
    (∀ m ∈ (t.can k).tx, m.isExport = true ∨ s.sys.stroke < m.release + s.canObj k 0x13) ∧
      (∀ m ∈ (s.can k).tx, m.isExport = true → m ∈ (t.can k).tx) ∧ t.can (1 - k) = s.can (1 - k) ∧ t.gq = s.gq := by
  refine ⟨_, rfl, ?_, ?_, can_setCan_other _ _ hk, setCan_gq ..⟩
  · intro m hm
    rw [can_setCan, List.mem_filter] at hm
    simpa [or_iff_not_imp_left] using hm.2
  · intro m hm hexport
    rw [can_setCan, List.mem_filter]
    exact ⟨hm, by simp [hexport]⟩

/-! ## Error states, bus-off and recovery (R408, R411, R416, R417) -/

section
variable {s : State} {k : Nat}

theorem errorStateChange_completes (tec rec : Nat) (hact : (s.can k).active = true) : Completes (.errorStateChange k tec rec) s fun t =>
    (t.can k).tec = min tec 255 ∧ (t.can k).rxc = min rec 255 ∧ (t.can k).state = (if 128 ≤ tec ∨ 128 ≤ rec then 3 else 2) := by
  have hcap : (128 ≤ min tec 255 ∨ 128 ≤ min rec 255) ↔ (128 ≤ tec ∨ 128 ≤ rec) := by omega
  refine ⟨_, if_pos hact, ?_⟩
  beta_reduce
  rw [can_canErrors]
  exact ⟨rfl, rfl, by simp only [hcap]⟩

theorem busOff_completes (hact : (s.can k).active = true) : Completes (.busOff k) s fun t => (t.can k).state = 4 ∧ (t.can k).tec = 256 ∧
    t.shadow (canCount k 5) = (s.shadow (canCount k 5) + 1) % 2 ^ 32 ∧ (t.can k).tx.length = (s.can k).tx.length := by
  have hother : canCount k 5 ≠ 5 := by
    unfold canCount
    omega
  obtain ⟨hcan, hcount⟩ := dropReasm_frame (s.countUp (canCount k 5) 1) (256 + k % 2) hother
  refine ⟨_, if_pos hact, ?_⟩
  beta_reduce
  rw [can_canTo, can_setCan, shadow_of_ink (canTo_ink ..), shadow_of_ink (setCan_ink ..), hcount, shadow_countUp, hcan]
  exact ⟨rfl, rfl, rfl, List.length_map _⟩

theorem exec_busOffHoldExpiry_of_due (due : Nat) (hdue : (s.can k).recoverAt = some due) (hw : s.working = true) (hoff : (s.can k).state = 4)
    (hmode : s.canObj k 0x0C = 0) (hpast : due ≤ s.sys.stroke) :
    exec (.busOffHoldExpiry k) s = .next (s.stage (plainUnit 0x0E040000 [.canRecover (k % 2)] [])) := by
  show execBusOffHoldExpiry k s = _
  simp only [execBusOffHoldExpiry, hdue, hw, hoff, hmode, hpast, decide_true, beq_self_eq_true, Bool.and_self, if_true]

/-- A recovered controller is error-active with both counters zero, which its item says (R416, R417). -/
theorem recoveryComplete_completes (hk : k < 2) (hst : (s.can k).state = 5) (hmode : s.canObj k 1 ≠ 0) :
    Completes (.recoveryComplete k) s fun t => (t.can k).state = 2 ∧ (t.can k).tec = 0 ∧ (t.can k).rxc = 0 ∧
      Offered s t 0x0C k (beBytes 1 1 ++ beBytes 1 2 ++ (zeros 4) ++ [0] ++ zeros 64) := by
  have hmod : k % 2 = k := Nat.mod_eq_of_lt hk
  refine ⟨_, if_pos hst, ?_⟩
  beta_reduce
  rw [if_neg hmode, can_canTo, can_setCan]
  refine ⟨rfl, rfl, rfl, ?_⟩
  have hoff : ((s.setCan k { s.can k with tec := 0, rxc := 0 }).can k).state ≠ 2 := by
    rw [can_setCan, hst]
    decide
  rw [canTo_of_other hoff, can_setCan]
  have hitem := offered_canItem (s := s)
    (t := (s.setCan k { s.can k with tec := 0, rxc := 0 }).setCan k { s.can k with tec := 0, rxc := 0, state := 2 })
    k 1 2 (beBytes 2 0 ++ beBytes 1 0 ++ [0]) [] [11] (by rw [setCan_gq, setCan_gq]) (by rw [setCan_seqs, setCan_seqs])
  rw [hmod] at hitem
  exact hitem

theorem protocolException_completes (hact : (s.can k).active = true) : Completes (.protocolException k) s fun t => (t.can k).state = 1 ∧
    t.shadow (canCount k 7) = (s.shadow (canCount k 7) + 1) % 2 ^ 32 := by
  refine ⟨_, if_pos hact, ?_⟩
  beta_reduce
  rw [can_canTo, shadow_of_ink (canTo_ink ..), shadow_countUp]
  exact ⟨rfl, rfl⟩

theorem canIntegrationComplete_completes (hst : (s.can k).state = 1) (hre : (s.can k).reinit = false) :
    Completes (.canIntegrationComplete k) s fun t => (t.can k).state = 2 ∧ (t.can k).tec = 0 ∧ (t.can k).rxc = 0 := by
  have hx : exec (.canIntegrationComplete k) s = .next ((s.setCan k { s.can k with tec := 0, rxc := 0 }).canTo k 2) := by
    show execCanIntegrationComplete k s = _
    simp only [execCanIntegrationComplete, hre, hst, Bool.false_eq_true, if_false, if_true]
  refine ⟨_, hx, ?_⟩
  beta_reduce
  rw [can_canTo, can_setCan]
  exact ⟨rfl, rfl, rfl⟩

end

/-- Settles O53, command by command. -/
theorem canControllers : Obligations.CanControllers := by
  unfold Obligations.CanControllers
  exact ⟨⟨fun s k flags id data hact hfd hide hid hrxc htec hre hst => ⟨canFrameReceived_of_request hact hfd hide hid hrxc htec hre hst,
        canFrameReceived_of_conflict hact hfd hide hid hrxc htec hre hst, canFrameReceived_of_other hact hfd hide hid hrxc htec hre hst⟩,
      fun s k i m hact hmode hhead hm hone htec hrxc hst hre => canFrameSent_completes hact hmode hhead hm hone htec hrxc hst hre,
      fun s k => txLifetimeExpiry_completes s⟩,
    fun s k hk => ⟨errorStateChange_completes, busOff_completes, exec_busOffHoldExpiry_of_due, recoveryComplete_completes hk,
      protocolException_completes, canIntegrationComplete_completes⟩⟩

end Sys2Proof.Machine
end

section
/-!
PROOFS. PoleLink: a device's view of the Pole link and its records of slaves, markers and echoes, admission (R422-R432).
-/

namespace Sys2Proof.Machine

/-! ## The device's own view and its records of slaves (R442) -/

@[simp] theorem slaveRec_setSlave (s : State) (n : Nat) (f : SlaveRec → SlaveRec) : (s.setSlave n f).slaveRec n = f (s.slaveRec n) := by
  simp [State.slaveRec, State.setSlave]

theorem slaveRec_setSlave_ne (s : State) {n m : Nat} (f : SlaveRec → SlaveRec) (h : m ≠ n) :
    (s.setSlave n f).slaveRec m = s.slaveRec m := by
  rw [State.slaveRec, State.setSlave, alookup_ainsert_ne _ _ _ _ h, State.slaveRec]

/-- On a master depositing an item leaves its records of the slaves. -/
theorem slaveRec_offer {s : State} (hm : s.isSlave = false) (cls idx : Nat) (v : Bytes) (aux : List Nat) (n : Nat) :
    (s.offer cls idx v aux).slaveRec n = s.slaveRec n := by
  have hcasc : s.sys.cascId = 0 := by simpa [State.isSlave] using hm
  rw [State.slaveRec, offer_pole_of_master s cls idx v aux hcasc, State.slaveRec]

/-- Recording a fault leaves the Pole link (R483). -/
theorem recordFault_pole (s : State) (code detail : Nat) : (s.recordFault code detail).pole = s.pole := by
  unfold State.recordFault
  dsimp only
  split <;> rfl

/-- A rounding left open may draw a free value, and changes nothing else (log entry 8). -/
theorem divOpen_frame (s : State) (a : Int) (b : Nat) : ∃ free, (s.divOpen a b).2 = { s with sys := { s.sys with free := free } } := by
  unfold State.divOpen
  split
  · exact ⟨s.sys.free, rfl⟩
  · exact ⟨s.sys.free + 1, rfl⟩

/-- The last eight of a list of delays, over which the mean is taken (R427). -/
abbrev lastEight (l : List Nat) : List Nat := l.drop (l.length - 8)

theorem getLast?_lastEight_concat (l : List Nat) (x : Nat) : (lastEight (l ++ [x])).getLast? = some x := by
  rw [lastEight, List.getLast?_drop, if_neg (by simp), List.getLast?_concat]

/-- A frame of a slave that is not admitted goes out under its own stroke (R425). -/
theorem sendUp_of_unadmitted {s : State} (hnot : s.pole.self.admitted = false) (hb : s.bivouac = false) (hc : s.pole.conflict = false)
    (type : Nat) (p : Bytes) : s.sendUp type p = s.sendFrame ⟨type, 0, false, s.sys.stroke, p⟩ := by
  simp [State.sendUp, State.sendOwn, hnot, hb, hc]

/-- A slave repeats every frame while its link is up (R422). -/
theorem repeated_of_slave {s : State} (hup : s.poleUp = true) (hs : s.isSlave = true) (f : PoleFrame) : s.repeated f = s.sendFrame f := by
  rw [State.repeated, hup, hs, Bool.and_self, if_pos rfl]

section
variable {s : State} (hup : s.poleUp = true)
include hup

/-! ## Markers and echoes (R426-R428) -/

/-- A master notes a valid marker and nothing else. -/
theorem exec_markerReceived_of_master {m : Bytes} {arrival : Int} (hlen : m.length = 9) (hcrc : crc8 (m.take 8) = byteAt m 8)
    (hm : s.isSlave = false) : exec (.markerReceived m arrival) s = .next (s.setSelf fun p => { p with marked := true }) := by
  show execMarkerReceived m arrival s = _
  simp only [execMarkerReceived, hup, hlen, hcrc, hm, bne_self_eq_false, Bool.not_true, Bool.not_false, Bool.or_self, Bool.false_eq_true,
    if_false, if_true]

/-- A slave that has measured no delay yet forwards a valid marker with its own part of the delay alone, and takes its stroke. -/
theorem exec_markerReceived_of_unmeasured {m : Bytes} {arrival : Int} (hlen : m.length = 9) (hcrc : crc8 (m.take 8) = byteAt m 8)
    (hs : s.isSlave = true) (hnone : s.pole.self.delays = []) : exec (.markerReceived m arrival) s = .next ((s.sendFrame ⟨0, 0, true,
      beNat (slice m 0 5), markerBytes (beNat (slice m 0 5)) (beNat (slice m 5 2) + 0 + 4000) (byteAt m 7)⟩).setSelf
        fun p => { p with marked := true, missed := 0, mstroke := beNat (slice m 0 5) }) := by
  show execMarkerReceived m arrival s = _
  simp only [execMarkerReceived, PoleSelf.delaySum, hup, hlen, hcrc, hs, hnone, List.length_nil, bne_self_eq_false, Bool.not_true,
    Bool.or_self, Bool.false_eq_true, if_false, if_true]
  rfl

/-- A slave echoes in its own strokes (R427). -/
theorem exec_echo_of_turn (hs : s.isSlave = true) (hb : s.bivouac = false) (hturn : s.knownStroke % 64 = 8 * s.sys.cascId) :
    exec .echo s = .next ((s.sendOwn ⟨0x80, 0, false, s.knownStroke, []⟩).setSelf fun p => { p with echo := true }) :=
  if_pos (by simp [hup, hs, hb, hturn])

theorem echoReplyReceived_completes (rtt : Nat) (hs : s.isSlave = true) (he : s.pole.self.echo = true) :
    Completes (.echoReplyReceived rtt) s fun t => t.pole.self.echo = false ∧ t.pole.self.delays.getLast? = some (rtt - 8000) ∧
      (s.pole.self.delays.length ≤ 8 → t.pole.self.delays.length = min 8 (s.pole.self.delays.length + 1)) := by
  have hguard : (s.poleUp && s.isSlave && s.pole.self.echo) = true := by simp [hup, hs, he]
  refine ⟨_, if_pos hguard, ?_⟩
  obtain ⟨free, hdraw⟩ := divOpen_frame (s.setSelf fun p => { p with
    delays := lastEight (s.pole.self.delays ++ [rtt - 8000]), echo := false })
    (lastEight (s.pole.self.delays ++ [rtt - 8000])).sum (8 * (lastEight (s.pole.self.delays ++ [rtt - 8000])).length)
  rw [hdraw]
  refine ⟨rfl, getLast?_lastEight_concat _ _, fun hlen => ?_⟩
  simp only [State.setNum, State.setRaw, State.setSelf, List.length_drop, List.length_append, List.length_singleton]
  omega

/-! ## DISCOVER and HELLO (R430, R431) -/

theorem discover_completes (hs : s.isSlave = true) (hnot : s.pole.self.admitted = false) (hfree : s.pole.self.refused = 0)
    (hb : s.bivouac = false) (hc : s.pole.conflict = false) : Completes .discover s fun t => t.pole.out = s.pole.out ++
      [⟨1, 0, true, 0, []⟩, ⟨0x41, 0, false, s.sys.stroke, s.helloBytes⟩] ∧ { t with pole := s.pole } = s := by
  have hopen : (!s.pole.self.admitted && s.pole.self.refused == 0) = true := by rw [hnot, hfree, beq_self_eq_true, Bool.not_false, Bool.and_self]
  have hx : exec .discover s = .next ((s.sendFrame ⟨1, 0, true, 0, []⟩).sendFrame ⟨0x41, 0, false, s.sys.stroke, s.helloBytes⟩) := by
    have hsent := sendUp_of_unadmitted (s := s.sendFrame ⟨1, 0, true, 0, []⟩) hnot hb hc 0x41 s.helloBytes
    show execDiscover s = _
    simp only [execDiscover, hup, hs, repeated_of_slave hup hs, Bool.and_self, if_true]
    exact (if_pos hopen).trans (congrArg Host.Outcome.next hsent)
  exact ⟨_, hx, by simp, rfl⟩

theorem exec_hello_of_valid {source : Nat} {payload : Bytes} (hm : s.isSlave = false) (hc : s.pole.conflict = false) (hb : s.bivouac = false)
    (h1 : 1 ≤ source) (h7 : source ≤ 7) :
    exec (.hello source payload true) s = .next (s.offer 10 source (padTo 44 payload) [12, s.sys.stroke]) := by
  show execHello source payload true s = _
  simp only [execHello, State.isMaster, hup, hm, hc, hb, h1, h7, decide_true, Bool.not_true, Bool.not_false, Bool.and_self,
    Bool.false_eq_true, if_false, if_true]

theorem exec_hello_of_invalid (source : Nat) (payload : Bytes) (hm : s.isSlave = false) :
    exec (.hello source payload false) s = .next (s.countUp 144 1) := by
  show execHello source payload false s = _
  simp only [execHello, State.badFrame, hup, hm, Bool.not_true, Bool.not_false, Bool.false_eq_true, if_false, if_true]

/-! ## ADMIT (R425, R432) -/

theorem poleAdmit_completes (payload : Bytes) (hs : s.isSlave = true) : Completes (.poleAdmit payload true) s fun t =>
    t.pole.self.effective = some (beNat (slice payload 0 2)) ∧ t.pole.self.delta = beNat (slice payload 2 6) ∧
      t.pole.self.admitted = s.pole.self.admitted := by
  have hx : exec (.poleAdmit payload true) s = .next (((s.sendFrame ⟨2, s.sys.cascId, false, 0, payload⟩).setSelf fun p => { p with
      effective := some (beNat (slice payload 0 2)), delta := beNat (slice payload 2 6) }).setNum 0x600006 (beNat (slice payload 2 6))) := by
    show execPoleAdmit payload true s = _
    simp only [execPoleAdmit, hup, hs, repeated_of_slave hup hs, Bool.not_true, Bool.or_self, Bool.false_eq_true, if_false]
  exact ⟨_, hx, rfl, rfl, rfl⟩

theorem admissionEffective_of_slave {e : Nat} (hs : s.isSlave = true) (he : s.pole.self.effective = some e)
    (hcome : (s.masterStroke + 2 ^ 16 - e) % 2 ^ 16 < 2 ^ 15) : Completes .admissionEffective s fun t =>
      t.pole.self.admitted = true ∧ t.pole.self.effective = none ∧ t.pole.self.refused = 0 ∧ { t with pole := s.pole } = s := by
  have hx : exec .admissionEffective s = .next (s.setSelf fun p => { p with
      admitted := true, effective := none, stranded := false, refused := 0, good := 0, bad := 0, converged := false, missed := 0 }) := by
    show execAdmissionEffective s = _
    simp only [execAdmissionEffective, hup, hs, he, hcome, Bool.not_true, Bool.false_eq_true, if_false, if_true]
  exact ⟨_, hx, rfl, rfl, rfl, rfl⟩

end

/-- A master's record of a slave whose admission has come: CONVERGING, with no STATUS yet (R432). -/
abbrev SlaveRec.joined (r : SlaveRec) : SlaveRec := { r with state := 1, effective := none, missed := 0, fresh := true, status := [] }

/-- The admission named in a record has come at a stroke. -/
abbrev SlaveRec.due (r : SlaveRec) (stroke : Nat) : Bool := r.effective.elim false fun e => decide (e ≤ stroke)

/-- The master's record of slave `n` as ADMISSION_EFFECTIVE leaves it. -/
def State.admitDue (s : State) (n : Nat) : State := if (s.slaveRec n).due s.sys.stroke then s.setSlave n SlaveRec.joined else s

theorem admitDue_sys (s : State) (n : Nat) : (s.admitDue n).sys = s.sys := by
  unfold State.admitDue
  split <;> rfl

/-- Admitting another slave, or admitting twice, leaves a record as it stands. -/
theorem slaveRec_admitDue_of_kept {s : State} {n m : Nat} (h : m = n → (s.slaveRec n).due s.sys.stroke = false) :
    (s.admitDue n).slaveRec m = s.slaveRec m := by
  unfold State.admitDue
  split
  next hdue => exact slaveRec_setSlave_ne s _ fun hmn => by simp [h hmn] at hdue
  next => rfl

theorem slaveRec_foldl_admitDue_of_not_due (l : List Nat) {s : State} {n : Nat} (h : (s.slaveRec n).due s.sys.stroke = false) :
    (l.foldl State.admitDue s).slaveRec n = s.slaveRec n := by
  induction l generalizing s with
  | nil => rfl
  | cons m l ih =>
    have hkept : (s.admitDue m).slaveRec n = s.slaveRec n := slaveRec_admitDue_of_kept fun hnm => hnm ▸ h
    rw [List.foldl_cons, ih (by rw [hkept, admitDue_sys, h]), hkept]

/-- Each slave whose stroke has come is admitted once (R432). -/
theorem slaveRec_foldl_admitDue {l : List Nat} {s : State} {n : Nat} (hn : n ∈ l) (h : (s.slaveRec n).due s.sys.stroke = true) :
    (l.foldl State.admitDue s).slaveRec n = (s.slaveRec n).joined := by
  induction l generalizing s with
  | nil => exact absurd hn List.not_mem_nil
  | cons m l ih =>
    rw [List.foldl_cons]
    by_cases hmn : n = m
    · have hrec : (s.admitDue m).slaveRec n = (s.slaveRec n).joined := by
        rw [← hmn, State.admitDue, if_pos h, slaveRec_setSlave]
      rw [slaveRec_foldl_admitDue_of_not_due l (by rw [hrec]; rfl), hrec]
    · have hkept : (s.admitDue m).slaveRec n = s.slaveRec n := slaveRec_admitDue_of_kept fun hnm => absurd hnm hmn
      rw [ih ((List.mem_cons.1 hn).resolve_left hmn) (by rw [hkept, admitDue_sys, h]), hkept]

section
variable {s : State} (hup : s.poleUp = true)
include hup

theorem admissionEffective_of_master {n e : Nat} (hm : s.isSlave = false) (hn : n < 8) (he : (s.slaveRec n).effective = some e)
    (hcome : e ≤ s.sys.stroke) : Completes .admissionEffective s fun t => (t.slaveRec n).state = 1 ∧ (t.slaveRec n).effective = none := by
  have hx : exec .admissionEffective s = .next ((List.range 8).foldl State.admitDue s) := by
    show execAdmissionEffective s = _
    simp only [execAdmissionEffective, hup, hm, Bool.not_true, Bool.false_eq_true, if_false]
    rfl
  have hrec := slaveRec_foldl_admitDue (s := s) (List.mem_range.2 hn) (by simp [SlaveRec.due, he, hcome])
  exact ⟨_, hx, by rw [hrec], by rw [hrec]⟩

/-! ## REFUSE and a second master (R430, R431) -/

theorem refuse_completes (reason : Nat) (hs : s.isSlave = true) (hnot : s.pole.self.admitted = false) :
    Completes (.refuse reason) s fun t => Offered s t 10 0 (beBytes 1 reason) := by
  have hx : exec (.refuse reason) s =
      .next ((s.sendFrame ⟨3, s.sys.cascId, false, 0, beBytes 1 reason⟩).offer 10 0 (beBytes 1 reason) [13]) := by
    have hfree : (s.sendFrame ⟨3, s.sys.cascId, false, 0, beBytes 1 reason⟩).pole.self.admitted ≠ true := by
      show s.pole.self.admitted ≠ true
      simp [hnot]
    show execRefuse reason s = _
    simp only [execRefuse, hup, hs, repeated_of_slave hup hs, Bool.and_self, if_true]
    exact if_neg hfree
  exact ⟨_, hx, offered_of_same_queue (t := s.sendFrame _) rfl rfl (offered_offer ..)⟩

theorem secondMaster_completes (hm : s.isSlave = false) (hc : s.pole.conflict = false)
    (h3 : 3 ≤ s.pole.foreign + b2n s.pole.self.marked) : Completes .secondMaster s fun t =>
      t.pole.conflict = true ∧ t.pole.slaves = [] ∧ t.pole.out = [] ∧ t.isMaster = false := by
  have hguard : (s.poleUp && s.isMaster && decide (3 ≤ s.pole.foreign + b2n s.pole.self.marked)) = true := by
    simp [State.isMaster, hup, hm, hc, h3]
  refine ⟨_, if_pos hguard, ?_⟩
  simp only [State.isMaster, State.later_pole, recordFault_pole, Bool.not_true, Bool.and_false, and_self]

end

/-- Settles O54, command by command. -/
theorem poleLinkAndAdmission : Obligations.PoleLinkAndAdmission := by
  unfold Obligations.PoleLinkAndAdmission
  refine ⟨⟨fun s m arrival hup hlen hcrc => ⟨exec_markerReceived_of_master hup hlen hcrc, fun hs hnone => ?marker⟩,
      fun s hup => exec_echo_of_turn hup, fun s hup => if_pos hup, fun s rtt hup => echoReplyReceived_completes hup rtt⟩,
    fun s hup => discover_completes hup, fun s source payload hup hm => ⟨fun hc hb => exec_hello_of_valid hup hm hc hb,
      exec_hello_of_invalid hup source payload hm⟩, fun s payload hup => poleAdmit_completes hup payload,
    fun s e hup => admissionEffective_of_slave hup, fun s n e hup => admissionEffective_of_master hup,
    fun s reason hup => refuse_completes hup reason, fun s h1 h64 => if_pos ⟨h1, h64⟩, fun s hup => secondMaster_completes hup⟩
  case marker => exact ⟨_, exec_markerReceived_of_unmeasured hup hlen hcrc hs hnone, rfl, rfl, rfl, rfl⟩

end Sys2Proof.Machine
end

section
/-!
PROOFS. PoleReports: what a master does with its slaves' items, STATUS, losses, reports and relays, and a slave that is stranded (R422,
R434-R441).
-/

namespace Sys2Proof.Machine

/-! ## Reports at the master (R434, R436, R437, R439, R441) -/

/-- A device strapped master that met no second one is the master (R430). -/
theorem isMaster_of_alone {s : State} (hm : s.isSlave = false) (hc : s.pole.conflict = false) : s.isMaster = true := by
  rw [State.isMaster, hm, hc, Bool.not_false, Bool.and_self]

section
variable {s : State} {source : Nat} (hup : s.poleUp = true) (hm : s.isSlave = false) (hc : s.pole.conflict = false)
include hup hm hc

/-- A valid item of an ACTIVE slave is held for its due stroke; one that is late for it is counted and held for this one. -/
theorem exec_poleItem_of_active {cls idx seq due : Nat} {val : Bytes} (hactive : s.slaveUp source = true)
    (hcls : cls = 6 ∨ cls = 7 ∨ cls = 9) (hdue : due ≠ s.sys.stroke) : exec (.poleItem source cls idx seq val due true) s =
      .next { (if due < s.sys.stroke then s.countUp 146 1 else s) with pole := { s.pole with items := s.pole.items ++
        [⟨if due < s.sys.stroke then s.sys.stroke else due, cls, 32 * source + idx % 32, seq % 2 ^ 16, val⟩] } } := by
  have hsent : (cls == 6 || cls == 7 || cls == 9) = true := by simpa [or_assoc] using hcls
  have hnow : (due == s.sys.stroke) = false := beq_eq_false_iff_ne.2 hdue
  show execPoleItem source cls idx seq val due true s = _
  simp only [execPoleItem, hup, hm, isMaster_of_alone hm hc, hactive, hsent, hnow, Bool.not_true, Bool.and_self, Bool.false_and,
    Bool.or_false, Bool.false_eq_true, if_false, if_true, decide_eq_true_eq]
  split <;> rfl

theorem exec_poleItem_of_early (cls idx seq : Nat) (val : Bytes) (due : Nat) (hactive : s.slaveUp source = true)
    (hcls : cls = 6 ∨ cls = 7 ∨ cls = 9) (hdue : s.sys.stroke < due) : exec (.poleItem source cls idx seq val due true) s =
      .next { s with pole := { s.pole with
        items := s.pole.items ++ [⟨due, cls, 32 * source + idx % 32, seq % 2 ^ 16, val⟩] } } := by
  have hlate : ¬ due < s.sys.stroke := by omega
  rw [exec_poleItem_of_active hup hm hc hactive hcls (by omega), if_neg hlate, if_neg hlate]

theorem poleItem_of_late (cls idx seq : Nat) (val : Bytes) (due : Nat) (hactive : s.slaveUp source = true)
    (hcls : cls = 6 ∨ cls = 7 ∨ cls = 9) (hdue : due < s.sys.stroke) :
    Completes (.poleItem source cls idx seq val due true) s fun t => t.shadow 146 = (s.shadow 146 + 1) % 2 ^ 32 ∧
      t.pole.items = s.pole.items ++ [⟨s.sys.stroke, cls, 32 * source + idx % 32, seq % 2 ^ 16, val⟩] := by
  have hx := exec_poleItem_of_active (idx := idx) (seq := seq) (val := val) hup hm hc hactive hcls (by omega : due ≠ s.sys.stroke)
  rw [if_pos hdue, if_pos hdue] at hx
  exact ⟨_, hx, shadow_countUp s 146 1, rfl⟩

theorem poleStatus_of_changed (payload : Bytes) (hadm : s.admitted.contains source = true)
    (hnew : (s.slaveRec source).status ≠ padTo 8 payload) : Completes (.poleStatus source payload) s fun t =>
      (t.slaveRec source).status = padTo 8 payload ∧ (t.slaveRec source).missed = 0 ∧ Offered s t 10 source (padTo 8 payload) := by
  have hx : exec (.poleStatus source payload) s = .next ((s.setSlave source fun r => { r with
      status := padTo 8 payload, fresh := true, missed := 0 }).offer 10 source (padTo 8 payload) [14]) := by
    show execPoleStatus source payload s = _
    simp only [execPoleStatus, hup, hm, isMaster_of_alone hm hc, hadm, hnew, Bool.not_true, Bool.and_self, Bool.false_eq_true,
      if_false, if_true]
  refine ⟨_, hx, ?_, ?_, offered_of_same_queue (t := s.setSlave source _) rfl rfl (offered_offer ..)⟩
  all_goals rw [slaveRec_offer (s := s.setSlave source _) hm, slaveRec_setSlave]

theorem exec_learnReport_of_admitted (v : Nat) (hadm : s.admitted.contains source = true) :
    exec (.learnReport source v) s = .next (s.offer 10 source (beBytes 1 v) [16]) := by
  show execLearnReport source v s = _
  simp only [execLearnReport, hup, hm, isMaster_of_alone hm hc, hadm, Bool.not_true, Bool.and_self, Bool.false_eq_true, if_false,
    if_true]

theorem exec_relayResponse_of_open (msg : Bytes) (hopen : (s.slaveRec source).relay ≠ none) :
    exec (.relayResponse source msg) s = .next (s.offer 10 source (padTo 240 msg) [18]) := by
  have hsome : (s.slaveRec source).relay.isSome = true := Option.isSome_iff_ne_none.2 hopen
  show execRelayResponse source msg s = _
  simp only [execRelayResponse, hup, hm, isMaster_of_alone hm hc, hsome, Bool.not_true, Bool.and_self, Bool.false_eq_true, if_false,
    if_true]

theorem slaveLost_completes (hadm : s.admitted.contains source = true) (h3 : 3 ≤ (s.slaveRec source).missed) :
    Completes (.slaveLost source) s fun t => (t.slaveRec source).missed = 0 ∧ t.shadow 145 = (s.shadow 145 + 1) % 2 ^ 32 ∧
      Offered s t 10 source (zeros 8) := by
  have hguard : (s.poleUp && s.isMaster && s.admitted.contains source && decide (3 ≤ (s.slaveRec source).missed)) = true := by
    rw [hup, isMaster_of_alone hm hc, hadm, decide_eq_true h3, Bool.and_self, Bool.and_self, Bool.and_self]
  refine ⟨_, if_pos hguard, ?_, ?_,
    offered_of_same_queue (t := (s.setSlave source fun r => { r with missed := 0 }).countUp 145 1) rfl rfl (offered_offer ..)⟩
  · rw [slaveRec_offer (s := (s.setSlave source _).countUp 145 1) hm]
    exact congrArg SlaveRec.missed (slaveRec_setSlave s source fun r => { r with missed := 0 })
  · rw [shadow_of_ink (offer_ink ..), shadow_countUp]
    rfl

end

/-- A relay unanswered for 64 strokes is given up with BUSY (R441). -/
theorem exec_relayTimeout_of_overdue {s : State} (n : Nat) (x : Nat × Nat) (hx : (s.slaveRec n).relay = some x) (hw : s.working = true)
    (h64 : x.1 + 64 ≤ s.sys.stroke) (hnone : s.effects = []) : exec (.relayTimeout n) s =
      .next (s.stage (plainUnit (10 * 2 ^ 24 + n * 2 ^ 16) [.slaveRelay n none,
        .obj (0x601200 + n) (padTo 240 (ledgerMsg 2 stBUSY x.2 0 0 (stampBytes s.stamp))), .count 148 1] [])) := by
  show execRelayTimeout n s = _
  simp only [execRelayTimeout, hx, hw, h64, hnone, List.contains_nil, decide_true, Bool.not_false, Bool.and_self, if_true]

/-- Settles O56, report by report. -/
theorem poleReports : Obligations.PoleReports := by
  unfold Obligations.PoleReports
  refine ⟨fun s source hup hm hc => ⟨exec_poleItem_of_early hup hm hc, poleItem_of_late hup hm hc, poleStatus_of_changed hup hm hc,
      exec_learnReport_of_admitted hup hm hc, exec_relayResponse_of_open hup hm hc, slaveLost_completes hup hm hc⟩,
    fun s n x hx hw h64 hnone => exec_relayTimeout_of_overdue n x hx hw h64 hnone, fun s hup hs hadm h3 => ?stranded⟩
  case stranded => exact ⟨_, if_pos (by simp [hup, hs, hadm, h3]), rfl, rfl, rfl, rfl⟩

end Sys2Proof.Machine
end

section
/-!
PROOFS. ImageActivation: the steps of an activation, its rollback and its hold timeout (R474).
-/

namespace Sys2Proof.Machine

section
variable {s : State} {a : Activation}

/-- A group of the copy voids the target's seal before it takes three pages, and takes four thereafter. -/
abbrev Activation.group (a : Activation) : Nat := if a.voided then 4 else 3

/-- What a group that copies `n` pages stages. -/
def State.copyUnit (s : State) (a : Activation) (n : Nat) : Staged :=
  { actUnit ((if a.voided then [] else [.slotSeal none]) ++
      [.slotPages a.nextPage ((List.range n).map fun i => s.memRead (a.granule * 4096 + (a.nextPage + i) * 256) 256),
        .act (some { a with voided := true, nextPage := a.nextPage + n, refused := 0 })] ++
      (if decide (383 ≤ a.nextPage + n) then [s.actEntry a fun e => s.phased e 1] else [])) with
    need := .phase, held := a.held }

theorem exec_activationCopy_of_copying (h : s.actAt 0 = some a) :
    exec .activationCopy s = .next (s.stage (s.copyUnit a (min a.group (383 - a.nextPage)))) := by
  show execActivationCopy s = _
  simp only [execActivationCopy, h]
  rfl

/-- A group that does not reach the last page copies whole and leaves the phase. -/
theorem activationCopy_of_more (h : s.actAt 0 = some a) (hmore : a.nextPage + a.group < 383) :
    Completes .activationCopy s fun t => ∃ u, t = s.stage u ∧ u.need = .phase ∧ u.effs = (if a.voided then [] else [.slotSeal none]) ++
      [.slotPages a.nextPage ((List.range a.group).map fun i => s.memRead (a.granule * 4096 + (a.nextPage + i) * 256) 256),
        .act (some { a with voided := true, nextPage := a.nextPage + a.group, refused := 0 })] := by
  have hmin : min a.group (383 - a.nextPage) = a.group := by omega
  have hx := exec_activationCopy_of_copying h
  rw [hmin] at hx
  refine ⟨_, hx, _, rfl, rfl, ?_⟩
  simp only [State.copyUnit, actUnit, plainUnit, Nat.not_le.2 hmore, decide_false, Bool.false_eq_true, if_false, List.append_nil]

/-- The group that reaches the last page brings PHASE 1. -/
theorem activationCopy_of_last (h : s.actAt 0 = some a) (hlast : 383 ≤ a.nextPage + a.group) :
    Completes .activationCopy s fun t => ∃ u, t = s.stage u ∧ u.carries (s.actEntry a fun e => s.phased e 1) := by
  have hend : 383 ≤ a.nextPage + min a.group (383 - a.nextPage) := by omega
  refine ⟨_, exec_activationCopy_of_copying h, _, rfl, ?_⟩
  rw [Staged.carries, State.copyUnit, decide_eq_true hend, if_pos rfl]
  exact List.mem_append_right _ (List.mem_singleton.2 rfl)

theorem exec_activationVerified_of_verifying (h : s.actAt 1 = some a) : exec .activationVerified s = .next (s.stage (actUnit
    (if s.targetPasses a then [.act (some a), s.actEntry a fun e => s.phased e 2]
      else [.act none, s.actEntry a fun e => s.closed e 3 stDENIED]))) := by
  show execActivationVerified s = _
  simp only [execActivationVerified, h]
  split <;> rfl

theorem exec_activationVerified_of_pass (h : s.actAt 1 = some a) (hpass : s.targetPasses a = true) :
    exec .activationVerified s = .next (s.stage (actUnit [.act (some a), s.actEntry a fun e => s.phased e 2])) := by
  rw [exec_activationVerified_of_verifying h, if_pos hpass]

theorem exec_activationVerified_of_fail (h : s.actAt 1 = some a) (hfail : s.targetPasses a = false) :
    exec .activationVerified s = .next (s.stage (actUnit [.act none, s.actEntry a fun e => s.closed e 3 stDENIED])) := by
  rw [exec_activationVerified_of_verifying h, hfail, if_neg Bool.false_ne_true]

theorem activationSealed_completes (h : s.actAt 2 = some a) : Completes .activationSealed s fun t => ∃ u, t = s.stage u ∧ u.need = .phase ∧
    u.carries (.slotSeal (some s.newSeal)) ∧ u.carries (s.actEntry a fun e => s.phased e 3) := by
  have hx : exec .activationSealed s = .next (s.stage { actUnit [.slotSeal (some s.newSeal), .act (some { a with refused := 0 }),
      s.actEntry a fun e => s.phased e 3] with need := .phase, held := a.held }) := by
    show execActivationSealed s = _
    simp only [execActivationSealed, h]
  exact ⟨_, hx, _, rfl, rfl, List.mem_cons_self, List.mem_cons_of_mem _ (List.mem_cons_of_mem _ List.mem_cons_self)⟩

/-- The cell words that raise the floors to those of the slot that is not running. -/
def State.floorWrites (s : State) : List CellWrite :=
  (if s.tally 17 < (s.slot (!s.img.bootB)).sealPage.mainFloor then [.tally 17 (s.slot (!s.img.bootB)).sealPage.mainFloor] else []) ++
    (if s.tally 18 < (s.slot (!s.img.bootB)).sealPage.ucodeFloor then [.tally 18 (s.slot (!s.img.bootB)).sealPage.ucodeFloor] else [])

theorem activationCommitted_completes (h : s.actAt 3 = some a) : Completes .activationCommitted s fun t => ∃ u, t = s.stage u ∧
    u.need = .phase ∧ u.carries .imagePending ∧ u.carries (s.actEntry a fun e => s.phased e 4) ∧
      u.cells.head? = some (.tally 16 (s.tally 16 + 1)) := by
  have hx : exec .activationCommitted s = .next (s.stage { actUnit [.act (some { a with refused := 0 }), .imagePending,
      s.actEntry a fun e => s.phased e 4] with
        need := .phase, held := a.held, cells := .tally 16 (s.tally 16 + 1) :: s.floorWrites }) := by
    show execActivationCommitted s = _
    simp only [execActivationCommitted, h, List.cons_append]
    rfl
  exact ⟨_, hx, _, rfl, rfl, List.mem_cons_of_mem _ List.mem_cons_self,
    List.mem_cons_of_mem _ (List.mem_cons_of_mem _ List.mem_cons_self), rfl⟩

theorem exec_activationHoldTimeout_of_refused (h : s.actNow = some a) (hw : s.working = true) (href : 1000 ≤ a.refused)
    (hopen : (s.inflightAt a.pos).isOpen = true) : exec .activationHoldTimeout s =
      .next (s.stage (actUnit [.act none, s.actEntry a fun e => s.closed e 3 stINKWELL_LOW_HOLD])) := by
  show execActivationHoldTimeout s = _
  simp only [execActivationHoldTimeout, h, hw, href, hopen, decide_true, Bool.and_self, if_true]

end

/-- Settles O35, step by step. -/
theorem imageActivation : Obligations.ImageActivation := by
  unfold Obligations.ImageActivation
  exact fun s a => ⟨activationCopy_of_more, activationCopy_of_last, exec_activationVerified_of_pass, exec_activationVerified_of_fail,
    activationSealed_completes, activationCommitted_completes, exec_activationHoldTimeout_of_refused⟩

end Sys2Proof.Machine
end

section
/-!
PROOFS. FolioExport: selection, sealing, delivery and acknowledgement timeout of a block of Folio (R457, R459, R460).
-/

namespace Sys2Proof.Machine

section
variable {s : State}

/-- A block of the stream in turn: the records beyond its cursor, from the first to the last. -/
def State.exportBlock (s : State) (n pos : Nat) : Export :=
  ⟨pos, n, (s.exportRecs n).head?.elim 0 (·.seq), (s.exportRecs n).getLast?.elim 0 (·.seq),
    (s.exportRecs n).getLast?.elim Stamp.zero (·.stamp), (s.exportRecs n).flatMap (FRec.bytes n)⟩

theorem exec_exportSelection_of_idle {n pos : Nat} (hw : s.working = true) (hnone : s.openEntry 6 = none) (hidle : s.portsIdle = true)
    (hn : s.exportStream = some n) (hp : s.inflightSlot = some pos) : exec .exportSelection s =
      .next (s.stage (plainUnit 0x05020000 [.exportStart (s.exportBlock n pos),
        .inflight pos (s.newEntry 6 2 (s.exportBlock n pos).first 1 firmware), .quillQueue ⟨2, 6, 4, 0x44, none, exportIv (s.exportBlock n pos),
          exportHeader (s.exportBlock n pos), (s.exportBlock n pos).plain, [], 0, []⟩] [])) := by
  show execExportSelection s = _
  simp only [execExportSelection, hw, hnone, hidle, hn, hp, Option.isSome_none, Bool.not_true, Bool.or_self, Bool.false_eq_true, if_false]
  rfl

theorem exportSelection_completes {n pos : Nat} (hw : s.working = true) (hnone : s.openEntry 6 = none) (hidle : s.portsIdle = true)
    (hn : s.exportStream = some n) (hp : s.inflightSlot = some pos) : Completes .exportSelection s fun t => ∃ u e, t = s.stage u ∧
      u.carries (.exportStart e) ∧ e.pos = pos ∧ e.stream = n ∧ e.plain = (s.exportRecs n).flatMap (FRec.bytes n) ∧
      u.carries (.inflight pos (s.newEntry 6 2 e.first 1 firmware)) ∧
      u.carries (.quillQueue ⟨2, 6, 4, 0x44, none, exportIv e, exportHeader e, e.plain, [], 0, []⟩) :=
  ⟨_, exec_exportSelection_of_idle hw hnone hidle hn hp, _, s.exportBlock n pos, rfl, List.mem_cons_self, rfl, rfl, rfl,
    List.mem_cons_of_mem _ List.mem_cons_self, List.mem_cons_of_mem _ (List.mem_cons_of_mem _ List.mem_cons_self)⟩

/-- The gathered completion is that of the seal of a block of Folio. -/
def Item.isExportSeal (i : Item) : Bool := i.cls == 5 && i.idx == 2 && i.aux.take 2 == [100, 6]

section
variable {i : Item} {e : Export} (hi : s.gathered.find? Item.isExportSeal = some i) (he : s.folio.exporting = some e)
  (hw : s.working = true) (hopen : (s.inflightAt e.pos).isOpen = true)
include hi he hw hopen

/-- The seal's completion delivers the block, or the block is rolled back with its status (R459). -/
theorem exec_exportDelivery_of_sealed : exec .exportDelivery s = .next ((s.consume i).stage (plainUnit i.key
    (if byteAt i.val 0 = stOK then
      [.exportEnd true (exportHeader e ++ toBytes (i.aux.drop 3)), .inflight e.pos (s.closed (s.phased (s.inflightAt e.pos) 2) 2 stOK)]
    else [.exportEnd false [], .inflight e.pos (s.closed (s.inflightAt e.pos) 3 (byteAt i.val 0))]) [])) := by
  have hi' : s.gathered.find? (fun i => i.cls == 5 && i.idx == 2 && i.aux.take 2 == [100, 6]) = some i := hi
  show execExportDelivery s = _
  simp only [execExportDelivery, hi', he, hw, hopen, Bool.not_true, Bool.false_eq_true, if_false]
  split <;> rfl

theorem exec_exportDelivery_of_ok (hok : byteAt i.val 0 = stOK) : exec .exportDelivery s = .next ((s.consume i).stage (plainUnit i.key
    [.exportEnd true (exportHeader e ++ toBytes (i.aux.drop 3)),
      .inflight e.pos (s.closed (s.phased (s.inflightAt e.pos) 2) 2 stOK)] [])) := by
  rw [exec_exportDelivery_of_sealed hi he hw hopen, if_pos hok]

theorem exec_exportDelivery_of_failed (hbad : byteAt i.val 0 ≠ stOK) : exec .exportDelivery s = .next ((s.consume i).stage (plainUnit i.key
    [.exportEnd false [], .inflight e.pos (s.closed (s.inflightAt e.pos) 3 (byteAt i.val 0))] [])) := by
  rw [exec_exportDelivery_of_sealed hi he hw hopen, if_neg hbad]

end

/-- A stop stream not acknowledged in time exports again from its acknowledged point (R460). -/
theorem exec_ackTimeout_of_due (n u : Nat) (hdue : (s.stream n).ackDue = some u) (hpast : u ≤ s.sys.stroke) :
    exec (.ackTimeout n) s = .next (s.setStream n { s.stream n with cursor := (s.stream n).acked, ackDue := none }) := by
  show execAckTimeout n s = _
  simp only [execAckTimeout, hdue, hpast, if_true]

end

/-- Settles O36, command by command. -/
theorem folioExport : Obligations.FolioExport := by
  unfold Obligations.FolioExport
  exact ⟨fun s n pos => exportSelection_completes, fun s i e hi he hw hopen => ⟨exec_exportDelivery_of_ok hi he hw hopen,
    exec_exportDelivery_of_failed hi he hw hopen⟩, fun s => exec_ackTimeout_of_due⟩

end Sys2Proof.Machine
end
